-- ==== Sys2Proof/Word.lean ====
section
/-!
DEFINITION. The word types of the Lomajen 460. The manual gives almost every quantity as a whole number in a unit
(0.6.1, TABLE V), so quantities are `Nat` or `Int`; only what the manual treats as bits is a bit vector.
-/

namespace Sys2Proof

/-- One byte of a frame or of a plan sector (11.7, TABLE LXX). -/
abbrev Byte := BitVec 8

/-- A set of paging zones: one byte in which bit z is set for paging zone z (11.7.1). -/
abbrev ZoneSet := BitVec 8

/-- The six sense rows of one column of the key matrix; a set bit is a row read closed (R183). -/
abbrev Rows := BitVec 6

end Sys2Proof
end

