-- ==== Sys2Proof/Syntax.lean ====
section
/-!
DEFINITION. The named sets of the manual (TABLE VII, TABLE VIII and the chapters), the operands of the commands, and
`Instr`: one constructor for each row of spec/opcode_table.json.

Operands are carried as they stand in the request, before any check: a field that may lie outside its range is a `Nat`,
and a field that names a member of a set whose byte codes the manual does not give is an `Option`, with `none` for a
code that names no member. The owning block checks them (R4, R27, R31, R153, R198 ...).
-/

namespace Sys2Proof

/-! ## Named states and causes (TABLE VII) -/

/-- A plan letter, naming one of sectors 0 to 3 (2.1.2). -/
inductive PlanLetter where
  | a | b | c | d
  deriving DecidableEq, Repr

/-- The phase of the performance (TABLE XI). The act of RUNNING is the record's act, and the interval of INTERVAL is the
record's interval number (R8, R9), so neither is stored twice. -/
inductive Phase where
  | dark | prepare | houseOpen | running | interval | resuming | stopped | evacuate | closed
  deriving DecidableEq, Repr

/-- The issuer of a request (TABLE III, Source). -/
inductive Source where
  | link | plan | desk | safety
  deriving DecidableEq, Repr

/-- The cause of a reset, carried by the RESET notice (R194). -/
inductive ResetCause where
  | powerOn | resetInput | restart
  deriving DecidableEq, Repr

/-- Call class (8.2.1). -/
inductive CallClass where
  | evac | alert | showClass | houseClass
  deriving DecidableEq, Repr

/-- The limit state of an analogue line, and the side on which a filtered value lies (R180). -/
inductive LimitState where
  | normal | low | high
  deriving DecidableEq, Repr

/-- The eighteen refusal reasons (TABLE VIII), in the order of the table. -/
inductive Reason where
  | unknownKind | badLength | badField | wrongPhase | wrongState | busy | locked | noPlan | planBad | notProven
  | notReady | alarmActive | queueFull | zonesBarred | overridden | limit | conditionPresent | unknownId
  deriving DecidableEq, Repr

/-! ## House lighting, fire, calls and desk: configuration values -/

/-- Class of a lighting channel (TABLE XXXIII). -/
inductive ChannelClass where
  | auditorium | aisle | foyer
  deriving DecidableEq, Repr

/-- Output curve of a lighting channel (R100). -/
inductive Curve where
  | linear | square
  deriving DecidableEq, Repr

/-- Type of a loop device (TABLE XL). -/
inductive DeviceType where
  | smoke | heat | callpoint | beam | input
  deriving DecidableEq, Repr

/-- Class of a fire zone (TABLE XLVII). -/
inductive ZoneClass where
  | stage | auditorium | front | backstage
  deriving DecidableEq, Repr

/-- Desk mode (R187). -/
inductive DeskMode where
  | act | report | both
  deriving DecidableEq, Repr

/-- The five phase requests a PHASE key may issue (TABLE LXIII). -/
inductive DeskPhaseRequest where
  | openHouse | begin | interval | endShow | resume
  deriving DecidableEq, Repr

/-- Key actions with their arguments (TABLE LXIII). -/
inductive KeyAction where
  | phase (request : DeskPhaseRequest)
  | showStop
  | evacuate
  | fireFull
  | call (template : Nat)
  | curtainLower
  | curtainRaise
  | curtainHalt
  | lightsGo (preset : Nat)
  | houseFull
  | fireAck
  | fireSilence
  | none
  deriving DecidableEq, Repr

/-- Lamp conditions (TABLE LXIV). -/
inductive LampCondition where
  | phase (p : Phase)
  | staffAlert | full | silenced
  | curtainUp | curtainDown | curtainMoving | curtainFault | curtainProven
  | callPlaying | announcerFailed | stepDue | refused | none
  deriving DecidableEq, Repr

/-! ## Plans (chapter 2) -/

/-- One entry of the phase lighting map: a preset, 255 for no change, and a fade time in 0.1 s (TABLE XVII). -/
structure MapEntry where
  preset : Nat
  fade   : Nat
  deriving DecidableEq, Repr

/-- A plan header (TABLE XVII), as carried by PLAN-OPEN in the layout of TABLE LXX. -/
structure PlanHeader where
  /-- The 12 character codes of the name. -/
  name      : List Nat
  acts      : Nat
  /-- Interval lengths 1, 2 and 3, in seconds. -/
  interval1 : Nat
  interval2 : Nat
  interval3 : Nat
  /-- The lighting map of the five mapped phases. -/
  prepare   : MapEntry
  houseOpen : MapEntry
  running   : MapEntry
  interval  : MapEntry
  closed    : MapEntry
  deriving DecidableEq, Repr

/-- A step record in the layout of TABLE LXX: anchor and action are the codes the table gives. -/
structure StepRecord where
  anchor   : Nat
  /-- Signed seconds. -/
  offset   : Int
  action   : Nat
  argument : Nat
  zones    : ZoneSet
  fade     : Nat
  deriving DecidableEq, Repr

/-- A step slot of a plan sector (R23): BLANK, WRITTEN with its record as stored, or DAMAGED. -/
inductive Slot where
  | blank
  | written (record : StepRecord)
  | damaged
  deriving DecidableEq, Repr, Inhabited

/-- A header field, in the order in which R27 names the first failing one. -/
inductive HeaderField where
  | name | acts
  | interval1 | interval2 | interval3
  | prepare | houseOpen | running | interval | closed
  deriving DecidableEq, Repr

/-- What PLAN-READ asks for (R35). -/
inductive PlanSelect where
  | header
  | slots (first count : Nat)
  deriving DecidableEq, Repr

/-! ## Calls (chapter 8) -/

/-- A call body in the layout of TABLE LXXI: class 0 to 3, slot 0 to 63 or 255. -/
structure CallBody where
  cls     : Nat
  slot    : Nat
  zones   : ZoneSet
  bell    : Nat
  repeats : Nat
  gap     : Nat
  deriving DecidableEq, Repr

/-! ## Configuration values in force, and as CONFIG-SET carries them -/

/-- The curtain parameters (TABLE XXIII), with the manual's short names. -/
structure CurtainParams where
  /-- Travel H, mm. -/
  travel     : Nat
  /-- Counts per 100 mm, C. -/
  counts     : Nat
  /-- Slow-zone height S, mm. -/
  slowZone   : Nat
  /-- Ramp length L, mm. -/
  ramp       : Nat
  /-- Main speed Vm, mm/s. -/
  mainSpeed  : Nat
  /-- Slow speed Vs, mm/s. -/
  slowSpeed  : Nat
  /-- Gain G. -/
  gain       : Nat
  /-- Release command u0. -/
  release    : Nat
  /-- Maximum drop time Tmax, in 0.1 s. -/
  maxDrop    : Nat
  /-- Raise limit Traise, s. -/
  raiseLimit : Nat
  /-- Stop warning, s. -/
  warning    : Nat
  /-- Obstruction hold, s. -/
  hold       : Nat
  deriving DecidableEq, Repr

/-- The configuration fields of a channel record (TABLE XXXIII). -/
structure ChannelConfig where
  cls   : ChannelClass
  trim  : Nat
  curve : Curve
  hold  : Bool
  floor : Nat
  deriving DecidableEq, Repr

/-- A channel record as CONFIG-SET carries it; `floor := none` sets no aisle floor (R88). -/
structure ChannelWrite where
  cls   : Option ChannelClass
  trim  : Nat
  curve : Option Curve
  hold  : Bool
  floor : Option Nat
  deriving DecidableEq, Repr

/-- A device table entry (TABLE XL). -/
structure DeviceConfig where
  type     : DeviceType
  zone     : Nat
  preAlarm : Nat
  alarm    : Nat
  enabled  : Bool
  deriving DecidableEq, Repr

/-- A device table entry as CONFIG-SET carries it. -/
structure DeviceWrite where
  type     : Option DeviceType
  zone     : Nat
  preAlarm : Nat
  alarm    : Nat
  enabled  : Bool
  deriving DecidableEq, Repr

/-- The configuration fields of a zone entry (TABLE XLVII). -/
structure ZoneConfig where
  cls   : ZoneClass
  delay : Bool
  deriving DecidableEq, Repr

/-- A zone entry as CONFIG-SET carries it. -/
structure ZoneWrite where
  cls   : Option ZoneClass
  delay : Bool
  deriving DecidableEq, Repr

/-- Acknowledge time, investigation time (s), staff-alert and evacuation template numbers, 255 for none (R136, R137, R141). -/
structure FireTimes where
  acknowledge   : Nat
  investigation : Nat
  staffTemplate : Nat
  evacTemplate  : Nat
  deriving DecidableEq, Repr

/-- Stop fade time and house-full time, in 0.1 s (R96, R98). -/
structure LightTimes where
  stopFade  : Nat
  houseFull : Nat
  deriving DecidableEq, Repr

/-- A template in force (R151): `slot := none` is the message slot none. -/
structure Template where
  cls     : CallClass
  slot    : Option Nat
  zones   : ZoneSet
  bell    : Nat
  repeats : Nat
  gap     : Nat
  deriving DecidableEq, Repr

/-- A bell pattern: segments of an on time and an off time, in units of 50 ms (R152). -/
abbrev BellPattern := List (Nat × Nat)

/-- The limits of one line-monitor channel (R180). -/
structure Limits where
  low  : Nat
  high : Nat
  deriving DecidableEq, Repr

/-- Scan order, dwell (ms), debounce (units of 4 ms) and desk mode (R183, R187). -/
structure DeskSettings where
  order    : List Nat
  dwell    : Nat
  debounce : Nat
  mode     : DeskMode
  deriving DecidableEq, Repr

/-- The same item as CONFIG-SET carries it. -/
structure DeskWrite where
  order    : List Nat
  dwell    : Nat
  debounce : Nat
  mode     : Option DeskMode
  deriving DecidableEq, Repr

/-- A key binding (R186). -/
structure KeyBinding where
  action : KeyAction
  long   : Bool
  deriving DecidableEq, Repr

/-- A key binding as CONFIG-SET carries it; `none` is an action, or a PHASE argument, that is not of TABLE LXIII. -/
structure KeyWrite where
  action : Option KeyAction
  long   : Bool
  deriving DecidableEq, Repr

/-- A lamp binding (R189). -/
structure LampBinding where
  condition : LampCondition
  flashing  : Bool
  deriving DecidableEq, Repr

/-- A lamp binding as CONFIG-SET carries it; `none` is a condition, or a phase argument, that is not of TABLE LXIV. -/
structure LampWrite where
  condition : Option LampCondition
  flashing  : Bool
  deriving DecidableEq, Repr

/-- A configuration item with its index (TABLE LXVII). -/
inductive ConfigItem where
  | curtain
  | channel (index : Nat)
  | preset (index : Nat)
  | lightTimes
  | device (index : Nat)
  | scanList
  | zone (index : Nat)
  | fireTimes
  | template (index : Nat)
  | bell (index : Nat)
  | stopTemplate
  | limits (index : Nat)
  | desk
  | keyBinding (index : Nat)
  | lampBinding (index : Nat)
  | deskFade
  | unknown (code : Nat)
  deriving DecidableEq, Repr

/-- A CONFIG-SET: the item, its index and its whole value (R198). -/
inductive ConfigWrite where
  | curtain (value : CurtainParams)
  | channel (index : Nat) (value : ChannelWrite)
  | preset (index : Nat) (levels : List Nat)
  | lightTimes (value : LightTimes)
  | device (index : Nat) (value : DeviceWrite)
  | scanList (addresses : List Nat)
  | zone (index : Nat) (value : ZoneWrite)
  | fireTimes (value : FireTimes)
  | template (index : Nat) (value : CallBody)
  | bell (index : Nat) (value : BellPattern)
  | stopTemplate (value : Nat)
  | limits (index : Nat) (value : Limits)
  | desk (value : DeskWrite)
  | keyBinding (index : Nat) (value : KeyWrite)
  | lampBinding (index : Nat) (value : LampWrite)
  | deskFade (value : Nat)
  | unknown (code : Nat)
  deriving DecidableEq, Repr

/-! ## The loop (chapter 6) -/

/-- The type code of a loop reply: a type of TABLE XL, or a code that names none of them (TABLE XLII). -/
inductive TypeCode where
  | known (t : DeviceType)
  | other (code : Nat)
  deriving DecidableEq, Repr

/-- The four bytes of a loop reply, in the order in which they arrive (R111). -/
structure ReplyBytes where
  typeCode : Nat
  value    : Nat
  status   : Nat
  sum      : Nat
  deriving DecidableEq, Repr

/-- The meaning of the bytes of a loop reply (TABLE XLII). -/
structure LoopReply where
  type     : TypeCode
  value    : Nat
  operated : Bool
  fault    : Bool
  test     : Bool
  deriving DecidableEq, Repr

/-- What one loop end received in a device poll's slot, with times in microseconds from the poll (R112).
DESIGN CHOICE (log 64): TABLE XLII numbers neither the type codes nor the flags of the status byte, so the type that the
type code names and the three flags stand beside the bytes. -/
structure Reception where
  /-- When the first byte began; `none` where no byte was received within the slot. -/
  firstByte : Option Nat
  /-- When the fourth byte was complete; `none` where fewer than four were received within the slot. -/
  complete  : Option Nat
  /-- A byte arrived between 20 ms and the end of the slot. -/
  lateByte  : Bool
  /-- The four bytes; read only where all four were received. -/
  bytes     : ReplyBytes
  /-- The type of TABLE XL that the type code names; `none` where it names none of them. -/
  names     : Option DeviceType
  /-- The three flags of the status byte. -/
  operated  : Bool
  fault     : Bool
  test      : Bool
  deriving DecidableEq, Repr

/-! ## The link (chapter 11) -/

/-- The request kinds LP knows. -/
inductive RequestKind where
  | arm | openHouse | begin | interval | endShow | showStop | resume | evacuate | close | disarm | performanceRead
  | planOpen | planPut | planSeal | planErase | planRead | stepRead | extend
  | curtainRaise | curtainLower | curtainTest | curtainHalt | curtainClear | curtainRead
  | presetWrite | lightsGo | houseFull | lightsRestore | lightsRead
  | deviceRead | deviceCounts | zoneIsolate | zoneRestore | fireAck | fireFull | fireSilence | fireReset
  | walkTest | walkTestEnd | fireRead
  | templateWrite | call | callTemplate | announcerReset | callCancel | queueRead
  | interlockRead | sampleRead | deskRead
  | identify | linkCounts | status | restart | configSet | configGet | configStore
  deriving DecidableEq, Repr

/-- Why LP itself refuses an admitted frame (R192). -/
inductive KindFault where
  /-- The KIND is not a request kind. -/
  | notRequest (code : Nat)
  /-- The body length does not suit the kind. -/
  | badLength (kind : RequestKind)
  deriving DecidableEq, Repr

/-- The bytes received of a frame after its SYNC, LEN first, in order; `missingStop` says that the last of them has a missing
stop bit (R191). -/
structure FrameBytes where
  received    : List Nat
  missingStop : Bool
  deriving DecidableEq, Repr

/-- Why LP discards a frame while receiving it (R191). -/
inductive FrameFault where
  /-- LEN is 0 or above 60. -/
  | badLen
  /-- The bytes from LEN through CHECK do not total 0. -/
  | badSum
  /-- A byte had a missing stop bit. -/
  | missingStop
  deriving DecidableEq, Repr

/-! ## The commands -/

/-- The commands of the part: one constructor for each row of spec/opcode_table.json. A row that is a request stands for
the completion of that request's frame at the link port (R191, R192), so its source is LINK; the same request from the
plan runner, the desk or the part itself arises inside the steps that issue it. The other rows are the events of the
part's timers and field lines. -/
inductive Instr where
  -- reset
  | resetAssert (cause : ResetCause)
  | resetRelease
  -- chapter 1: phase requests
  | arm (letter : Option PlanLetter)
  | openHouse
  | begin
  | interval
  | endShow
  | showStop
  | resume
  | evacuate
  | close
  | disarm
  | performanceRead
  -- chapter 2: plans
  | planOpen (letter : Option PlanLetter) (header : PlanHeader)
  | planPut (letter : Option PlanLetter) (first count : Nat) (records : List StepRecord)
  | planSeal (letter : Option PlanLetter) (count : Nat)
  | planErase (letter : Option PlanLetter)
  | planRead (letter : Option PlanLetter) (select : PlanSelect)
  | storeOperationEnd (verified : Bool)
  | stepRead (first count : Nat)
  | extend (seconds : Nat)
  | stepDue
  | intervalExpired
  -- chapters 3 and 4: the curtain
  | curtainRaise
  | curtainLower
  | curtainTest
  | curtainHalt
  | curtainClear
  | curtainRead
  | encoderCountChange (count : Nat)
  | topChange (closed : Bool)
  | overtravelChange (closed : Bool)
  | floorChange (closed : Bool)
  | edgeTrip (operated : Bool)
  | obstructionHoldEnd
  | raiseTimeout
  | stopWarningEnd
  | floorTimerExpiry
  | descentWindow
  | timeOnlyLate
  -- chapter 5: house lighting
  | presetWrite (preset : Nat) (levels : List Nat)
  | lightsGo (preset fade : Nat)
  | houseFull
  | lightsRestore
  | lightsRead (clearFault : Bool)
  | fadeEvaluation (channel : Nat)
  -- chapter 6: the detection loop
  | pollSlotStart
  | pollSlotEnd (endA endB : Reception)
  | continuityDue
  | continuityResult (received : Bool)
  | walkIndicationExpiry (address : Nat)
  | deviceRead (address : Nat)
  | deviceCounts (first count : Nat)
  -- chapter 7: zones and fire states
  | zoneIsolate (zone seconds : Nat)
  | zoneRestore (zone : Nat)
  | isolationExpiry (zone : Nat)
  | fireTimerExpiry
  | fireAck
  | fireFull
  | fireSilence
  | fireReset
  | walkTest (zone : Nat)
  | walkTestEnd
  | fireRead (clearFault : Bool)
  -- chapter 8: calls
  | templateWrite (template : Nat) (body : CallBody)
  | call (body : CallBody)
  | callTemplate (template : Nat)
  | settlingEnd
  | bellSegmentEnd
  | playStrobeEnd
  | busyRise
  | busyFall
  | noStart
  | speakingLimitExpiry
  | stopStrobeEnd
  | stopTimeout
  | readyTime (id : Nat)
  | announcerReset
  | callCancel (id : Nat)
  | queueRead (first count : Nat)
  -- chapter 9: interlocks and lines
  | interlockRead
  | lineConversion (code : Nat)
  | sampleRead
  -- chapter 10: the prompt desk
  | columnRead (rows : Rows)
  | debounceExpiry
  | longTimerExpiry
  | refusedIndicationExpiry
  | flashHalfPeriod
  | deskRead
  -- chapter 11: the link
  | frameTimeout
  | frameRejected (bytes : FrameBytes)
  | frameOverrun
  | unknownKind (fault : KindFault)
  | outboundFrameSent
  | identify
  | linkCounts
  | status
  | restart
  | configSet (write : ConfigWrite)
  | configGet (item : ConfigItem)
  | configStore
  | frameSync
  | stepDueWithin60S
  deriving DecidableEq, Repr

end Sys2Proof
end

