-- ==== Sys2Proof/Decode.lean ====
section
/-!
DEFINITION. The command that a table word spells. No row of spec/opcode_table.json gives bits: the commands are requests whose
one-byte codes and body layouts the manual does not number (11.7.1), and events of field lines and timers.
-/

namespace Sys2Proof

/-- No word spells a command, since no row of the table gives bits. -/
def decodeTableWord (nbits w : Nat) : Option Instr :=
  match nbits, w with
  | _, _ => none

end Sys2Proof
end

