-- ==== Sys2Proof/Config.lean ====
section
/-!
DEFINITION. The configuration in force as data, and the free values: constants with no body for what the manual leaves
open, so that a claim about the model holds whatever they are. Each is named in the assumption log.
-/

namespace Sys2Proof

/-- The configuration in force (11.4): every item of TABLE LXVII. CONFIG-STORE copies it whole into sector 4 and a reset
loads it whole (R199, R200). -/
structure Settings where
  curtain      : CurtainParams
  /-- Channels 0 to 11. -/
  channels     : List ChannelConfig
  /-- Presets 0 to 14, twelve levels each; preset 15 is fixed (R90). -/
  presets      : List (List Nat)
  lightTimes   : LightTimes
  /-- Device table entries 1 to 64. -/
  devices      : List DeviceConfig
  scanList     : List Nat
  /-- Zone entries 1 to 16. -/
  zones        : List ZoneConfig
  fireTimes    : FireTimes
  /-- Templates 0 to 15. -/
  templates    : List Template
  /-- Bell patterns 1 to 7. -/
  bells        : List BellPattern
  /-- Stop template number, 255 for none. -/
  stopTemplate : Nat
  /-- Limits of line-monitor channels 0 to 7. -/
  limits       : List Limits
  desk         : DeskSettings
  /-- Key bindings 0 to 47. -/
  keys         : List KeyBinding
  /-- Lamp bindings 0 to 7. -/
  lamps        : List LampBinding
  deskFade     : Nat
  deriving DecidableEq, Repr

/-- FREE. Which of two reactions is taken first, where the manual allows either order (log 3). -/
opaque Config.freeBit : Nat → Bool

/-- FREE. A number the manual leaves open: how far an interrupted program had come (log 4), and which of several events
of one moment is taken next (log 3). -/
opaque Config.freeNat : Nat → Nat

/-- FREE. What a plan sector's header reads as after an operation on it failed or was cut short (log 5). -/
opaque Config.freeHeader : Nat → Option PlanHeader

/-- FREE. What a step slot reads as after an operation on it failed or was cut short (log 5). -/
opaque Config.freeSlot : Nat → Nat → Slot

/-- FREE. How many frames of kind DONE-MORE go before the DONE frame of a reply with a long body: the manual gives no byte
layout of the DONE bodies, so no body's length is fixed (log 6). -/
opaque Config.doneMoreFrames : Nat → Nat

/-- FREE. The place of a header field in the detail byte of a refused PLAN-OPEN, which the manual does not number (log 7). -/
opaque Config.headerFieldPlace : HeaderField → Nat

/-- FREE. The check value of a stored configuration: the sum of the bytes of a copy whose layout the manual does not
give (log 8). -/
opaque Config.configCheck : Settings → Nat

/-- The notices whose class no rule gives: RESET (R194) and the CALL notices of R161, R163, R165 and R166. -/
inductive OpenClass where
  | reset | noStart | failed | restored | played | requeued
  deriving DecidableEq, Repr

/-- FREE. Whether a notice whose class no rule gives is of class ALARM (log 11). -/
opaque Config.noticeIsAlarm : OpenClass → Bool

/-- FREE. The hardware revision of sector 5, before it is brought into 1 to 255 (R195, log 9). -/
opaque Config.hardwareRevision : Nat

/-- FREE. The serial number of sector 5 (R195, log 9). -/
opaque Config.serialNumber : BitVec 32

end Sys2Proof
end

