-- ==== Sys2Proof/Machine/Settings.lean ====
section
/-!
DEFINITION. The default configuration (R47, R88, R90, R96, R98, R109, R114, R130, R136, R137, R141, R151, R152, R180, R183,
R186, R187, R189 and TABLE LXVII), and the accessors through which every block reads an item of the configuration in force.
-/

namespace Sys2Proof

/-- TABLE XXIII. -/
def CurtainParams.defaults : CurtainParams :=
  { travel := 9000, counts := 400, slowZone := 1000, ramp := 500, mainSpeed := 400, slowSpeed := 150, gain := 8,
    release := 500, maxDrop := 300, raiseLimit := 120, warning := 5, hold := 5 }

/-- TABLE XXXIII: channels 0 to 5 AUDITORIUM, 6 and 7 AISLE, 8 to 11 FOYER. -/
def ChannelConfig.defaultFor (i : Nat) : ChannelConfig :=
  { cls := if i < 6 then .auditorium else if i < 8 then .aisle else .foyer,
    trim := 31, curve := .square, hold := false, floor := 100 }

/-- TABLE XL. -/
def DeviceConfig.defaults : DeviceConfig :=
  { type := .smoke, zone := 1, preAlarm := 60, alarm := 100, enabled := false }

/-- TABLE XLVII. -/
def ZoneConfig.defaults : ZoneConfig := { cls := .auditorium, delay := false }

/-- The default template of R151: an empty zone set, so that it makes no call. -/
def Template.defaults : Template :=
  { cls := .houseClass, slot := none, zones := 0, bell := 0, repeats := 1, gap := 0 }

/-- TABLE LIII. -/
def BellPattern.defaults : List BellPattern :=
  [ [(20, 10)],
    [(10, 10), (10, 10)],
    [(10, 10), (10, 10), (10, 10)],
    [(40, 20)],
    List.replicate 4 (4, 4),
    [(40, 10), (40, 10)],
    List.replicate 8 (2, 2) ]

/-- TABLE LX, channels 0 to 7. -/
def Limits.defaults : List Limits :=
  [ ⟨0, 820⟩, ⟨300, 1023⟩, ⟨200, 800⟩, ⟨200, 800⟩, ⟨200, 800⟩, ⟨200, 800⟩, ⟨600, 1023⟩, ⟨400, 1023⟩ ]

/-- R183 and R187. -/
def DeskSettings.defaults : DeskSettings :=
  { order := List.range 8, dwell := 2, debounce := 5, mode := .act }

/-- R186. -/
def KeyBinding.defaults : KeyBinding := { action := .none, long := false }

/-- R189. -/
def LampBinding.defaults : LampBinding := { condition := .none, flashing := false }

/-- The configuration in force where sector 4 is defaulted (R200). -/
def Settings.defaults : Settings :=
  { curtain := CurtainParams.defaults,
    channels := (List.range 12).map ChannelConfig.defaultFor,
    presets := List.replicate 15 (List.replicate 12 0),
    lightTimes := { stopFade := 20, houseFull := 30 },
    devices := List.replicate 64 DeviceConfig.defaults,
    scanList := [],
    zones := List.replicate 16 ZoneConfig.defaults,
    fireTimes := { acknowledge := 30, investigation := 180, staffTemplate := 255, evacTemplate := 255 },
    templates := List.replicate 16 Template.defaults,
    bells := BellPattern.defaults,
    stopTemplate := 255,
    limits := Limits.defaults,
    desk := DeskSettings.defaults,
    keys := List.replicate 48 KeyBinding.defaults,
    lamps := List.replicate 8 LampBinding.defaults,
    deskFade := 30 }

/-! ## Reading an item in force -/

/-- The configuration fields of channel `i`, 0 to 11. -/
def Settings.channel (c : Settings) (i : Nat) : ChannelConfig := c.channels.getD i (ChannelConfig.defaultFor i)

/-- The level of channel `i` in preset `n`; preset 15 holds 1000 for every channel (R90). -/
def Settings.presetLevel (c : Settings) (n i : Nat) : Nat :=
  if n = 15 then 1000 else (c.presets.getD n []).getD i 0

/-- The device table entry of address `a`, 1 to 64. -/
def Settings.device (c : Settings) (a : Nat) : DeviceConfig := c.devices.getD (a - 1) DeviceConfig.defaults

/-- The zone entry of zone `z`, 1 to 16. -/
def Settings.zone (c : Settings) (z : Nat) : ZoneConfig := c.zones.getD (z - 1) ZoneConfig.defaults

/-- Template `n`, 0 to 15. -/
def Settings.template (c : Settings) (n : Nat) : Template := c.templates.getD n Template.defaults

/-- Bell pattern `n`, 1 to 7. -/
def Settings.bell (c : Settings) (n : Nat) : BellPattern := c.bells.getD (n - 1) []

/-- The limits of line-monitor channel `n`, 0 to 7. -/
def Settings.limit (c : Settings) (n : Nat) : Limits := c.limits.getD n ⟨0, 1023⟩

/-- The binding of key `k`, 0 to 47. -/
def Settings.key (c : Settings) (k : Nat) : KeyBinding := c.keys.getD k KeyBinding.defaults

end Sys2Proof
end

