-- ==== Sys2Proof/Machine/Blocks.lean ====
section
/-!
DEFINITION. The state each block of the part holds (TABLE I), block by block as the chapters give it, with the value each
takes after reset; and what passes over the link: replies and notices.
-/

namespace Sys2Proof.Machine

/-! ## PFU: the performance record and the plan runner (chapters 1 and 2) -/

/-- Run state of an anchor clock (TABLE X). -/
inductive RunState where
  | notStarted | running | paused | ended
  deriving DecidableEq, Repr

/-- An anchor clock: its run state and its value in ms (TABLE X). -/
structure AnchorClock where
  run   : RunState
  value : Nat
  deriving DecidableEq, Repr

/-- The names of the nine anchor clocks (TABLE X). -/
inductive ClockId where
  | houseOpen | act1 | act2 | act3 | act4 | interval1 | interval2 | interval3 | closed
  deriving DecidableEq, Repr

/-- The nine anchor clocks. -/
structure Clocks where
  houseOpen : AnchorClock
  act1      : AnchorClock
  act2      : AnchorClock
  act3      : AnchorClock
  act4      : AnchorClock
  interval1 : AnchorClock
  interval2 : AnchorClock
  interval3 : AnchorClock
  closed    : AnchorClock
  deriving DecidableEq, Repr

/-- NOT-STARTED with value 0 (R2, R3). -/
def AnchorClock.fresh : AnchorClock := { run := .notStarted, value := 0 }

def Clocks.fresh : Clocks :=
  ⟨.fresh, .fresh, .fresh, .fresh, .fresh, .fresh, .fresh, .fresh, .fresh⟩

/-- Stop cause (TABLE X). -/
inductive StopCause where
  | none | link | desk | curtain
  deriving DecidableEq, Repr

/-- The phase that RESUME restores; INTERVAL means the record's interval number (R11). -/
inductive ResumePhase where
  | houseOpen | interval | resuming
  deriving DecidableEq, Repr

/-- The performance record (TABLE X). -/
structure Perf where
  plan        : Option PlanLetter
  phase       : Phase
  act         : Nat
  acts        : Nat
  intervalNo  : Nat
  intervalLen : Nat
  proven      : Bool
  stopCause   : StopCause
  resume      : Option ResumePhase
  stops       : Nat
  clocks      : Clocks
  entry       : Nat
  deriving DecidableEq, Repr

/-- R2. -/
def Perf.reset : Perf :=
  { plan := none, phase := .dark, act := 0, acts := 0, intervalNo := 0, intervalLen := 0, proven := false,
    stopCause := .none, resume := none, stops := 0, clocks := .fresh, entry := 0 }

/-- A step's anchor: its anchor clock, and whether it is an end anchor (TABLE XVIII, R37). -/
structure Anchor where
  clock : ClockId
  atEnd : Bool
  deriving DecidableEq, Repr

/-- A step's action with its arguments (TABLE XVIII). -/
inductive StepAction where
  | call (template : Nat)
  | bell (pattern : Nat) (zones : ZoneSet)
  | lights (preset fade : Nat)
  | curtainLower
  | curtainRaise
  | curtainTest
  | note (code : Nat)
  deriving DecidableEq, Repr

/-- A validated step of the running copy (R36). -/
structure Step where
  anchor : Anchor
  offset : Int
  action : StepAction
  deriving DecidableEq, Repr

/-- The running copy: the header and the steps of the armed plan (R36). -/
structure RunningCopy where
  header : PlanHeader
  steps  : List Step
  deriving DecidableEq, Repr

/-- An entry of the step status table (R40). -/
inductive StepStatus where
  | pending | done | skipped
  | refused (reason : Reason)
  deriving DecidableEq, Repr

/-- What PFU holds beside the plan store. -/
structure Pfu where
  perf        : Perf
  runningCopy : Option RunningCopy
  /-- The step status table, one entry per step of the plan (R40). -/
  table       : List StepStatus
  /-- The INTERVAL-EXPIRED notice of the present expiry has been sent (R43). -/
  expirySent  : Bool
  /-- The condition "step due within 60 s" (R44). -/
  stepDueSoon : Bool
  deriving DecidableEq, Repr

/-- R2, R36, R40. -/
def Pfu.reset : Pfu :=
  { perf := .reset, runningCopy := none, table := [], expirySent := false, stepDueSoon := false }

/-! ## The nonvolatile store (2.1) -/

/-- Sector state (TABLE XV). -/
inductive SectorState where
  | empty | opened | sealed | bad
  deriving DecidableEq, Repr

/-- A plan sector: its state, header, 48 step slots, stored step count and stored check value (R23, R33). -/
structure PlanSector where
  state  : SectorState
  header : Option PlanHeader
  slots  : List Slot
  count  : Nat
  check  : Nat
  deriving DecidableEq, Repr

/-- An erased sector (R34): no header, every slot BLANK. -/
def PlanSector.erased : PlanSector :=
  { state := .empty, header := none, slots := List.replicate 48 .blank, count := 0, check := 0 }

/-- Sector 4: the stored copy, its check value and its store mark (R199, R200). -/
structure ConfigSector where
  copy  : Option Settings
  check : Nat
  mark  : Bool
  deriving DecidableEq, Repr

/-- The operation in flight (TABLE XVI), with what it writes. -/
inductive StoreOp where
  | openPlan (letter : PlanLetter) (header : PlanHeader)
  | put (letter : PlanLetter) (first : Nat) (records : List StepRecord)
  | seal (letter : PlanLetter) (count check : Nat)
  | erase (letter : PlanLetter)
  | storeConfig (copy : Settings)
  deriving DecidableEq, Repr

/-- An operation in flight and the uptime of its acceptance (R24). -/
structure InFlight where
  op      : StoreOp
  started : Nat
  deriving DecidableEq, Repr

/-- Sectors 0 to 4; sector 5 is constant (TABLE XIV). -/
structure Store where
  planA    : PlanSector
  planB    : PlanSector
  planC    : PlanSector
  planD    : PlanSector
  config   : ConfigSector
  inFlight : Option InFlight
  deriving DecidableEq, Repr

/-- A store that has never been written (log 10). -/
def Store.erased : Store :=
  { planA := .erased, planB := .erased, planC := .erased, planD := .erased,
    config := { copy := none, check := 0, mark := false }, inFlight := none }

/-! ## CTC (chapters 3 and 4) -/

/-- Curtain state (3.3.1). -/
inductive CurtainState where
  | down | raising | up | preDrop | descending | held
  deriving DecidableEq, Repr

/-- Descent cause (TABLE VII). -/
inductive DescentCause where
  | test | request | stop | emergency | reset
  deriving DecidableEq, Repr

/-- Curtain faults (TABLE XXV), in the order of the table. -/
inductive CurtainFault where
  | late | overspeed | stall | encoder | limit | raiseTimeout | hoistOverload | creep | obstructed | retarder
  deriving DecidableEq, Repr

/-- Ending of a descent record (TABLE XXVI). -/
inductive Ending where
  | arrived | halted | obstructed
  deriving DecidableEq, Repr

/-- A descent record (TABLE XXVI); `ending := none` while it is open. Fault sets are lists in the order of TABLE XXV. -/
structure DescentRecord where
  startCause : DescentCause
  cause      : DescentCause
  /-- Start uptime, in 0.1 s. -/
  startTime  : Nat
  startPos   : Nat
  dropTime   : Nat
  maxSpeed   : Int
  holds      : Nat
  ignored    : Nat
  faults     : List CurtainFault
  finalU     : Nat
  ending     : Option Ending
  deriving DecidableEq, Repr

/-- The supervision state of a descent (TABLE XXVIII). -/
structure Supervision where
  clock          : Nat
  windowNo       : Nat
  progress       : Nat
  prevPos        : Nat
  timeOnly       : Bool
  overspeedRun   : Nat
  overspeedForce : Bool
  predictionRun  : Nat
  lateForce      : Bool
  stallRun       : Nat
  stallTaken     : Bool
  lastTarget     : Option Int
  lastPrediction : Option Int
  deriving DecidableEq, Repr

/-- The figures of the last window evaluated (R87): p_k, v_k where one was formed, the last target, the last prediction and the
command chosen. -/
structure WindowFigures where
  position   : Nat
  speed      : Option Int
  target     : Option Int
  prediction : Option Int
  command    : Nat
  deriving DecidableEq, Repr

/-- The descent in hand: its open record, the parameters it copied at its start, its supervision state, the retarder
command, the expiry of an obstruction hold in progress and the floor timer (R57, R60, R63). -/
structure Descent where
  record     : DescentRecord
  params     : CurtainParams
  sup        : Supervision
  u          : Nat
  hold       : Option Nat
  floorTimer : Option Nat
  last       : Option WindowFigures
  deriving DecidableEq, Repr

/-- What CTC holds. -/
structure Ctc where
  state         : CurtainState
  faults        : List CurtainFault
  /-- The encoder count, 0 to 65535. -/
  count         : Nat
  floor         : Bool
  top           : Bool
  overtravel    : Bool
  edge          : Bool
  /-- p stood above H + 200 when it was last tested (R46, R66). -/
  aboveLimit    : Bool
  /-- Expiry of the raise timer (R51, R52). -/
  raiseDeadline : Option Nat
  /-- Expiry of the stop warning (R59). -/
  warnDeadline  : Option Nat
  descent       : Option Descent
  /-- Newest first, at most 4 (R69). -/
  history       : List DescentRecord
  deriving DecidableEq, Repr

/-- CTC after reset with the given input levels, before it sets its state under R49. -/
def Ctc.reset (count : Nat) (floor top overtravel edge : Bool) : Ctc :=
  { state := .down, faults := [], count, floor, top, overtravel, edge, aboveLimit := false, raiseDeadline := none,
    warnDeadline := none, descent := none, history := [] }

/-! ## HLU (chapter 5) -/

/-- Origin of a fade (TABLE XXXIV). -/
inductive FadeOrigin where
  | go | autoLoad | stopFade | houseFull
  deriving DecidableEq, Repr

/-- A fade record (TABLE XXXIV), with the number of its evaluations made (R93). -/
structure Fade where
  start    : Nat
  target   : Nat
  started  : Nat
  duration : Nat
  origin   : FadeOrigin
  evals    : Nat
  deriving DecidableEq, Repr

/-- The running fields of a channel record; its output level and code are in the field lines (TABLE XXXIII). -/
structure ChannelRun where
  active : Nat
  fade   : Option Fade
  deriving DecidableEq, Repr

/-- What HLU holds. -/
structure Hlu where
  /-- Channels 0 to 11. -/
  channels        : List ChannelRun
  /-- Emergency demand: asserted or withdrawn (5.8.1). -/
  emergencyDemand : Bool
  /-- The EMERGENCY-SUPPLY fault (R106). -/
  supplyFault     : Bool
  deriving DecidableEq, Repr

/-- R108. -/
def Hlu.reset : Hlu :=
  { channels := List.replicate 12 { active := 1000, fade := none }, emergencyDemand := true, supplyFault := false }

/-! ## FDU (chapters 6 and 7) -/

/-- Device state (TABLE XLI). -/
inductive DeviceState where
  | normal | preAlarm | alarm | fault | missing | disabled
  deriving DecidableEq, Repr

/-- A device record (TABLE XLI). -/
structure DeviceRecord where
  state    : DeviceState
  value    : Nat
  operated : Bool
  fault    : Bool
  test     : Bool
  confirm  : Nat
  clear    : Nat
  recovery : Nat
  miss     : Nat
  retry    : Bool
  mismatch : Bool
  errors   : Nat
  led      : Bool
  /-- Expiry of the walk indication (R147). -/
  walk     : Option Nat
  deriving DecidableEq, Repr

/-- TABLE XLI, last column. -/
def DeviceRecord.reset (enabled : Bool) : DeviceRecord :=
  { state := if enabled then .normal else .disabled, value := 0, operated := false, fault := false, test := false,
    confirm := 0, clear := 0, recovery := 0, miss := 0, retry := false, mismatch := false, errors := 0, led := false,
    walk := none }

/-- What a poll slot carries (TABLE XLIII). -/
inductive PollKind where
  | retry | continuity | watch | scan
  deriving DecidableEq, Repr

/-- The poll of the slot in progress; address 0 for the continuity poll (TABLE XLII). -/
structure Poll where
  kind    : PollKind
  address : Nat
  started : Nat
  deriving DecidableEq, Repr

/-- Loop mode (R126). -/
inductive LoopMode where
  | oneEnd | twoEnd
  deriving DecidableEq, Repr

/-- Substate of STAFF-ALERT (7.3.1). -/
inductive AlertStage where
  | awaitingAck | investigating
  deriving DecidableEq, Repr

/-- Fire state (TABLE XLVIII). -/
inductive FireState where
  | quiet
  | staffAlert (stage : AlertStage)
  | full
  deriving DecidableEq, Repr

/-- Cause of FULL (TABLE XLVIII). -/
inductive FullCause where
  | direct | secondAlarm | ackExpired | investigationExpired | manual | evacuate
  deriving DecidableEq, Repr

/-- First alarm (TABLE XLVIII). -/
structure FirstAlarm where
  address : Nat
  type    : DeviceType
  zone    : Nat
  time    : Nat
  deriving DecidableEq, Repr

/-- The walk test in progress (R146). -/
structure WalkTest where
  zone    : Nat
  started : Nat
  count   : Nat
  deriving DecidableEq, Repr

/-- The fire state record (TABLE XLVIII). -/
structure FireRecord where
  state     : FireState
  silenced  : Bool
  first     : Option FirstAlarm
  count     : Nat
  cause     : Option FullCause
  timer     : Option Nat
  staffCall : Option Nat
  evacCall  : Option Nat
  entry     : Nat
  walk      : Option WalkTest
  deriving DecidableEq, Repr

/-- TABLE XLVIII, last column. -/
def FireRecord.reset : FireRecord :=
  { state := .quiet, silenced := false, first := none, count := 0, cause := none, timer := none, staffCall := none,
    evacCall := none, entry := 0, walk := none }

/-- Derived status of a fire zone (R131). -/
inductive ZoneStatus where
  | alarm | preAlarm | fault | isolated | normal
  deriving DecidableEq, Repr

/-- What FDU holds. -/
structure Fdu where
  /-- Device records 1 to 64. -/
  devices       : List DeviceRecord
  /-- Scan pointer, a place in the scan list (R114). -/
  scanPtr       : Nat
  /-- Interleave count (R113). -/
  interleave    : Nat
  /-- The watch list (R121). -/
  watch         : List Nat
  /-- The list entry polled last (R122). -/
  watchPtr      : Option Nat
  /-- The poll in the slot in progress, until it is judged. -/
  poll          : Option Poll
  /-- When the next slot begins (R113). -/
  slotDue       : Nat
  /-- The continuity test is due (R125). -/
  contDue       : Bool
  /-- Next expiry of the continuity timer (R125). -/
  contNext      : Nat
  failRun       : Nat
  passRun       : Nat
  mode          : LoopMode
  loopBroken    : Bool
  /-- Isolation expiries of zones 1 to 16 (TABLE XLVII). -/
  isolation     : List (Option Nat)
  /-- Derived statuses of zones 1 to 16, as last derived (R131). -/
  status        : List ZoneStatus
  fire          : FireRecord
  /-- SOUNDER-CIRCUIT faults of circuits 1 to 4 (R145). -/
  sounderFaults : List Bool
  deriving DecidableEq, Repr

/-- R129, R130, R134, R145: the continuity test is due at the release itself and its timer runs on from there (R125). -/
def Fdu.reset (c : Settings) : Fdu :=
  { devices := c.devices.map fun d => DeviceRecord.reset d.enabled,
    scanPtr := 0, interleave := 0, watch := [], watchPtr := none, poll := none, slotDue := 0, contDue := true,
    contNext := 30000, failRun := 0, passRun := 0, mode := .oneEnd, loopBroken := false,
    isolation := List.replicate 16 none, status := List.replicate 16 .normal, fire := .reset,
    sounderFaults := List.replicate 4 false }

/-! ## CLU (chapter 8) -/

/-- State of a call entry (TABLE LII); a PLAYING entry holds its effective zone set. -/
inductive EntryState where
  | queued
  | waiting (ready : Nat)
  | playing (effective : ZoneSet)
  deriving DecidableEq, Repr

/-- A call entry (TABLE LII). `pool` is the accounting: a POOL entry, or else RESERVED. -/
structure CallEntry where
  id      : Nat
  source  : Source
  cls     : CallClass
  slot    : Option Nat
  zones   : ZoneSet
  bell    : Nat
  repeats : Nat
  gap     : Nat
  plays   : Nat
  state   : EntryState
  arrival : Nat
  pool    : Bool
  deriving DecidableEq, Repr

/-- Announcer state (TABLE LV) with the timers of each stage (R159 to R162). -/
inductive Announcer where
  | idle
  /-- Expiry of the settling time. -/
  | settling (deadline : Nat)
  /-- The segments still to ring, the first of them in progress; whether its on time is running; expiry of that time. -/
  | bell (segments : BellPattern) (ringing : Bool) (deadline : Nat)
  /-- Expiry of the PLAY strobe while it is on; whether the announcer has started; expiry of the start window, or of the
  speaking limit once started. -/
  | speaking (strobe : Option Nat) (started : Bool) (deadline : Nat)
  /-- Expiry of the STOP strobe while it is on; 500 ms after its start. -/
  | stopping (strobe : Option Nat) (timeout : Nat)
  deriving DecidableEq, Repr

/-- What CLU holds. -/
structure Clu where
  entries     : List CallEntry
  nextId      : Nat
  /-- The next arrival order number (R156). -/
  nextArrival : Nat
  announcer   : Announcer
  failed      : Bool
  noStarts    : Nat
  /-- The play in hand keeps its bell-only course though FAILED has been cleared (R164). -/
  bellOnly    : Bool
  /-- The level of BUSY. -/
  busy        : Bool
  deriving DecidableEq, Repr

/-- R172, with the level of BUSY as it stands. -/
def Clu.reset (busy : Bool) : Clu :=
  { entries := [], nextId := 1, nextArrival := 1, announcer := .idle, failed := false, noStarts := 0,
    bellOnly := false, busy }

/-! ## ILU (chapter 9) -/

/-- Forcing conditions (TABLE LIX, R175). -/
inductive Forcing where
  | fireFull | phaseStopped | phaseEvacuate | channel0High | showDuringRun
  deriving DecidableEq, Repr

/-- A gate record (R173). -/
structure Gate where
  demand     : Bool
  /-- The conditions of the forcing set, in the order of TABLE LIX: DESIGN CHOICE (log 71). -/
  forcing    : List Forcing
  line       : Bool
  denied     : Bool
  lastChange : Nat
  deriving DecidableEq, Repr

/-- R173, after reset and while reset is held. -/
def Gate.reset : Gate := { demand := false, forcing := [], line := false, denied := false, lastChange := 0 }

/-- The gate records of TABLE LIX. -/
structure Ilu where
  hoist   : Gate
  release : Gate
  relay   : Gate
  stalls  : Gate
  circle  : Gate
  gallery : Gate
  deriving DecidableEq, Repr

def Ilu.reset : Ilu := ⟨.reset, .reset, .reset, .reset, .reset, .reset⟩

/-! ## LMU (chapter 9) -/

/-- One channel's entry of the sample table (R179 to R182). -/
structure LineChannel where
  /-- The last four conversions, oldest first. -/
  held       : List Nat
  filtered   : Option Nat
  state      : LimitState
  candidate  : Option LimitState
  run        : Nat
  lastChange : Nat
  deriving DecidableEq, Repr

/-- What LMU holds: the sample table and the number of conversions made. -/
structure Lmu where
  channels    : List LineChannel
  conversions : Nat
  deriving DecidableEq, Repr

/-- R182. -/
def LineChannel.reset : LineChannel :=
  { held := [], filtered := none, state := .normal, candidate := none, run := 0, lastChange := 0 }

def Lmu.reset : Lmu := { channels := List.replicate 8 .reset, conversions := 0 }

/-! ## DSU (chapter 10) -/

/-- Key state (TABLE LXII), with the expiry of the timer each state runs. -/
inductive KeyState where
  | idle
  | pressDebounce (deadline : Nat)
  | held (key : Nat) (long : Option Nat)
  | rollover
  | releaseDebounce (deadline : Option Nat)
  deriving DecidableEq, Repr

/-- What DSU holds. -/
structure Dsu where
  key          : KeyState
  /-- The down set, in rising order of key number (R183). -/
  down         : List Nat
  /-- Scan order and dwell of the scan in progress; a change waits for the next full scan (R183). -/
  order        : List Nat
  dwell        : Nat
  /-- The place in the scan order of the column being driven, and when its dwell ends. -/
  scanAt       : Nat
  columnDue    : Nat
  /-- Expiry of the REFUSED indication while it is true (R188). -/
  refusedUntil : Option Nat
  /-- The flash clock is in the lit half of its period (R189); its next half-period. -/
  flashLit     : Bool
  flashDue     : Nat
  deriving DecidableEq, Repr

/-- R183, R185, R188, R189. -/
def Dsu.reset (c : Settings) : Dsu :=
  { key := .idle, down := [], order := c.desk.order, dwell := c.desk.dwell, scanAt := 0, columnDue := c.desk.dwell,
    refusedUntil := none, flashLit := true, flashDue := 500 }

/-! ## Notices (R194) -/

inductive NoticeClass where
  | alarm | info
  deriving DecidableEq, Repr

/-- The fifteen notice kinds (R194). -/
inductive NoticeKind where
  | reset | configDefaulted | phase | fire | device | zone | curtain | call | step | intervalExpired | key | rollover
  | sample | walk | note
  deriving DecidableEq, Repr

/-- Outcome of a call: admitted or merged with its id, or refused; `absent` where no call was made (R12, R136, R141). -/
inductive CallOutcome where
  | absent
  | admitted (id : Nat) (merged : Bool)
  | refused (reason : Reason)
  deriving DecidableEq, Repr

/-- Outcome of a CALL-CANCEL that FDU issues; `absent` where it issued none (R139, R141, R142). -/
inductive CancelOutcome where
  | absent
  | cancelled (id : Nat)
  | refused (reason : Reason)
  deriving DecidableEq, Repr

/-- The cause carried by a PHASE notice (R5, R21). -/
inductive PhaseCause where
  | request (kind : RequestKind) (source : Source)
  | fireFull
  | none
  deriving DecidableEq, Repr

/-- Cause of a change of a device's state (R127). -/
inductive DeviceCause where
  | confirmation (number : Nat)
  | thresholdUp
  | thresholdDown
  | threeMisses
  | deviceFault
  | typeMismatch (received : TypeCode)
  | recovered
  | firstReply
  | isolation
  | resetOrder
  | configured
  deriving DecidableEq, Repr

/-- Markers of a DEVICE notice (R127). NOT-ANSWERING carries the body of the device it tells of.
DEDUCED: the state left and the state entered are then both ALARM (log 50). -/
inductive DeviceMarker where
  | notAnswering (zone : Nat) (type : DeviceType) (left entered : DeviceState) (value : Nat) (operated fault test : Bool)
  | loopBroken
  | loopRestored
  deriving DecidableEq, Repr

/-- What a notice tells of an obstruction hold (R63). -/
inductive HoldEvent where
  | begun | restarted | ended | ignored
  deriving DecidableEq, Repr

/-- Causes of removal of a call entry (TABLE LVI). -/
inductive RemovalCause where
  | completed | evicted | barred | preempted | flushed | cut | cancelled
  deriving DecidableEq, Repr

/-- The event that set or cleared FAILED (R163). -/
inductive FailedCause where
  | secondNoStart | speakingLimit | stopTimeout | channel7Low | announcerReset
  deriving DecidableEq, Repr

/-- Cause of the skipping of steps (R41). -/
inductive SkipCause where
  | instanceEnded (clock : ClockId)
  | neverReached
  | evacuated
  deriving DecidableEq, Repr

/-- Outcome of a step's issue (R38). -/
inductive StepOutcome where
  | done
  | doneCall (id : Nat) (merged : Bool)
  | refused (reason : Reason)
  deriving DecidableEq, Repr

/-- How a walk test ended (R146). -/
inductive WalkEndCause where
  | request
  | fireState (entered : FireState)
  deriving DecidableEq, Repr

/-- The key state a rollover left (R185). -/
inductive RolloverFrom where
  | pressDebounce | held
  deriving DecidableEq, Repr

/-- The body of a notice. -/
inductive NoticeBody where
  | reset (cause : ResetCause)
  | configDefaulted
  /-- R5; `announcement` on entry to STOPPED only. -/
  | phase (phase : Phase) (act interval : Nat) (cause : PhaseCause) (stopCause : StopCause) (stops : Nat)
      (announcement : Option CallOutcome)
  /-- R21. -/
  | phaseCreep (phase : Phase) (act : Nat) (cause : PhaseCause)
  /-- R134. -/
  | fire (left entered : FireState) (silenced : Bool) (first : Option FirstAlarm) (count : Nat) (cause : Option FullCause)
      (timer : Option Nat) (cancelled : CancelOutcome) (call : CallOutcome)
  /-- R145. -/
  | sounderCircuit (circuit : Nat) (state : LimitState)
  /-- R127. -/
  | device (address zone : Nat) (type : DeviceType) (left entered : DeviceState) (value : Nat) (operated fault test : Bool)
      (cause : DeviceCause)
  /-- R127. DESIGN CHOICE: the address is 0 for the two loop markers (log 59). -/
  | deviceMarker (address : Nat) (marker : DeviceMarker)
  /-- R131. -/
  | zone (zone : Nat) (cls : ZoneClass) (left entered : ZoneStatus) (expiry : Option Nat)
  /-- R50: a change of state, or of cause. -/
  | curtainState (state : CurtainState) (cause : Option DescentCause) (position command : Nat)
  | curtainFault (fault : CurtainFault) (state : CurtainState) (cause : Option DescentCause) (position : Nat)
  | curtainArrival (record : DescentRecord)
  /-- R19. -/
  | curtainProven (dropTime : Nat)
  /-- R63. DESIGN CHOICE: of the hold, it carries the event alone (log 52). -/
  | curtainHold (event : HoldEvent)
  /-- R79. -/
  | overspeedEnded (position : Nat) (speed : Int) (command : Nat)
  /-- R87. -/
  | timeOnly (clock windowNo : Nat)
  /-- R170. -/
  | callRemoved (id : Nat) (source : Source) (cls : CallClass) (plays : Nat) (cause : RemovalCause)
  /-- R165. -/
  | callPlayed (id plays : Nat) (degraded : Bool)
  /-- R161. DESIGN CHOICE: it carries the id with its marker (log 59). -/
  | callNoStart (id : Nat)
  /-- R166. DESIGN CHOICE: it carries the id with its marker (log 59). -/
  | callRequeued (id : Nat)
  /-- R163. -/
  | announcerFailed (cause : FailedCause)
  | announcerRestored (cause : FailedCause)
  /-- R38. -/
  | stepIssued (index : Nat) (action : StepAction) (outcome : StepOutcome)
  /-- R41. -/
  | stepsSkipped (count : Nat) (cause : SkipCause)
  /-- R43. -/
  | intervalExpired (interval length : Nat)
  /-- R187. -/
  | key (key : Nat) (binding : KeyBinding) (mode : DeskMode)
  /-- R188. DESIGN CHOICE: the request is given by its kind alone (log 48). -/
  | keyRefused (key : Nat) (request : RequestKind) (reason : Reason)
  /-- R185. -/
  | rollover (keys : List Nat) (left : RolloverFrom)
  /-- R181. -/
  | sample (channel : Nat) (left entered : LimitState) (filtered : Nat)
  /-- R146. -/
  | walkEnded (zone count : Nat) (cause : WalkEndCause)
  /-- R147. -/
  | walkConfirmed (address : Nat) (type : DeviceType) (number value : Nat)
  /-- R39. -/
  | note (code index : Nat)
  deriving DecidableEq, Repr

/-- A notice (R194): its class, the uptime at which it was formed in 0.1 s, and its body. -/
structure Notice where
  cls  : NoticeClass
  time : Nat
  body : NoticeBody
  deriving DecidableEq, Repr

/-- The kind of a notice is that of its body (R194). -/
def NoticeBody.kind : NoticeBody → NoticeKind
  | .reset .. => .reset
  | .configDefaulted => .configDefaulted
  | .phase .. | .phaseCreep .. => .phase
  | .fire .. | .sounderCircuit .. => .fire
  | .device .. | .deviceMarker .. => .device
  | .zone .. => .zone
  | .curtainState .. | .curtainFault .. | .curtainArrival .. | .curtainProven .. | .curtainHold ..
  | .overspeedEnded .. | .timeOnly .. => .curtain
  | .callRemoved .. | .callPlayed .. | .callNoStart .. | .callRequeued .. | .announcerFailed ..
  | .announcerRestored .. => .call
  | .stepIssued .. | .stepsSkipped .. => .step
  | .intervalExpired .. => .intervalExpired
  | .key .. | .keyRefused .. => .key
  | .rollover .. => .rollover
  | .sample .. => .sample
  | .walkEnded .. | .walkConfirmed .. => .walk
  | .note .. => .note

/-- The class of a notice whose class no rule gives (log 11). -/
def NoticeClass.unstated (c : OpenClass) : NoticeClass := if Config.noticeIsAlarm c then .alarm else .info

/-- The class the rule of each notice gives it (R5, R19, R21, R38, R39, R41, R43, R50, R63, R79, R87, R127, R131, R134, R145,
R146, R147, R170, R181, R185, R187, R188, R200). -/
def NoticeBody.cls : NoticeBody → NoticeClass
  | .reset .. => .unstated .reset
  | .phase .stopped .. | .phase .evacuate .. => .alarm
  | .phaseCreep .. => .alarm
  | .fire .. => .alarm
  | .device _ _ _ _ .alarm .. => .alarm
  | .zone _ _ _ .alarm _ => .alarm
  | .curtainFault .. => .alarm
  | .callPlayed .. => .unstated .played
  | .callNoStart .. => .unstated .noStart
  | .callRequeued .. => .unstated .requeued
  | .announcerFailed .. => .unstated .failed
  | .announcerRestored .. => .unstated .restored
  | _ => .info

/-! ## Replies (R193) -/

/-- The detail byte of a REFUSED reply (R193): 255 where the rule gives none. -/
inductive Detail where
  | none
  | index (n : Nat)
  | headerField (field : HeaderField)
  deriving DecidableEq, Repr

/-- PERFORMANCE-READ (R22). -/
structure PerfReading where
  perf      : Perf
  remaining : Option Nat
  deriving DecidableEq, Repr

/-- PLAN-READ of a header (R35); the count and check value for a SEALED sector. -/
structure HeaderReading where
  state  : SectorState
  locked : Bool
  header : Option PlanHeader
  sealed : Option (Nat × Nat)
  deriving DecidableEq, Repr

/-- One entry of STEP-READ (R40). -/
structure StepReading where
  index     : Nat
  status    : StepStatus
  remaining : Option Int
  deriving DecidableEq, Repr

/-- CURTAIN-READ (R70, R87). -/
structure CurtainReading where
  state       : CurtainState
  cause       : Option DescentCause
  holding     : Bool
  position    : Nat
  count       : Nat
  command     : Nat
  floor       : Bool
  top         : Bool
  overtravel  : Bool
  edge        : Bool
  faults      : List CurtainFault
  record      : Option DescentRecord
  supervision : Option Supervision
  last        : Option WindowFigures
  history     : List DescentRecord
  deriving DecidableEq, Repr

/-- A fade as LIGHTS-READ gives it (R107). -/
structure FadeReading where
  origin   : FadeOrigin
  target   : Nat
  elapsed  : Nat
  duration : Nat
  deriving DecidableEq, Repr

/-- A channel as LIGHTS-READ gives it (R107). -/
structure ChannelReading where
  cls    : ChannelClass
  hold   : Bool
  trim   : Nat
  curve  : Curve
  active : Nat
  output : Nat
  code   : Nat
  fade   : Option FadeReading
  deriving DecidableEq, Repr

/-- LIGHTS-READ (R107). -/
structure LightsReading where
  channels        : List ChannelReading
  emergencyDemand : Bool
  relay           : Bool
  override        : Bool
  supplyFault     : Bool
  deriving DecidableEq, Repr

/-- DEVICE-READ (R128). -/
structure DeviceReading where
  entry      : DeviceConfig
  record     : DeviceRecord
  listed     : Bool
  unlisted   : Bool
  watchPlace : Option Nat
  isolated   : Bool
  walkTest   : Bool
  mode       : LoopMode
  deriving DecidableEq, Repr

/-- A zone as FIRE-READ gives it (R148). -/
structure ZoneReading where
  cls       : ZoneClass
  delay     : Bool
  status    : ZoneStatus
  expiry    : Option Nat
  remaining : Option Nat
  deriving DecidableEq, Repr

/-- FIRE-READ (R148). -/
structure FireReading where
  record    : FireRecord
  remaining : Option Nat
  zones     : List ZoneReading
  isolated  : Nat
  driven    : List Bool
  faults    : List Bool
  times     : FireTimes
  deriving DecidableEq, Repr

/-- A call entry as QUEUE-READ gives it (R171): with the ms to the ready time, and the stage of a PLAYING entry. -/
structure EntryReading where
  entry     : CallEntry
  remaining : Option Nat
  stage     : Option Announcer
  deriving DecidableEq, Repr

/-- QUEUE-READ (R171). -/
structure QueueReading where
  announcer    : Announcer
  failed       : Bool
  noStarts     : Nat
  busy         : Bool
  count        : Nat
  reservedLink : Nat
  reservedPlan : Nat
  reservedDesk : Nat
  reservedSafe : Nat
  pool         : Nat
  nextId       : Nat
  entries      : List EntryReading
  deriving DecidableEq, Repr

/-- A channel as SAMPLE-READ gives it (R182). -/
structure SampleReading where
  last    : Option Nat
  channel : LineChannel
  limits  : Limits
  deriving DecidableEq, Repr

/-- A lamp as DESK-READ gives it (R190). -/
structure LampReading where
  binding   : LampBinding
  condition : Bool
  lit       : Bool
  deriving DecidableEq, Repr

/-- DESK-READ (R190). -/
structure DeskReading where
  key          : KeyState
  down         : List Nat
  debounceLeft : Option Nat
  longLeft     : Option Nat
  order        : List Nat
  dwell        : Nat
  debounce     : Nat
  pendingOrder : Option (List Nat)
  pendingDwell : Option Nat
  mode         : DeskMode
  refused      : Bool
  refusedLeft  : Option Nat
  lamps        : List LampReading
  deriving DecidableEq, Repr

/-- The summary fault flags of STATUS (TABLE LXVI). -/
structure FaultFlags where
  lp  : Bool
  pfu : Bool
  ctc : Bool
  hlu : Bool
  fdu : Bool
  clu : Bool
  ilu : Bool
  lmu : Bool
  deriving DecidableEq, Repr

/-- STATUS (R196). -/
structure StatusReading where
  phase       : Phase
  act         : Nat
  interval    : Nat
  fire        : FireState
  silenced    : Bool
  curtain     : CurtainState
  position    : Nat
  override    : Bool
  announcer   : Announcer
  failed      : Bool
  calls       : Nat
  noticesLost : Bool
  flags       : FaultFlags
  deriving DecidableEq, Repr

/-- The body of a DONE reply, as the owning rule gives it; `empty` where the rule gives none. -/
inductive DoneBody where
  | empty
  | phase (phase : Phase) (act interval : Nat)
  | performance (reading : PerfReading)
  | sealed (count check : Nat)
  | planHeader (reading : HeaderReading)
  | planSlots (slots : List Slot)
  | steps (entries : List StepReading)
  | extended (added length remaining : Nat)
  | faults (set : List CurtainFault)
  | curtain (reading : CurtainReading)
  | levels (stored : List Nat)
  | lightsGo (preset fade : Nat)
  | fadeTime (time : Nat)
  | restored (wasAsserted : Bool)
  | lights (reading : LightsReading)
  | device (reading : DeviceReading)
  | counts (errors : List Nat)
  | isolated (zone seconds expiry number : Nat)
  | fire (reading : FireReading)
  | call (id : Nat) (merged : Bool) (zones : ZoneSet)
  | queue (reading : QueueReading)
  | interlocks (gates : Ilu)
  | samples (channels : List SampleReading)
  | desk (reading : DeskReading)
  | identity (part : String) (revision : Nat) (serial : BitVec 32)
  | linkCounts (checksum length timeout overrun : Nat)
  | status (reading : StatusReading)
  | config (value : ConfigWrite)
  | check (value : Nat)
  deriving DecidableEq, Repr

/-- The kind a reply names: a request kind, or the unknown code received (R192, R193). -/
inductive ReplyKind where
  | request (kind : RequestKind)
  | unknown (code : Nat)
  deriving DecidableEq, Repr

/-- A reply (R193). -/
inductive Reply where
  | done (body : DoneBody)
  | refused (reason : Reason) (detail : Detail)
  deriving DecidableEq, Repr

/-! ## LP (chapter 11) -/

/-- A frame standing in the inbound buffer, with its reply once it has been decided (R192). -/
structure InboundFrame where
  kind  : ReplyKind
  reply : Option Reply
  deriving DecidableEq, Repr

/-- What the outbound line carries: a notice, or a frame of the reply at the head of the inbound buffer, with its number among
the frames of that reply, from 0, and the number of frames still to come. A frame of a DONE reply with frames to come is of kind
DONE-MORE with that part number, and the last is of kind DONE (R193). -/
inductive OutboundFrame where
  | notice (n : Notice)
  | reply (part toCome : Nat)
  deriving DecidableEq, Repr

/-- What LP holds. -/
structure Lp where
  /-- Uptime of the SYNC of the frame in progress; `none` while hunting (R191). -/
  frame       : Option Nat
  checksum    : Nat
  length      : Nat
  timeout     : Nat
  overrun     : Nat
  /-- The inbound buffer, in order of admission, at most 2 (R192). -/
  inbound     : List InboundFrame
  line        : Option OutboundFrame
  /-- The notice queue, oldest first, at most 16 (R194). -/
  notices     : List Notice
  noticesLost : Bool
  /-- A RESTART has been accepted and its reset has not come (R197). -/
  restarting  : Bool
  /-- The configuration was defaulted at the last reset (R200). -/
  defaulted   : Bool
  deriving DecidableEq, Repr

/-- R191, R192, R194. -/
def Lp.reset (defaulted : Bool) : Lp :=
  { frame := none, checksum := 0, length := 0, timeout := 0, overrun := 0, inbound := [], line := none, notices := [],
    noticesLost := false, restarting := false, defaulted }

/-! ## Field lines -/

/-- The outputs that follow their blocks directly (TABLE XXII, R101, R145, TABLE L, R183, R189), as last driven; the six
gated outputs are the line states of the gate records. -/
structure FieldLines where
  brake      : Bool
  warning    : Bool
  retarder   : Nat
  /-- Output levels and output codes of channels 0 to 11 (TABLE XXXIII). -/
  levels     : List Nat
  codes      : List Nat
  /-- Sounder circuits 1 to 4. -/
  sounders   : List Bool
  play       : Bool
  stop       : Bool
  slotLines  : Nat
  /-- The paging-zone relays CLU drives directly: FOYER, BARS, DRESSING, STAGE, STAFF. -/
  relays     : ZoneSet
  /-- FOYER-BELL, AUDITORIUM-CHIME, BACKSTAGE-BUZZER, STAFF-TONE (TABLE LI). -/
  bells      : List Bool
  /-- The key-matrix column driven. -/
  column     : Option Nat
  /-- Lamps 0 to 7 lit. -/
  lamps      : List Bool
  deriving DecidableEq, Repr

/-- While reset is held every output is de-energised, the dimmer outputs stand at code 0 and the RETARDER command at 500
(R45, R101, R145, R149, R183, R189).
DESIGN CHOICE: the output levels then read 1000, as after reset (log 46). -/
def FieldLines.held : FieldLines :=
  { brake := false, warning := false, retarder := 500, levels := List.replicate 12 1000, codes := List.replicate 12 0,
    sounders := List.replicate 4 false, play := false, stop := false, slotLines := 0, relays := 0,
    bells := List.replicate 4 false, column := none, lamps := List.replicate 8 false }

end Sys2Proof.Machine
end

