-- ==== Sys2Proof/Machine/State.lean ====
section
/-!
DEFINITION. `State`: the nine blocks of the part, its nonvolatile store, the configuration in force, the field lines and
the queue of waiting commands, as plain data; why a step may stop; and the state right after reset.
-/

namespace Sys2Proof.Machine

/-- The part. -/
structure State where
  /-- Uptime in ms since the release of the last reset, without wrap (TABLE III). -/
  now      : Nat
  /-- The cause of the reset being held; `none` once reset is released. -/
  held     : Option ResetCause
  settings : Settings
  pfu      : Pfu
  store    : Store
  ctc      : Ctc
  hlu      : Hlu
  fdu      : Fdu
  clu      : Clu
  ilu      : Ilu
  lmu      : Lmu
  dsu      : Dsu
  lp       : Lp
  lines    : FieldLines
  /-- The model's own: how many free values have been drawn. The next one is a constant of Config at this number. -/
  free     : Nat
  /-- The model's own: the commands waiting, first in, first out. -/
  pending  : List Instr
  deriving DecidableEq, Repr

/-- Why a step stops with a fault: never. The manual names no condition that stops the part; what it calls a fault is a
latched flag or a refusal reply, which are state. -/
inductive Fault where
  deriving DecidableEq, Repr

/-- Why a step stops without a meaning. -/
inductive Refusal where
  /-- Raised by `exec`'s arm for a command that has no meaning yet. Safe: nothing is claimed of it. -/
  | notModelled (mnemonic : String)
  deriving DecidableEq, Repr

/-- The field lines right after the release of reset: as held, but that the dimmer codes are computed from level 1000, the
RETARDER command is u0 and the first column is driven (R48, R101, R108, R183). -/
def FieldLines.released : FieldLines :=
  { FieldLines.held with codes := List.replicate 12 4095, column := some 0 }

/-- LP right after a power-on reset with a defaulted configuration: the RESET notice has joined first and is being sent,
and the CONFIG-DEFAULTED notice stands behind it (R194, R200).
DESIGN CHOICE (log 13). -/
def Lp.afterPowerOn : Lp :=
  { Lp.reset true with
    line := some (.notice { cls := .unstated .reset, time := 0, body := .reset .powerOn }),
    notices := [ { cls := .info, time := 0, body := .configDefaulted } ] }

/-- The part right after a power-on reset of a part whose store has never been written, with the curtain on its floor: every
block at the value its chapter states (R2, R26, R49, R108, R129, R134, R172, R173, R182, R183, R191, R194, R200).
DESIGN CHOICE where the manual gives no value (logs 10, 12, 13 and 34). -/
def State.reset : State :=
  { now := 0, held := none, settings := Settings.defaults, pfu := Pfu.reset, store := Store.erased,
    ctc := Ctc.reset 0 true false false false, hlu := Hlu.reset, fdu := Fdu.reset Settings.defaults,
    clu := Clu.reset false, ilu := Ilu.reset, lmu := Lmu.reset, dsu := Dsu.reset Settings.defaults,
    lp := Lp.afterPowerOn, lines := FieldLines.released, free := 0, pending := [] }

end Sys2Proof.Machine
end

