-- ==== Sys2Proof/Machine/LinkPort.lean ====
section
/-!
DEFINITION. The link port's named operations: the notice queue, the inbound buffer with its replies, the outbound line and
the fault counters (chapter 11).
-/

namespace Sys2Proof.Machine

/-- A counter that saturates at `limit` (0.7.2, TABLE V). -/
def saturate (limit n : Nat) : Nat := min limit (n + 1)

/-- An uptime as a notice or a descent record carries it: in 0.1 s, truncated, modulo 4,294,967,296 (TABLE III, Uptime). -/
def deciseconds (now : Nat) : Nat := now / 100 % 4294967296

/-- A notice offered to the queue (R194): it joins while fewer than 16 are held; at 16 an INFO notice is dropped, an ALARM
notice takes the place of the oldest INFO notice, or is dropped where all are ALARM. Each drop sets NOTICES-LOST. -/
def Lp.offer (n : Notice) (l : Lp) : Lp :=
  if l.notices.length < 16 then { l with notices := l.notices ++ [n] }
  else if n.cls = .alarm ∧ l.notices.any (·.cls = .info) then
    { l with notices := l.notices.eraseP (·.cls = .info) ++ [n], noticesLost := true }
  else { l with noticesLost := true }

/-- A notice as formed at uptime `now`. -/
def NoticeBody.formedAt (now : Nat) (b : NoticeBody) : Notice :=
  { cls := b.cls, time := deciseconds now, body := b }

/-- The part sends notices, in order. -/
def State.notifyAll (bs : List NoticeBody) (s : State) : State :=
  { s with lp := bs.foldl (fun l b => l.offer (b.formedAt s.now)) s.lp }

/-- The part sends one notice. -/
def State.notify (b : NoticeBody) (s : State) : State := s.notifyAll [b]

/-- How an owning block decides a request (0.9.1): DONE with its body, REFUSED with its reason and detail, or, for a store
request that starts an operation, when the operation ends (R24). -/
inductive Decision where
  | done (body : DoneBody)
  | refused (reason : Reason) (detail : Detail)
  | later
  deriving DecidableEq, Repr

def Decision.reply : Decision → Option Reply
  | .done b => some (.done b)
  | .refused r d => some (.refused r d)
  | .later => none

/-! ## The bytes of a frame (R191, TABLE LXIX) -/

/-- The value of a SYNC byte. -/
def syncByte : Nat := 0xC3

/-- The CHECK byte of the bytes from LEN on: it makes their total 0 modulo 256. -/
def checkByte (bytes : List Nat) : Nat := (256 - bytes.sum % 256) % 256

/-- The bytes of a frame with a kind and a body. -/
def frameBytes (kind : Nat) (body : List Nat) : List Nat :=
  let counted := (body.length + 1) :: kind :: body
  syncByte :: counted ++ [checkByte counted]

/-- Why the bytes received after a SYNC discard the frame, if they do, judged in the order of their arrival: a LEN of 0 or
above 60; a missing stop bit in the last of them, while the frame still runs; or, with LEN further bytes and CHECK received, a
total that is not 0 modulo 256. The bytes after the one that ends the frame are met while hunting, and count nothing.
DESIGN CHOICE: of a LEN byte with a missing stop bit nothing else is judged (log 51). -/
def frameFault (f : FrameBytes) : Option FrameFault :=
  match f.received with
  | [] => none
  | len :: rest =>
    if len = 0 ∨ 60 < len then some (if f.missingStop && rest.isEmpty then .missingStop else .badLen)
    else if f.missingStop && decide (rest.length ≤ len + 1) then some .missingStop
    else if len + 1 ≤ rest.length ∧ (len + (rest.take (len + 1)).sum) % 256 ≠ 0 then some .badSum
    else none

/-! ## The inbound buffer and the outbound line (R192, R193) -/

/-- A frame joins the inbound buffer with its decision (R192). -/
def Lp.hold (kind : ReplyKind) (d : Decision) (l : Lp) : Lp :=
  { l with inbound := l.inbound ++ [{ kind, reply := d.reply }] }

/-- The reply of the frame whose decision was put off is now given (R24, R192). -/
def replyFirstWaiting (r : Reply) : List InboundFrame → List InboundFrame
  | [] => []
  | f :: fs => if f.reply = none then { f with reply := some r } :: fs else f :: replyFirstWaiting r fs

def Lp.settle (r : Reply) (l : Lp) : Lp := { l with inbound := replyFirstWaiting r l.inbound }

/-- The reply at the head of the inbound buffer, if it is ready (R193). -/
def Lp.readyReply (l : Lp) : Option Reply := l.inbound.head?.bind (·.reply)

/-- A DONE body that one frame carries, with its 58 bytes after the request kind (R191, R193): one of a few numbers, a header of
34 bytes, at most six step records of 8 (R201), the identity, at most 32 counters of a byte each, and an item but for the scan
list, which can have 64 addresses. DEDUCED (log 6): for the longer bodies the number of DONE-MORE frames is free. -/
def DoneBody.short : DoneBody → Bool
  | .empty | .phase .. | .sealed .. | .planHeader _ | .planSlots _ | .extended .. | .faults _ | .levels _ | .lightsGo ..
  | .fadeTime _ | .restored _ | .counts _ | .isolated .. | .call .. | .identity .. | .linkCounts .. | .status _ | .check _ =>
    true
  | .config (.scanList l) => l.length ≤ 56
  | .config _ => true
  | .performance _ | .steps _ | .curtain _ | .lights _ | .device _ | .fire _ | .queue _ | .interlocks _ | .samples _
  | .desk _ => false

/-- What a free outbound line takes next (R193): a ready reply frame first, otherwise the oldest notice, which leaves the
queue. `more` is the number of DONE-MORE frames of a DONE reply whose body is not short. -/
def Lp.pump (more : Nat) (l : Lp) : Lp :=
  match l.line, l.readyReply, l.notices with
  | some _, _, _ => l
  | none, some (.done b), _ => { l with line := some (.reply 0 (if b.short then 0 else more)) }
  | none, some (.refused ..), _ => { l with line := some (.reply 0 0) }
  | none, none, n :: ns => { l with line := some (.notice n), notices := ns }
  | none, none, [] => l

/-- A DONE reply whose body is not short is about to take the line, so the number of its frames is drawn. -/
def Lp.startsDone (l : Lp) : Bool :=
  match l.line, l.readyReply with
  | none, some (.done b) => !b.short
  | _, _ => false

/-- The outbound line takes what is next for it.
FREE (log 6). -/
def State.pump (s : State) : State :=
  { s with lp := s.lp.pump (Config.doneMoreFrames s.free), free := if s.lp.startsDone then s.free + 1 else s.free }

/-- The place of a refusal reason in TABLE VIII, 1 to 18 (R193). -/
def reasonPlace : Reason → Nat
  | .unknownKind => 1 | .badLength => 2 | .badField => 3 | .wrongPhase => 4 | .wrongState => 5 | .busy => 6
  | .locked => 7 | .noPlan => 8 | .planBad => 9 | .notProven => 10 | .notReady => 11 | .alarmActive => 12
  | .queueFull => 13 | .zonesBarred => 14 | .overridden => 15 | .limit => 16 | .conditionPresent => 17 | .unknownId => 18

/-- The detail byte of a REFUSED reply (R193).
FREE where it names a header field (log 7). -/
def Detail.byte : Detail → Nat
  | .none => 255
  | .index n => n
  | .headerField f => Config.headerFieldPlace f

/-- The hardware revision of sector 5, 1 to 255 (R195).
FREE (log 9). -/
def hardwareRevision : Nat := 1 + Config.hardwareRevision % 255

/-- The part string of sector 5 (R195). -/
def partString : String := "LOMAJEN 460"

end Sys2Proof.Machine
end

