-- ==== Sys2Proof/Machine/CallUnit.lean ====
section
/-!
DEFINITION. CLU's named operations: admission, merging, accounting, eviction, order and selection, the stages of a play, its
stops and ends, and removal (chapter 8). Each answers what CLU then holds, the notices it sends and the ids it reports
removed (R170).
-/

namespace Sys2Proof.Machine

/-- What an operation of CLU brings about: CLU after it, the notices sent and the ids reported removed, in order. -/
structure CluOut where
  clu     : Clu
  notes   : List NoticeBody
  removed : List Nat
  deriving DecidableEq, Repr

/-- CLU as it stands. -/
def CluOut.of (c : Clu) : CluOut := { clu := c, notes := [], removed := [] }

/-- A further operation on top of one. -/
def CluOut.andThen (o : CluOut) (f : Clu → CluOut) : CluOut :=
  let r := f o.clu
  { clu := r.clu, notes := o.notes ++ r.notes, removed := o.removed ++ r.removed }

/-! ## Classes, zones and the queue -/

/-- Rank order of the classes: EVAC 0 to HOUSE 3 (8.2.1). -/
def classRank : CallClass → Nat
  | .evac => 0
  | .alert => 1
  | .showClass => 2
  | .houseClass => 3

/-- The classes that barring, the gates and the flush concern: SHOW and HOUSE. -/
def isShowOrHouse (c : CallClass) : Bool := 2 ≤ classRank c

/-- The audience zones STALLS, CIRCLE and GALLERY (TABLE LI). -/
def audienceZones : ZoneSet := 0b00011100#8

/-- A zone set without the audience zones. -/
def withoutAudience (z : ZoneSet) : ZoneSet := z &&& ~~~audienceZones

def EntryState.effective : EntryState → Option ZoneSet
  | .playing z => some z
  | .queued | .waiting _ => none

/-- The PLAYING entry; there is never more than one (R156). -/
def Clu.playing (c : Clu) : Option CallEntry := c.entries.find? fun e => e.state.effective.isSome

/-- The effective zone set of the play in hand, empty where there is none. -/
def Clu.effective (c : Clu) : ZoneSet := (c.playing.bind fun e => e.state.effective).getD 0

/-- The queue order: by class, and within a class by arrival order (R158). -/
def CallEntry.before (a b : CallEntry) : Bool :=
  classRank a.cls < classRank b.cls || (classRank a.cls == classRank b.cls && a.arrival < b.arrival)

def insertInOrder (e : CallEntry) : List CallEntry → List CallEntry
  | [] => [e]
  | f :: fs => if e.before f then e :: f :: fs else f :: insertInOrder e fs

/-- The entries in queue order (R158). -/
def Clu.ordered (c : Clu) : List CallEntry := c.entries.foldr insertInOrder []

/-- The first QUEUED entry in queue order (R158). -/
def Clu.firstQueued (c : Clu) : Option CallEntry := c.ordered.find? fun e => e.state = .queued

def Clu.find (id : Nat) (c : Clu) : Option CallEntry := c.entries.find? fun e => e.id = id

/-- The entry with an id is changed. -/
def Clu.modify (id : Nat) (f : CallEntry → CallEntry) (c : Clu) : Clu :=
  { c with entries := c.entries.map fun e => if e.id = id then f e else e }

/-- An entry is removed with a cause: a CALL notice, and a report to FDU (R170). -/
def Clu.remove (e : CallEntry) (cause : RemovalCause) (c : Clu) : CluOut :=
  { clu := { c with entries := c.entries.filter fun f => f.id ≠ e.id },
    notes := [.callRemoved e.id e.source e.cls e.plays cause], removed := [e.id] }

/-! ## Stops, ends and FAILED (R161 to R165) -/

/-- A play is stopped, whatever its stage: the STOP strobe of 50 ms begins (R162). -/
def Clu.stop (now : Nat) (c : Clu) : Clu := { c with announcer := .stopping (some (now + 50)) (now + 500) }

/-- FAILED is set; a CALL notice marks its setting (R163).
DEDUCED (log 21). -/
def Clu.setFailed (cause : FailedCause) (c : Clu) : CluOut :=
  if c.failed then CluOut.of c
  else { clu := { c with failed := true }, notes := [.announcerFailed cause], removed := [] }

/-- A play counts as done: the PLAYED notice, then removal, the gap, or QUEUED at once (R165).
DEDUCED (log 20). -/
def Clu.playDone (now : Nat) (degraded : Bool) (e : CallEntry) (c : Clu) : CluOut :=
  let plays := saturate 255 e.plays
  let o : CluOut := { clu := c, notes := [.callPlayed e.id e.plays degraded], removed := [] }
  if 1 ≤ e.repeats ∧ e.repeats ≤ plays then o.andThen (Clu.remove { e with plays } .completed)
  else
    let st : EntryState := if 0 < e.gap then .waiting (now + e.gap * 1000) else .queued
    o.andThen fun c => CluOut.of (c.modify e.id fun f => { f with plays, state := st })

/-- The end of a play, normal or degraded: the announcer returns to IDLE and the play is counted (R165). -/
def Clu.endPlay (now : Nat) (degraded : Bool) (e : CallEntry) (c : Clu) : CluOut :=
  Clu.playDone now degraded e { c with announcer := .idle }

/-- SPEAKING would begin: the PLAY strobe and the start window, or a bell-only end (R159, R160, R164). -/
def Clu.beginSpeaking (now : Nat) (e : CallEntry) (c : Clu) : CluOut :=
  if e.slot = none then c.endPlay now false e
  else if c.failed || c.bellOnly then c.endPlay now true e
  else if c.busy then
    CluOut.of { c with announcer := .speaking (some (now + 50)) true (now + 90000), noStarts := 0 }
  else CluOut.of { c with announcer := .speaking (some (now + 50)) false (now + 500) }

/-- The next time of a bell pattern, or SPEAKING after its last off time (R152, R159). -/
def Clu.ring (now : Nat) (segments : BellPattern) (e : CallEntry) (c : Clu) : CluOut :=
  match segments with
  | [] => c.beginSpeaking now e
  | (on, _) :: _ => CluOut.of { c with announcer := .bell segments true (now + on * 50) }

/-! ## Selection (R158) -/

/-- The zone set a play of an entry is made in: without the audience zones while RUNNING, for SHOW and HOUSE. -/
def playZones (phase : Phase) (cls : CallClass) (z : ZoneSet) : ZoneSet :=
  if phase = .running ∧ isShowOrHouse cls then withoutAudience z else z

/-- Selection among at most `k` QUEUED entries. -/
def Clu.selectFrom (now : Nat) (phase : Phase) : Nat → Clu → CluOut
  | 0, c => CluOut.of c
  | k + 1, c =>
    match c.firstQueued with
    | none => CluOut.of c
    | some e =>
      let z := playZones phase e.cls e.zones
      if phase = .running ∧ isShowOrHouse e.cls ∧ z = 0 then
        (c.remove e .barred).andThen (Clu.selectFrom now phase k)
      else
        CluOut.of { c.modify e.id (fun f => { f with state := .playing z }) with
          announcer := .settling (now + 200), bellOnly := false }

/-- Selection, which happens only while the announcer is IDLE. -/
def Clu.select (now : Nat) (phase : Phase) (c : Clu) : CluOut :=
  if c.announcer = .idle then c.selectFrom now phase c.entries.length else CluOut.of c

/-! ## Preemption, cancelling, flushing and gate cuts (R166 to R169) -/

/-- A call of a class arrives or returns: it preempts a playing call of a lower rank (R166). -/
def Clu.preempt (now : Nat) (cls : CallClass) (c : Clu) : CluOut :=
  match c.playing with
  | none => CluOut.of c
  | some e =>
    if isShowOrHouse e.cls ∧ isShowOrHouse cls = false then (c.stop now).remove e .preempted
    else if e.cls = .alert ∧ cls = .evac then
      { clu := (c.stop now).modify e.id fun f => { f with state := .queued }, notes := [.callRequeued e.id], removed := [] }
    else CluOut.of c

/-- An entry is removed by a cancel, its play stopped first (R169). -/
def Clu.cancel (now : Nat) (e : CallEntry) (c : Clu) : CluOut :=
  if e.state.effective.isSome then (c.stop now).remove e .cancelled else c.remove e .cancelled

/-- The removals of the EVACUATE flush, one entry after another (R167). -/
def Clu.flushEach (now : Nat) : List CallEntry → Clu → CluOut
  | [], c => CluOut.of c
  | e :: es, c =>
    let o :=
      if isShowOrHouse e.cls then
        if e.state.effective.isSome then (c.stop now).remove e .preempted else c.remove e .flushed
      else CluOut.of c
    o.andThen (Clu.flushEach now es)

/-- The EVACUATE flush (R167).
DESIGN CHOICE: the entries go in the order in which they were admitted (log 47). -/
def Clu.flush (now : Nat) (c : Clu) : CluOut := Clu.flushEach now c.entries c

/-- Denials of audience relays take their zones out of the play in hand, and end it where none is left (R168). -/
def Clu.cut (now : Nat) (denied : ZoneSet) (c : Clu) : CluOut :=
  match c.playing with
  | none => CluOut.of c
  | some e =>
    let z := c.effective &&& ~~~denied
    if denied = 0 then CluOut.of c
    else if z = 0 then (c.stop now).remove e .cut
    else CluOut.of (c.modify e.id fun f => { f with state := .playing z })

/-! ## Admission (R151, R153 to R157) -/

/-- The six fields of a call body within their ranges, with repeats and gap clamped (R151, TABLE LXXI). -/
def bodyTemplate (b : CallBody) : Option Template :=
  match (match b.cls with
    | 0 => some CallClass.evac
    | 1 => some .alert
    | 2 => some .showClass
    | 3 => some .houseClass
    | _ => none) with
  | none => none
  | some cls =>
    if b.slot ≤ 63 ∨ b.slot = 255 then
      some { cls, slot := if b.slot = 255 then none else some b.slot, zones := b.zones, bell := b.bell,
             repeats := min 9 b.repeats, gap := min 60 b.gap }
    else none

/-- The refusals of R151 on the fields of a call: an empty zone set, a bell pattern above 7, endless repeats for SHOW or
HOUSE, no message slot and no bell. -/
def templateOk (t : Template) : Bool :=
  t.zones ≠ 0 && t.bell ≤ 7 && !(t.repeats == 0 && isShowOrHouse t.cls) && !(t.slot.isNone && t.bell == 0)

/-- The fields of a call body checked as for TEMPLATE-WRITE. -/
def checkedBody (b : CallBody) : Option Template := (bodyTemplate b).filter templateOk

/-- A call as CLU decides it. -/
inductive CallResult where
  | admitted (id : Nat) (merged : Bool) (zones : ZoneSet)
  | refused (reason : Reason)
  deriving DecidableEq, Repr

/-- The outcome as it returns to an issuer inside the part. -/
def CallResult.outcome : CallResult → CallOutcome
  | .admitted id merged _ => .admitted id merged
  | .refused r => .refused r

/-- Entries reserved to a source (TABLE LIV). -/
def reservation : Source → Nat
  | .desk => 3
  | .plan => 5
  | .link => 5
  | .safety => 3

def Clu.reservedInUse (src : Source) (c : Clu) : Nat :=
  (c.entries.filter fun e => e.source = src && !e.pool).length

def Clu.poolInUse (c : Clu) : Nat := (c.entries.filter (·.pool)).length

/-- The accounting a call takes: RESERVED (false), POOL (true), or none left to it (R156). -/
def Clu.accounting (src : Source) (cls : CallClass) (c : Clu) : Option Bool :=
  if c.reservedInUse src < reservation src then some false
  else if c.poolInUse < 8 ∧ ¬ (cls = .houseClass ∧ (src = .link ∨ src = .plan) ∧ 8 - c.poolInUse ≤ 2) then some true
  else none

/-- The first id at or after the next-id value that no entry holds, counting on from 255 to 1 (R156). -/
def Clu.freshId (c : Clu) : Nat :=
  (((List.range 255).map fun k => (c.nextId - 1 + k) % 255 + 1).find? fun i =>
    c.entries.all fun e => e.id ≠ i).getD c.nextId

/-- Renumbering of the entries held from 1 upward in their arrival order (R156). -/
def Clu.renumber (c : Clu) : Clu :=
  { c with
    entries := c.entries.map fun e => { e with arrival := (c.entries.filter fun f => f.arrival ≤ e.arrival).length },
    nextArrival := c.entries.length + 1 }

/-- The existing entry a new call merges with: equal message slot, zone set and class (R155). -/
def Clu.mergeTarget (t : Template) (z : ZoneSet) (c : Clu) : Option CallEntry :=
  c.entries.find? fun e => e.slot = t.slot && e.zones = z && e.cls = t.cls

/-- The larger of two numbers of repeats, endless (0) counting largest (R155). -/
def largerRepeats (a b : Nat) : Nat := if a = 0 ∨ b = 0 then 0 else max a b

/-- The entry a SAFETY call evicts: among POOL entries QUEUED or WAITING, the newest of class HOUSE, or else of class SHOW
(R157). -/
def Clu.evictee (c : Clu) : Option CallEntry :=
  let newest (cls : CallClass) : Option CallEntry :=
    (c.entries.filter fun e => e.pool && e.state.effective.isNone && e.cls = cls).foldl
      (fun best e => match best with
        | none => some e
        | some b => if b.arrival < e.arrival then some e else some b) none
  match newest .houseClass with
  | some e => some e
  | none => newest .showClass

/-- A new entry takes its id, its arrival order and its accounting (R156). -/
def Clu.addEntry (src : Source) (t : Template) (z : ZoneSet) (pool : Bool) (c : Clu) : Clu × Nat :=
  let c := if 4294967295 < c.nextArrival then c.renumber else c
  let id := c.freshId
  ( { c with
      entries := c.entries ++
        [{ id, source := src, cls := t.cls, slot := t.slot, zones := z, bell := t.bell, repeats := t.repeats, gap := t.gap,
           plays := 0, state := .queued, arrival := c.nextArrival, pool }],
      nextId := if id = 255 then 1 else id + 1, nextArrival := c.nextArrival + 1 }, id )

/-- What an admitted or merged call brings: preemption by EVAC and ALERT (R166), then selection (R158). -/
def Clu.arrived (now : Nat) (phase : Phase) (cls : CallClass) (c : Clu) : CluOut :=
  (c.preempt now cls).andThen (Clu.select now phase)

/-- A call is decided, whole, at its arrival (R153). -/
def Clu.decideCall (now : Nat) (phase : Phase) (src : Source) (t : Template) (c : Clu) : CluOut × CallResult :=
  if templateOk t = false then (CluOut.of c, .refused .badField)
  else if phase = .evacuate ∧ isShowOrHouse t.cls then (CluOut.of c, .refused .wrongPhase)
  else
    let z := playZones phase t.cls t.zones
    if z = 0 then (CluOut.of c, .refused .zonesBarred)
    else
      match c.mergeTarget t z with
      | some e =>
        ( Clu.arrived now phase t.cls
            (c.modify e.id fun f => { f with repeats := largerRepeats f.repeats t.repeats, gap := t.gap }),
          .admitted e.id true e.zones )
      | none =>
        match c.accounting src t.cls with
        | some pool =>
          let a := c.addEntry src t z pool
          (a.1.arrived now phase t.cls, .admitted a.2 false z)
        | none =>
          match (if src = .safety then c.evictee else none) with
          | none => (CluOut.of c, .refused .queueFull)
          | some e =>
            let o := c.remove e .evicted
            let a := o.clu.addEntry src t z true
            (o.andThen fun _ => a.1.arrived now phase t.cls, .admitted a.2 false z)

/-! ## The announcer's lines (TABLE LV) -/

/-- The effective zone set whose relays are demanded: in SETTLING, BELL and SPEAKING. -/
def Clu.demanded (c : Clu) : ZoneSet :=
  match c.announcer with
  | .settling _ | .bell .. | .speaking .. => c.effective
  | .idle | .stopping .. => 0

/-- The slot lines: the message slot of the play in hand, or 0. -/
def Clu.slotLines (c : Clu) : Nat :=
  match c.announcer with
  | .settling _ | .bell .. | .speaking .. => (c.playing.bind (·.slot)).getD 0
  | .idle | .stopping .. => 0

def Clu.playLine (c : Clu) : Bool :=
  match c.announcer with
  | .speaking (some _) _ _ => true
  | _ => false

def Clu.stopLine (c : Clu) : Bool :=
  match c.announcer with
  | .stopping (some _) _ => true
  | _ => false

/-- The zones each bell circuit serves (TABLE LI): FOYER-BELL, AUDITORIUM-CHIME, BACKSTAGE-BUZZER, STAFF-TONE. -/
def bellZones : List ZoneSet := [0b00000011#8, 0b00011100#8, 0b01100000#8, 0b10000000#8]

/-- The bell circuits that ring: in an on time, each that serves a zone of the effective zone set (R159). -/
def Clu.bellLines (c : Clu) : List Bool :=
  match c.announcer with
  | .bell _ true _ => bellZones.map fun z => z &&& c.effective ≠ 0
  | _ => List.replicate 4 false

/-- A play has not come to its speaking stage: SETTLING or BELL. -/
def Clu.beforeSpeaking (c : Clu) : Bool :=
  match c.announcer with
  | .settling _ | .bell .. => true
  | .idle | .speaking .. | .stopping .. => false

/-- The lamp condition "call playing" (8.5.1). -/
def Clu.callPlaying (c : Clu) : Bool :=
  match c.announcer with
  | .settling _ | .bell .. | .speaking .. => true
  | .idle | .stopping .. => false

end Sys2Proof.Machine
end

