-- ==== Sys2Proof/Machine/CurtainUnit.lean ====
section
/-!
DEFINITION. CTC's named operations: the curtain states and their outputs, the fault set, the start, hold and close of a
descent (chapter 3), and the arithmetic of a window (chapter 4). Each answers what CTC then holds, the notices it sends and
the reports it gives PFU (R50).
-/

namespace Sys2Proof.Machine

/-- What CTC reports to PFU (R50). -/
inductive CtcReport where
  /-- An arrival: the cause at arrival, the faults the descent gained and its drop time. -/
  | arrival (cause : DescentCause) (faults : List CurtainFault) (dropTime : Nat)
  /-- An arising of ENCODER, RETARDER or CREEP. -/
  | fault (f : CurtainFault)
  deriving DecidableEq, Repr

/-- What CTC observes when it acts: the uptime, the curtain parameters in force, line-monitor channel 0 HIGH, and the
forcing conditions of its two lines (R45). -/
structure CtcEnv where
  now      : Nat
  params   : CurtainParams
  overload : Bool
  stopped  : Bool
  forced   : Bool
  deriving DecidableEq, Repr

/-- What an operation of CTC brings about. -/
structure CtcOut where
  ctc     : Ctc
  notes   : List NoticeBody
  reports : List CtcReport
  deriving DecidableEq, Repr

def CtcOut.of (c : Ctc) : CtcOut := { ctc := c, notes := [], reports := [] }

/-- A further operation on top of one. -/
def CtcOut.andThen (o : CtcOut) (f : Ctc → CtcOut) : CtcOut :=
  let r := f o.ctc
  { ctc := r.ctc, notes := o.notes ++ r.notes, reports := o.reports ++ r.reports }

/-! ## Position, faults and the outputs of a state (R46, R48, R66) -/

/-- The curtain parameters a rule reads: the copies of the descent in hand, or those in force (3.2.1, R46). -/
def Ctc.paramsUsed (inForce : CurtainParams) (c : Ctc) : CurtainParams :=
  match c.descent with
  | some d => d.params
  | none => inForce

/-- The position p in mm: count × 100 / C, truncated (R46). -/
def Ctc.position (inForce : CurtainParams) (c : Ctc) : Nat := c.count * 100 / (c.paramsUsed inForce).counts

/-- Curtain faults in the order of TABLE XXV. -/
def CurtainFault.all : List CurtainFault :=
  [.late, .overspeed, .stall, .encoder, .limit, .raiseTimeout, .hoistOverload, .creep, .obstructed, .retarder]

/-- A fault joins a set of faults, which is listed in the order of the table.
DESIGN CHOICE: the order in which a set is listed has no meaning (log 71). -/
def addFault (f : CurtainFault) (fs : List CurtainFault) : List CurtainFault :=
  CurtainFault.all.filter fun g => g = f || fs.contains g

/-- The cause a notice carries: that of a descent while DESCENDING. -/
def Ctc.cause (c : Ctc) : Option DescentCause := c.descent.map fun d => d.record.cause

/-- A hold is in progress. -/
def Ctc.holding (c : Ctc) : Bool := (c.descent.bind (·.hold)).isSome

/-- BRAKE (TABLE XXIV). -/
def Ctc.brake (c : Ctc) : Bool :=
  match c.state with
  | .preDrop | .held => true
  | .descending => c.holding
  | .down | .raising | .up => false

/-- WARNING (TABLE XXIV). -/
def Ctc.warning (c : Ctc) : Bool :=
  match c.state with
  | .preDrop | .descending => true
  | .down | .raising | .up | .held => false

/-- The retarder command: the window law's while DESCENDING, u0 in force otherwise (R48). -/
def Ctc.command (inForce : CurtainParams) (c : Ctc) : Nat :=
  match c.descent with
  | some d => d.u
  | none => inForce.release

/-- CTC's demand for RELEASE (TABLE XXIV). -/
def Ctc.releaseDemand (c : Ctc) : Bool :=
  match c.state with
  | .raising | .up | .preDrop | .held => true
  | .down | .descending => false

/-- CTC's demand for HOIST (TABLE XXIV). -/
def Ctc.hoistDemand (c : Ctc) : Bool := c.state = .raising

/-- The CURTAIN notice of a change of state or of cause (R50). -/
def Ctc.stateNote (p : CurtainParams) (c : Ctc) : NoticeBody :=
  .curtainState c.state c.cause (c.position p) (c.command p)

/-- A state is entered: the timers of the state left are discarded, and the change is notified (R50, R52). -/
def Ctc.enter (e : CtcEnv) (st : CurtainState) (c : Ctc) : CtcOut :=
  let c' := { c with state := st, raiseDeadline := none, warnDeadline := none }
  { ctc := c', notes := [c'.stateNote e.params], reports := [] }

/-- A change to the descent in hand. -/
def Ctc.onDescent (f : Descent → Descent) (c : Ctc) : Ctc := { c with descent := c.descent.map f }

/-- A fault is recorded among the descent's faults. -/
def Descent.gain (f : CurtainFault) (d : Descent) : Descent :=
  { d with record := { d.record with faults := addFault f d.record.faults } }

/-- The supervision mode becomes TIME-ONLY (R74, R75). -/
def Descent.toTimeOnly (d : Descent) : Descent := { d with sup := { d.sup with timeOnly := true } }

/-- The notice of R87, where the mode changes. -/
def Ctc.timeOnlyNote (c : Ctc) : List NoticeBody :=
  match c.descent with
  | some d => if d.sup.timeOnly then [] else [.timeOnly d.sup.clock d.sup.windowNo]
  | none => []

/-- A fault arises (R66, 3.12.1): it is latched, recorded among the faults of a descent in hand, notified, and for ENCODER,
RETARDER and CREEP reported to PFU. ENCODER makes the supervision of a descent TIME-ONLY. -/
def Ctc.arise (e : CtcEnv) (f : CurtainFault) (c : Ctc) : CtcOut :=
  let c' := { c.onDescent (Descent.gain f) with faults := addFault f c.faults }
  { ctc := if f = .encoder then c'.onDescent Descent.toTimeOnly else c',
    notes := .curtainFault f c'.state c'.cause (c'.position e.params) :: (if f = .encoder then c.timeOnlyNote else []),
    reports := if f = .encoder ∨ f = .retarder ∨ f = .creep then [.fault f] else [] }

/-! ## The close of a descent (R60, R68, R69, R85) -/

/-- The record with the figures of the supervision state at the close (R85). -/
def Descent.closed (ending : Ending) (d : Descent) : DescentRecord :=
  { d.record with dropTime := d.sup.clock, finalU := d.u, ending := some ending }

/-- The descent is closed: its record heads the history, which keeps four, and the supervision state is discarded (R69,
R71). -/
def Ctc.closeDescent (ending : Ending) (c : Ctc) : Ctc :=
  match c.descent with
  | some d => { c with descent := none, history := (d.closed ending :: c.history).take 4 }
  | none => c

/-- The arrival check (R85): a drop time beyond Tmax × 100 latches LATE, if it is not yet among the descent's faults. -/
def Ctc.arrivalCheck (e : CtcEnv) (c : Ctc) : CtcOut :=
  match c.descent with
  | some d =>
    if d.params.maxDrop * 100 < d.sup.clock ∧ d.record.faults.contains .late = false then c.arise e .late else CtcOut.of c
  | none => CtcOut.of c

/-- The descent arrives: the arrival check, the close, DOWN, the arrival report and the notice with the record (R60).
DESIGN CHOICE: a hold that the arrival cuts short is shown by no notice (log 41). -/
def Ctc.arrive (e : CtcEnv) (c : Ctc) : CtcOut :=
  (c.arrivalCheck e).andThen fun c =>
    match c.descent with
    | some d =>
      let r := d.closed .arrived
      ((c.closeDescent .arrived).enter e .down).andThen fun c =>
        { ctc := c, notes := [.curtainArrival r], reports := [.arrival r.cause r.faults r.dropTime] }
    | none => CtcOut.of c

/-! ## Starts and holds (R57, R63, R84, R86) -/

/-- The supervision state a descent opens with (TABLE XXVIII). -/
def Supervision.atStart (pos : Nat) (timeOnly : Bool) : Supervision :=
  { clock := 0, windowNo := 0, progress := 0, prevPos := pos, timeOnly, overspeedRun := 0, overspeedForce := false,
    predictionRun := 0, lateForce := false, stallRun := 0, stallTaken := false, lastTarget := none, lastPrediction := none }

/-- The record a descent opens (R57).
DESIGN CHOICE: its final u reads 0 until the close (log 42). -/
def DescentRecord.opened (cause : DescentCause) (now pos : Nat) : DescentRecord :=
  { startCause := cause, cause, startTime := deciseconds now, startPos := pos, dropTime := 0, maxSpeed := 0, holds := 0,
    ignored := 0, faults := [], finalU := 0, ending := none }

/-- The causes of a descent that cannot be stopped, only held (R63). -/
def DescentCause.holdable : DescentCause → Bool
  | .emergency | .reset => true
  | .test | .request | .stop => false

/-- A hold begins: it is counted, its timer runs for the obstruction hold time in force, the window in progress is
abandoned and the three runs are set to 0 (R63, R72, R84).
DESIGN CHOICE: the window progress reads 0 from the start of the hold (log 63). -/
def Descent.beginHold (e : CtcEnv) (d : Descent) : Descent :=
  { d with
    hold := some (e.now + e.params.hold * 1000),
    record := { d.record with holds := d.record.holds + 1 },
    sup := { d.sup with progress := 0, overspeedRun := 0, predictionRun := 0, stallRun := 0 } }

/-- A descent starts from the current position (R57): the parameters are copied, the record and the supervision state are
opened, u is u0. One of cause EMERGENCY or RESET that finds EDGE operated takes its first hold at once, and one that finds
FLOOR closed arrives at its start (`startDescent`).
DESIGN CHOICE: one that finds both counts its hold before it arrives (log 53).
DEDUCED: one that opens in TIME-ONLY mode sends no TIME-ONLY notice (log 44). -/
def Ctc.openDescent (e : CtcEnv) (cause : DescentCause) (c : Ctc) : CtcOut :=
  let pos := c.count * 100 / e.params.counts
  let d : Descent :=
    { record := .opened cause e.now pos, params := e.params,
      sup := .atStart pos (c.faults.contains .encoder), u := e.params.release, hold := none,
      floorTimer := if pos ≤ 20 ∧ c.floor = false then some 0 else none, last := none }
  let held := c.edge && cause.holdable
  let d' := if held then d.beginHold e else d
  let o := Ctc.enter e .descending { c with descent := some d' }
  { o with notes := o.notes ++ if held then [.curtainHold .begun] else [] }

/-- A descent that finds FLOOR closed arrives (R86). -/
def Ctc.arriveAtStart (e : CtcEnv) (c : Ctc) : CtcOut := if c.floor then c.arrive e else CtcOut.of c

/-- A descent starts from the current position (R57, R86).
DESIGN CHOICE: a hold taken at once comes before the arrival at the start (log 53). -/
def Ctc.startDescent (e : CtcEnv) (cause : DescentCause) (c : Ctc) : CtcOut :=
  (c.openDescent e cause).andThen (Ctc.arriveAtStart e)

/-- An edge trip stops a descent (R62): OBSTRUCTED, the record closed with that ending, HELD. -/
def Ctc.edgeStop (e : CtcEnv) (c : Ctc) : CtcOut :=
  (c.arise e .obstructed).andThen fun c => (c.closeDescent .obstructed).enter e .held

/-- An edge trip meets a descent that cannot be stopped (R63): a hold, a restart of the hold, or an ignored trip. -/
def Ctc.edgeHold (e : CtcEnv) (c : Ctc) : CtcOut :=
  match c.descent with
  | none => CtcOut.of c
  | some d =>
    if d.hold.isSome then
      { ctc := c.onDescent fun d => { d with hold := some (e.now + e.params.hold * 1000) },
        notes := [.curtainHold .restarted], reports := [] }
    else if d.record.holds < 3 then
      { ctc := c.onDescent (Descent.beginHold e), notes := [.curtainHold .begun], reports := [] }
    else
      { ctc := c.onDescent fun d => { d with record := { d.record with ignored := saturate 255 d.record.ignored } },
        notes := [.curtainHold .ignored], reports := [] }

/-- A hold ends: the brake comes off and a new window begins from the position at the hold's end (R63, R73, R84). -/
def Ctc.endHold (e : CtcEnv) (c : Ctc) : CtcOut :=
  let p := c.position e.params
  { ctc := c.onDescent fun d => { d with hold := none, sup := { d.sup with progress := 0, prevPos := p } },
    notes := [.curtainHold .ended], reports := [] }

/-! ## Raising, the top, and the stop warning (R51 to R54, R58, R59, R64) -/

/-- The end of a stop warning (R59): a STOP descent, or HELD with OBSTRUCTED where EDGE is operated. -/
def Ctc.endWarning (e : CtcEnv) (c : Ctc) : CtcOut :=
  if c.edge then (c.arise e .obstructed).andThen (Ctc.enter e .held) else c.startDescent e .stop

/-- PRE-DROP is entered, and left at once where the stop warning is 0 (R59). -/
def Ctc.enterPreDrop (e : CtcEnv) (c : Ctc) : CtcOut :=
  let o := (c.enter e .preDrop).andThen fun c =>
    CtcOut.of { c with warnDeadline := some (e.now + e.params.warning * 1000) }
  if e.params.warning = 0 then o.andThen (Ctc.endWarning e) else o

/-- UP is entered, with the creep comparison made at that entry (R54). -/
def Ctc.enterUp (e : CtcEnv) (c : Ctc) : CtcOut :=
  (c.enter e .up).andThen fun c =>
    if c.position e.params + 100 < e.params.travel ∧ c.faults.contains .encoder = false then
      (c.arise e .creep).andThen (Ctc.enter e .held)
    else CtcOut.of c

/-- A raise ends in HELD with a fault (R52, R53). -/
def Ctc.faultHeld (e : CtcEnv) (f : CurtainFault) (c : Ctc) : CtcOut := (c.arise e f).andThen (Ctc.enter e .held)

/-- RAISING is entered (R51). -/
def Ctc.startRaise (e : CtcEnv) (c : Ctc) : CtcOut :=
  (c.enter e .raising).andThen fun c =>
    CtcOut.of { c with raiseDeadline := some (e.now + e.params.raiseLimit * 1000) }

/-- The top is reached (R52): TOP is closed, or p stands at H − 20 or above with ENCODER not latched. -/
def Ctc.atTop (e : CtcEnv) (c : Ctc) : Bool :=
  c.top || decide (e.params.travel ≤ c.position e.params + 20) && !c.faults.contains .encoder

/-- A RAISING curtain meets a hoist denial or a release forcing (R53), by the forcing conditions in force.
DEDUCED (log 23). -/
def Ctc.raiseDenied (e : CtcEnv) (c : Ctc) : CtcOut :=
  let overload (c : Ctc) : CtcOut := if e.overload then c.arise e .hoistOverload else CtcOut.of c
  if e.forced then (overload c).andThen (Ctc.startDescent e .emergency)
  else if e.stopped then (overload c).andThen (Ctc.enterPreDrop e)
  else if e.overload then c.faultHeld e .hoistOverload
  else CtcOut.of c

/-- The cause of the descent in hand changes, and is notified (R50, R58, R64). -/
def Ctc.changeCause (e : CtcEnv) (cause : DescentCause) (c : Ctc) : CtcOut :=
  let c' := c.onDescent fun d => { d with record := { d.record with cause } }
  { ctc := c', notes := [c'.stateNote e.params], reports := [] }

/-- CTC observes the entry to STOPPED (R58). -/
def Ctc.onStopped (e : CtcEnv) (c : Ctc) : CtcOut :=
  match c.state with
  | .up | .held => c.enterPreDrop e
  | .raising => c.raiseDenied e
  | .descending =>
    match c.cause with
    | some .test | some .request => c.changeCause e .stop
    | _ => CtcOut.of c
  | .preDrop | .down => CtcOut.of c

/-- A RELEASE forcing condition comes into force while none was in force (R64). -/
def Ctc.onForced (e : CtcEnv) (c : Ctc) : CtcOut :=
  match c.state with
  | .down => CtcOut.of c
  | .raising => c.raiseDenied e
  | .up | .preDrop | .held => c.startDescent e .emergency
  | .descending =>
    match c.cause with
    | some .test | some .request | some .stop => c.changeCause e .emergency
    | _ => CtcOut.of c

/-! ## Field inputs (R46, R52, R54, R60, R62, R65) -/

/-- ENCODER arises where p comes above H + 200 (R46, R66).
DESIGN CHOICE: tested at a change of the count only, not at a change of H or C (log 39). -/
def Ctc.encoderTest (e : CtcEnv) (c : Ctc) : CtcOut :=
  let above := (c.paramsUsed e.params).travel + 200 < c.position e.params
  let c' := { c with aboveLimit := above }
  if above ∧ c.aboveLimit = false then c'.arise e .encoder else CtcOut.of c'

/-- The floor timer follows p and FLOOR: it starts at p 20 or below with FLOOR open and is reset above 20 (R60). -/
def Ctc.followFloor (e : CtcEnv) (c : Ctc) : Ctc :=
  let p := c.position e.params
  c.onDescent fun d =>
    { d with floorTimer := if p ≤ 20 ∧ c.floor = false then some (d.floorTimer.getD 0) else none }

/-- What a change of the encoder count does in the state the curtain stands in (R52, R54, R60).
DESIGN CHOICE: a p that a change of the count finds below H − 100 in UP is CREEP, wherever it stood before (log 40). -/
def Ctc.encoderMoves (e : CtcEnv) (arose : Bool) (c : Ctc) : CtcOut :=
  let p := c.position e.params
  let latched := c.faults.contains .encoder
  match c.state with
  | .raising =>
    if arose then c.enter e .held
    else if e.params.travel ≤ p + 20 ∧ latched = false then c.enterUp e
    else CtcOut.of c
  | .up => if p + 100 < e.params.travel ∧ latched = false then c.faultHeld e .creep else CtcOut.of c
  | .descending => CtcOut.of (c.followFloor e)
  | .down | .preDrop | .held => CtcOut.of c

/-- One change of the count brings a RAISING curtain both to H − 20 and above H + 200, so that two of the events of R52 come
at the same moment. -/
def Ctc.topRace (inForce : CurtainParams) (count : Nat) (c : Ctc) : Bool :=
  c.state = .raising && decide (inForce.travel + 200 < Ctc.position inForce { c with count }) && !c.aboveLimit &&
    !c.faults.contains .encoder

/-- The encoder count changes (R46). Of the two events of a `topRace` the one that reaches the top is taken first where
`topFirst` says so, and ENCODER then arises in UP (R52). -/
def Ctc.encoderChange (e : CtcEnv) (topFirst : Bool) (count : Nat) (c : Ctc) : CtcOut :=
  let c := { c with count }
  if topFirst then (c.enterUp e).andThen (Ctc.encoderTest e)
  else
    let o := c.encoderTest e
    o.andThen (Ctc.encoderMoves e (o.reports ≠ []))

/-- A change of the TOP input (R52). -/
def Ctc.topChange (e : CtcEnv) (closed : Bool) (c : Ctc) : CtcOut :=
  let c := { c with top := closed }
  if closed ∧ c.state = .raising then c.enterUp e else CtcOut.of c

/-- A change of the OVERTRAVEL input (R52). -/
def Ctc.overtravelChange (e : CtcEnv) (closed : Bool) (c : Ctc) : CtcOut :=
  let c := { c with overtravel := closed }
  if closed ∧ (c.state = .raising ∨ c.state = .up) then c.faultHeld e .limit else CtcOut.of c

/-- A change of the FLOOR input (R60, R65). -/
def Ctc.floorChange (e : CtcEnv) (closed : Bool) (c : Ctc) : CtcOut :=
  let c := { c with floor := closed }
  if closed then
    match c.state with
    | .descending => c.arrive e
    | .held => c.enter e .down
    | .down | .raising | .up | .preDrop => CtcOut.of c
  else CtcOut.of (c.followFloor e)

/-- A change of the EDGE input: operated, it is an edge trip (R62, R63). -/
def Ctc.edgeChange (e : CtcEnv) (operated : Bool) (c : Ctc) : CtcOut :=
  let c := { c with edge := operated }
  if operated ∧ c.state = .descending then
    match c.cause with
    | some .emergency | some .reset => c.edgeHold e
    | some .test | some .request | some .stop => c.edgeStop e
    | none => CtcOut.of c
  else CtcOut.of c

/-- CURTAIN-CLEAR accepted (R67): the set is emptied, and the conditions that still stand arise again. -/
def Ctc.clearFaults (e : CtcEnv) (channel1Low : Bool) (c : Ctc) : CtcOut :=
  let above := e.params.travel + 200 < c.position e.params
  let again (b : Bool) (f : CurtainFault) (c : Ctc) : CtcOut := if b then c.arise e f else CtcOut.of c
  (((CtcOut.of { c with faults := [], aboveLimit := above }).andThen (again above .encoder)).andThen
    (again channel1Low .retarder)).andThen fun c => again c.overtravel .limit c

/-- CURTAIN-HALT may stop the descent in hand (R61): cause TEST or REQUEST, p above S, ENCODER not latched. -/
def Ctc.haltable (e : CtcEnv) (c : Ctc) : Bool :=
  match c.descent with
  | some d =>
    (d.record.cause = .test || d.record.cause = .request) && decide (d.params.slowZone < c.position e.params) &&
      !c.faults.contains .encoder
  | none => false

/-! ## A window of a descent (chapter 4) -/

/-- Target speed (TABLE XXIX). -/
def targetSpeed (q : CurtainParams) (p : Nat) : Int :=
  if p ≤ q.slowZone then q.slowSpeed
  else if q.slowZone + q.ramp ≤ p then q.mainSpeed
  else (q.slowSpeed : Int) + (((q.mainSpeed : Int) - q.slowSpeed) * ((p : Int) - q.slowZone)).tdiv q.ramp

/-- The overspeed threshold (R78). -/
def overspeedThreshold (q : CurtainParams) (p : Nat) : Nat :=
  if q.slowZone < p then q.mainSpeed * 3 / 2 else 2 * q.slowSpeed

/-- The limit at or below which overspeed forcing ends (R79). -/
def forcingLimit (q : CurtainParams) (p : Nat) : Nat := if q.slowZone < p then q.mainSpeed else q.slowSpeed

/-- The prediction P_k (R80). -/
def prediction (q : CurtainParams) (p : Nat) (v : Int) (t : Nat) : Int :=
  let w := max v 50
  if q.slowZone < p then
    (t : Int) + (((p : Int) - q.slowZone) * 1000).tdiv w + ((q.slowZone : Int) * 1000).tdiv q.slowSpeed
  else (t : Int) + ((p : Int) * 1000).tdiv w

/-- The retarder law's value (R77). -/
def lawValue (q : CurtainParams) (uPrev : Nat) (v target : Int) : Nat :=
  (min 1000 (max 0 ((uPrev : Int) + ((v - target) * q.gain).tdiv 16))).toNat

/-- The overspeed test (R78, R79): the run and the forcing after the window, whether OVERSPEED arises, and whether the
forcing ends in it. -/
structure OverspeedResult where
  run   : Nat
  force : Bool
  arose : Bool
  ended : Bool
  deriving DecidableEq, Repr

def overspeedTest (q : CurtainParams) (s : Supervision) (p : Nat) (v : Int) : OverspeedResult :=
  if s.overspeedForce then
    if (forcingLimit q p : Int) < v then { run := s.overspeedRun, force := true, arose := false, ended := false }
    else { run := s.overspeedRun, force := false, arose := false, ended := true }
  else
    let run := if (overspeedThreshold q p : Int) < v then s.overspeedRun + 1 else 0
    if run = 2 then { run := 0, force := true, arose := true, ended := false }
    else { run, force := false, arose := false, ended := false }

/-- The prediction run after a window (R81). -/
def predictionRunAfter (q : CurtainParams) (s : Supervision) (pred : Int) : Nat :=
  if s.clock < 2000 then s.predictionRun else if (q.maxDrop : Int) * 100 < pred then s.predictionRun + 1 else 0

/-- The figures of a window as CURTAIN-READ gives them (R87): p_k and v_k, the last target and prediction, and the command. A
window in TIME-ONLY mode reads p_k and forms no v_k (R75).
DEDUCED (log 44). -/
def Descent.figures (p : Nat) (v : Option Int) (d : Descent) : WindowFigures :=
  { position := p, speed := v, target := d.sup.lastTarget, prediction := d.sup.lastPrediction, command := d.u }

/-- A window evaluated no further than p_k, or p_k and v_k (R74, R75). -/
def Descent.readOnly (p : Nat) (v : Option Int) (d : Descent) : Descent :=
  { d with sup := { d.sup with prevPos := p }, last := some (d.figures p v) }

/-- A window evaluated in SPEED mode after the jump test: stages 3 to 8 of R72, in order. The faults that arise are given in
the order of their stages; the end of overspeed forcing with its figures. -/
def Descent.evaluate (p : Nat) (v : Int) (d : Descent) : Descent × List CurtainFault × List NoticeBody :=
  let q := d.params
  let s := d.sup
  let target := targetSpeed q p
  let osp := overspeedTest q s p v
  let pred := prediction q p v s.clock
  let predRun := if s.lateForce then s.predictionRun else predictionRunAfter q s pred
  let lateStarts := !s.lateForce && predRun == 3
  let late := s.lateForce || lateStarts
  let u := if osp.force then 1000 else if late then 0 else lawValue q (if osp.ended then 1000 else d.u) v target
  let stall := if v < 20 then min 10 (s.stallRun + 1) else 0
  let stalls := stall == 10 && !s.stallTaken
  let lastPred := if s.lateForce then s.lastPrediction else some pred
  ( { d with
      u,
      record := { d.record with maxSpeed := max d.record.maxSpeed v },
      sup := { s with
        prevPos := p, overspeedRun := osp.run, overspeedForce := osp.force, predictionRun := predRun, lateForce := late,
        stallRun := stall, stallTaken := s.stallTaken || stalls, lastTarget := some target, lastPrediction := lastPred },
      last := some { position := p, speed := some v, target := some target, prediction := lastPred, command := u } },
    (if osp.arose then [.overspeed] else []) ++
      (if lateStarts ∧ d.record.faults.contains .late = false then [.late] else []) ++ (if stalls then [.stall] else []),
    if osp.ended then [.overspeedEnded p v u] else [] )

/-- The end of a window (R72): it is counted, and evaluated by the mode of supervision. A displacement above 200 mm is a
failure of the encoder, and ends the evaluation (R74); in TIME-ONLY mode no stage is evaluated (R75).
DESIGN CHOICE: the notices of the faults that arise in the window come before that of the end of forcing (log 62). -/
def Ctc.window (e : CtcEnv) (c : Ctc) : CtcOut :=
  match c.descent with
  | none => CtcOut.of c
  | some d =>
    let p := c.position e.params
    let delta : Int := (d.sup.prevPos : Int) - p
    let v := 10 * delta
    let d := { d with sup := { d.sup with windowNo := min 65535 (d.sup.windowNo + 1), progress := 0 } }
    if d.sup.timeOnly then
      CtcOut.of { c with descent := some (d.readOnly p none) }
    else if 200 < delta.natAbs then
      Ctc.arise e .encoder { c with descent := some (d.readOnly p (some v)) }
    else
      let r := d.evaluate p v
      let o := r.2.1.foldl (fun o f => o.andThen (Ctc.arise e f)) (CtcOut.of { c with descent := some r.1 })
      { o with notes := o.notes ++ r.2.2 }

/-- TIME-ONLY supervision finds the drop-time clock past Tmax × 100 ms, with LATE not among the descent's faults (R75). -/
def Ctc.timeOnlyLateDue (c : Ctc) : Bool :=
  match c.descent with
  | some d => d.sup.timeOnly && decide (d.params.maxDrop * 100 < d.sup.clock) && !d.record.faults.contains .late
  | none => false

/-- One millisecond of a descent: the drop-time clock, the window in progress and the floor timer stand still during a hold,
and the floor timer does not run while ENCODER is latched (R60, R63, R71, R72).
DESIGN CHOICE: the drop-time clock holds at the end of its range (log 43). -/
def Ctc.tick (c : Ctc) : Ctc :=
  c.onDescent fun d =>
    if d.hold.isSome then d
    else
      { d with
        sup := { d.sup with clock := min 4294967295 (d.sup.clock + 1), progress := d.sup.progress + 1 },
        floorTimer := if c.faults.contains .encoder then d.floorTimer else d.floorTimer.map (· + 1) }

end Sys2Proof.Machine
end

