-- ==== Sys2Proof/Machine/DeskUnit.lean ====
section
/-!
DEFINITION. DSU's named operations: the scan of the key matrix, the key state machine and what it fires (R183 to R185).
-/

namespace Sys2Proof.Machine

/-- What an operation of DSU brings about: the notices it sends, and the key it fires. -/
structure DsuOut where
  dsu   : Dsu
  notes : List NoticeBody
  fires : Option Nat
  deriving DecidableEq, Repr

def DsuOut.of (d : Dsu) : DsuOut := { dsu := d, notes := [], fires := none }

/-- The debounce time in ms (R184). -/
def debounceTime (c : Settings) : Nat := c.desk.debounce * 4

/-- The column being driven. -/
def Dsu.column (d : Dsu) : Nat := d.order.getD d.scanAt 0

/-- The keys of a column that its rows read closed (R183). -/
def keysRead (column : Nat) (rows : Rows) : List Nat :=
  ((List.range 6).filter fun r => rows.getLsbD r).map fun r => column * 6 + r

/-- The down set after a read of a column, in rising order (R183).
DESIGN CHOICE: the order in which a set is listed has no meaning (log 71). -/
def downAfter (column : Nat) (rows : Rows) (down : List Nat) : List Nat :=
  down.filter (fun k => k / 6 < column) ++ keysRead column rows ++ down.filter (fun k => column < k / 6)

/-- A key joins between two down sets. -/
def joins (old new : List Nat) : Bool := new.any fun k => !old.contains k

/-- The RELEASE-DEBOUNCE state met with a down set: its timer runs while the set is empty (R184). -/
def releaseState (now : Nat) (c : Settings) (down : List Nat) : KeyState :=
  .releaseDebounce (if down = [] then some (now + debounceTime c) else none)

/-- The down set changes (TABLE LXII, R184, R185). -/
def Dsu.changeDown (now : Nat) (c : Settings) (new : List Nat) (d : Dsu) : DsuOut :=
  let old := d.down
  let d := { d with down := new }
  if new = old then DsuOut.of d
  else
    match d.key with
    | .idle =>
      if joins old new then DsuOut.of { d with key := .pressDebounce (now + debounceTime c) } else DsuOut.of d
    | .pressDebounce _ =>
      if new = [] then DsuOut.of { d with key := .idle }
      else DsuOut.of { d with key := .pressDebounce (now + debounceTime c) }
    | .held k _ =>
      if new.contains k = false then DsuOut.of { d with key := releaseState now c new }
      else if joins old new then { dsu := { d with key := .rollover }, notes := [.rollover new .held], fires := none }
      else DsuOut.of d
    | .rollover => if new = [] then DsuOut.of { d with key := releaseState now c new } else DsuOut.of d
    | .releaseDebounce _ => DsuOut.of { d with key := releaseState now c new }

/-- The keys of the columns that a scan order names. -/
def keysOf (order : List Nat) (down : List Nat) : List Nat := down.filter fun k => order.contains (k / 6)

/-- The start of a full scan takes the order and dwell then in force, and takes the keys of columns no longer scanned out of
the down set (R183). -/
def Dsu.nextScan (now : Nat) (c : Settings) (d : Dsu) : DsuOut :=
  Dsu.changeDown now c (keysOf c.desk.order d.down) { d with order := c.desk.order, dwell := c.desk.dwell, scanAt := 0 }

/-- The rows of the column being driven are read at the end of its dwell, and the next column is driven (R183). -/
def Dsu.readColumn (now : Nat) (c : Settings) (rows : Rows) (d : Dsu) : DsuOut :=
  let o := d.changeDown now c (downAfter d.column rows d.down)
  let o :=
    if d.scanAt + 1 < d.order.length then { o with dsu := { o.dsu with scanAt := d.scanAt + 1 } }
    else
      let r := o.dsu.nextScan now c
      { r with notes := o.notes ++ r.notes }
  { o with dsu := { o.dsu with columnDue := d.columnDue + o.dsu.dwell } }

/-- The debounce timer runs out (R184, R185): one key down is HELD, and an ordinary key fires; two or more roll over. -/
def Dsu.debounceEnd (now : Nat) (c : Settings) (d : Dsu) : DsuOut :=
  match d.key with
  | .pressDebounce _ =>
    match d.down with
    | [k] =>
      if (c.key k).long then DsuOut.of { d with key := .held k (some (now + 1000)) }
      else { dsu := { d with key := .held k none }, notes := [], fires := some k }
    | _ => { dsu := { d with key := .rollover }, notes := [.rollover d.down .pressDebounce], fires := none }
  | .releaseDebounce _ => DsuOut.of { d with key := .idle }
  | .idle | .held .. | .rollover => DsuOut.of d

/-- The long timer runs out (R185). -/
def Dsu.longEnd (d : Dsu) : DsuOut :=
  match d.key with
  | .held k (some _) => { dsu := { d with key := .held k none }, notes := [], fires := some k }
  | .idle | .pressDebounce _ | .held _ none | .rollover | .releaseDebounce _ => DsuOut.of d

/-- The debounce timer, where it runs. -/
def KeyState.debounceTimer : KeyState → Option Nat
  | .pressDebounce t => some t
  | .releaseDebounce t => t
  | .idle | .held .. | .rollover => none

/-- The long timer, where it runs. -/
def KeyState.longTimer : KeyState → Option Nat
  | .held _ t => t
  | .idle | .pressDebounce _ | .rollover | .releaseDebounce _ => none

/-- The request kind a key action issues (TABLE LXIII). -/
def keyRequest : KeyAction → Option RequestKind
  | .phase .openHouse => some .openHouse
  | .phase .begin => some .begin
  | .phase .interval => some .interval
  | .phase .endShow => some .endShow
  | .phase .resume => some .resume
  | .showStop => some .showStop
  | .evacuate => some .evacuate
  | .fireFull => some .fireFull
  | .call _ => some .callTemplate
  | .curtainLower => some .curtainLower
  | .curtainRaise => some .curtainRaise
  | .curtainHalt => some .curtainHalt
  | .lightsGo _ => some .lightsGo
  | .houseFull => some .houseFull
  | .fireAck => some .fireAck
  | .fireSilence => some .fireSilence
  | .none => none

/-- The refusal indication is set or replaced (R188). -/
def Dsu.refuse (now : Nat) (d : Dsu) : Dsu := { d with refusedUntil := some (now + 1000) }

/-- A half-period of the flash clock (R189). -/
def Dsu.flash (d : Dsu) : Dsu := { d with flashLit := !d.flashLit, flashDue := d.flashDue + 500 }

end Sys2Proof.Machine
end

