-- ==== Sys2Proof/Machine/PerformanceUnit.lean ====
section
/-!
DEFINITION. PFU's named operations: the anchor clocks, the changes of the performance record, the validation and byte
layout of plans, the due times of steps and the step status table (chapters 1 and 2, R201).
-/

namespace Sys2Proof.Machine

/-! ## Anchor clocks (R3) -/

def Clocks.get (c : Clocks) : ClockId → AnchorClock
  | .houseOpen => c.houseOpen
  | .act1 => c.act1 | .act2 => c.act2 | .act3 => c.act3 | .act4 => c.act4
  | .interval1 => c.interval1 | .interval2 => c.interval2 | .interval3 => c.interval3
  | .closed => c.closed

def Clocks.set (c : Clocks) (i : ClockId) (k : AnchorClock) : Clocks :=
  match i with
  | .houseOpen => { c with houseOpen := k }
  | .act1 => { c with act1 := k }
  | .act2 => { c with act2 := k }
  | .act3 => { c with act3 := k }
  | .act4 => { c with act4 := k }
  | .interval1 => { c with interval1 := k }
  | .interval2 => { c with interval2 := k }
  | .interval3 => { c with interval3 := k }
  | .closed => { c with closed := k }

def Clocks.map (f : AnchorClock → AnchorClock) (c : Clocks) : Clocks :=
  ⟨f c.houseOpen, f c.act1, f c.act2, f c.act3, f c.act4, f c.interval1, f c.interval2, f c.interval3, f c.closed⟩

/-- The clock of act n, 1 to 4. -/
def actClock : Nat → ClockId
  | 1 => .act1
  | 2 => .act2
  | 3 => .act3
  | _ => .act4

/-- The clock of interval n, 1 to 3. -/
def intervalClock : Nat → ClockId
  | 1 => .interval1
  | 2 => .interval2
  | _ => .interval3

/-- Start: a phase instance begins, with value 0. -/
def AnchorClock.start : AnchorClock := { run := .running, value := 0 }

/-- Pause, on entry to STOPPED. -/
def AnchorClock.pause (k : AnchorClock) : AnchorClock := if k.run = .running then { k with run := .paused } else k

/-- Continue: a PAUSED clock runs again from its value. -/
def AnchorClock.continue (k : AnchorClock) : AnchorClock := if k.run = .paused then { k with run := .running } else k

/-- End: the phase instance ends and the value is kept. -/
def AnchorClock.finish (k : AnchorClock) : AnchorClock := { k with run := .ended }

/-- End of a clock that is RUNNING or PAUSED (R15). -/
def AnchorClock.finishActive (k : AnchorClock) : AnchorClock :=
  if k.run = .running ∨ k.run = .paused then k.finish else k

/-- A RUNNING clock advances by real time, and holds at 86,400,000 ms (TABLE X). -/
def AnchorClock.tick (k : AnchorClock) : AnchorClock :=
  if k.run = .running then { k with value := min 86400000 (k.value + 1) } else k

def Clocks.start (i : ClockId) (c : Clocks) : Clocks := c.set i .start
def Clocks.continue (i : ClockId) (c : Clocks) : Clocks := c.set i (c.get i).continue
def Clocks.finish (i : ClockId) (c : Clocks) : Clocks := c.set i (c.get i).finish

/-! ## The performance record -/

/-- The phase instance that a phase belongs to, where it has an anchor clock of its own. -/
def Perf.instanceClock (p : Perf) : Option ClockId :=
  match p.phase with
  | .houseOpen => some .houseOpen
  | .running => some (actClock p.act)
  | .interval => some (intervalClock p.intervalNo)
  | .closed => some .closed
  | .dark | .prepare | .resuming | .stopped | .evacuate => none

/-- The instance a show stop has suspended (1.2.2): that of the resume phase, RESUMING meaning the stopped act. -/
def Perf.suspendedClock (p : Perf) : Option ClockId :=
  match p.resume with
  | some .houseOpen => some .houseOpen
  | some .interval => some (intervalClock p.intervalNo)
  | some .resuming => some (actClock p.act)
  | none => none

/-- The five public phases (1.2.1). -/
def publicPhase : Phase → Bool
  | .houseOpen | .running | .interval | .resuming | .stopped => true
  | .dark | .prepare | .evacuate | .closed => false

/-- The record of an accepted ARM (R6). -/
def Perf.arm (letter : PlanLetter) (acts now : Nat) (p : Perf) : Perf :=
  { p with plan := some letter, phase := .prepare, act := 0, acts, intervalNo := 0, intervalLen := 0, proven := false,
           stopCause := .none, resume := none, stops := 0, clocks := .fresh, entry := now }

/-- OPEN-HOUSE (R7). -/
def Perf.openHouse (now : Nat) (p : Perf) : Perf :=
  { p with phase := .houseOpen, clocks := p.clocks.start .houseOpen, entry := now }

/-- BEGIN (R8): the table of its moves. -/
def Perf.begin (now : Nat) (p : Perf) : Perf :=
  match p.phase with
  | .houseOpen =>
    { p with phase := .running, act := 1, clocks := (p.clocks.finish .houseOpen).start .act1, entry := now }
  | .interval =>
    { p with phase := .running, act := p.intervalNo + 1,
             clocks := (p.clocks.finish (intervalClock p.intervalNo)).start (actClock (p.intervalNo + 1)), entry := now }
  | .resuming =>
    { p with phase := .running, clocks := p.clocks.continue (actClock p.act), entry := now }
  | .dark | .prepare | .running | .stopped | .evacuate | .closed => p

/-- The header's length of interval n (TABLE XVII). -/
def headerInterval (h : PlanHeader) : Nat → Nat
  | 1 => h.interval1
  | 2 => h.interval2
  | _ => h.interval3

/-- INTERVAL (R9), with the header's length for the interval. -/
def Perf.interval (length now : Nat) (p : Perf) : Perf :=
  { p with phase := .interval, intervalNo := p.act, intervalLen := length,
           clocks := (p.clocks.finish (actClock p.act)).start (intervalClock p.act), entry := now }

/-- END (R10), from the last act or from STOPPED. -/
def Perf.endShow (now : Nat) (p : Perf) : Perf :=
  let clocks :=
    match p.phase, p.suspendedClock with
    | .stopped, some c => p.clocks.finish c
    | .stopped, none => p.clocks
    | _, _ => p.clocks.finish (actClock p.act)
  { p with phase := .closed, stopCause := .none, resume := none, clocks := clocks.start .closed, entry := now }

/-- The stop cause a source gives (R11). -/
def Source.stopCause : Source → StopCause
  | .link => .link
  | .desk => .desk
  | .safety => .curtain
  | .plan => .none

/-- SHOW-STOP (R11). -/
def Perf.showStop (src : Source) (now : Nat) (p : Perf) : Perf :=
  { p with phase := .stopped,
           resume := some (match p.phase with | .houseOpen => .houseOpen | .interval => .interval | _ => .resuming),
           stopCause := Source.stopCause src, stops := saturate 15 p.stops, clocks := p.clocks.map .pause, entry := now }

/-- RESUME (R13). -/
def Perf.doResume (now : Nat) (p : Perf) : Perf :=
  let q := { p with resume := none, stopCause := .none, entry := now }
  match p.resume with
  | some .houseOpen => { q with phase := .houseOpen, clocks := p.clocks.continue .houseOpen }
  | some .interval => { q with phase := .interval, clocks := p.clocks.continue (intervalClock p.intervalNo) }
  | some .resuming | none => { q with phase := .resuming }

/-- EVACUATE (R15). -/
def Perf.evacuate (now : Nat) (p : Perf) : Perf :=
  { p with phase := .evacuate, resume := none, stopCause := .none, clocks := p.clocks.map .finishActive, entry := now }

/-- CLOSE (R17). -/
def Perf.close (now : Nat) (p : Perf) : Perf :=
  { p with phase := .closed, clocks := p.clocks.start .closed, entry := now }

/-- DISARM (R18). -/
def Perf.disarm (now : Nat) (p : Perf) : Perf :=
  { p with plan := none, acts := 0, proven := false, phase := .dark, entry := now,
           clocks := if p.clocks.closed.run = .running then p.clocks.finish .closed else p.clocks }

/-- The remaining time of the interval in hand, in s: the length less the clock in whole seconds, never below 0 (R43). -/
def Perf.remaining (p : Perf) : Nat := p.intervalLen - (p.clocks.get (intervalClock p.intervalNo)).value / 1000

/-! ## Plan headers (R27) -/

def HeaderField.all : List HeaderField :=
  [.name, .acts, .interval1, .interval2, .interval3, .prepare, .houseOpen, .running, .interval, .closed]

/-- An interval n below the acts has 60 to 3600 s, any other 0. -/
def intervalOk (acts n length : Nat) : Bool :=
  if n < acts then 60 ≤ length && length ≤ 3600 else length == 0

def presetOk (e : MapEntry) : Bool := e.preset ≤ 15 || e.preset == 255

/-- TABLE XVII: the rule of validity of each field. Fade times are clamped, not refused. -/
def headerFieldOk (h : PlanHeader) : HeaderField → Bool
  | .name => h.name.length == 12 && h.name.all fun c => 32 ≤ c && c ≤ 126
  | .acts => 1 ≤ h.acts && h.acts ≤ 4
  | .interval1 => intervalOk h.acts 1 h.interval1
  | .interval2 => intervalOk h.acts 2 h.interval2
  | .interval3 => intervalOk h.acts 3 h.interval3
  | .prepare => presetOk h.prepare
  | .houseOpen => presetOk h.houseOpen
  | .running => presetOk h.running
  | .interval => presetOk h.interval
  | .closed => presetOk h.closed

/-- The first failing field in the order of the table (R27). -/
def headerFirstBad (h : PlanHeader) : Option HeaderField := HeaderField.all.find? fun f => !headerFieldOk h f

def clampEntry (e : MapEntry) : MapEntry := { e with fade := min 6000 e.fade }

/-- The header as stored: fade times clamped at 6000 (R27). -/
def headerStored (h : PlanHeader) : PlanHeader :=
  { h with prepare := clampEntry h.prepare, houseOpen := clampEntry h.houseOpen, running := clampEntry h.running,
           interval := clampEntry h.interval, closed := clampEntry h.closed }

/-- The lighting-map entry of a phase: RESUMING, STOPPED, EVACUATE and DARK have none (R28). -/
def headerMap (h : PlanHeader) : Phase → Option MapEntry
  | .prepare => some h.prepare
  | .houseOpen => some h.houseOpen
  | .running => some h.running
  | .interval => some h.interval
  | .closed => some h.closed
  | .dark | .resuming | .stopped | .evacuate => none

/-! ## Step records (R30, R31) -/

/-- TABLE LXX, Anchor. -/
def anchorOf : Nat → Option Anchor
  | 0 => some ⟨.houseOpen, false⟩
  | 1 => some ⟨.act1, false⟩
  | 2 => some ⟨.act2, false⟩
  | 3 => some ⟨.act3, false⟩
  | 4 => some ⟨.act4, false⟩
  | 5 => some ⟨.interval1, false⟩
  | 6 => some ⟨.interval2, false⟩
  | 7 => some ⟨.interval3, false⟩
  | 8 => some ⟨.interval1, true⟩
  | 9 => some ⟨.interval2, true⟩
  | 10 => some ⟨.interval3, true⟩
  | 11 => some ⟨.closed, false⟩
  | _ => none

/-- The anchor names an act or an interval that a plan of so many acts has (R31). -/
def anchorInPlan (acts : Nat) (a : Anchor) : Bool :=
  match a.clock with
  | .houseOpen | .closed => true
  | .act1 => 1 ≤ acts
  | .act2 => 2 ≤ acts
  | .act3 => 3 ≤ acts
  | .act4 => 4 ≤ acts
  | .interval1 => 1 < acts
  | .interval2 => 2 < acts
  | .interval3 => 3 < acts

/-- The offset's range and sign suit the anchor (TABLE XVIII, R31). -/
def offsetOk (a : Anchor) (offset : Int) : Bool :=
  if a.atEnd then -3600 ≤ offset && offset ≤ 0 else 0 ≤ offset && offset ≤ 3600

/-- TABLE LXX, Action, with the argument ranges of TABLE XVIII; a fade time is clamped. -/
def actionOf (r : StepRecord) : Option StepAction :=
  match r.action with
  | 0 => if r.argument ≤ 15 then some (.call r.argument) else none
  | 1 => if 1 ≤ r.argument ∧ r.argument ≤ 7 ∧ r.zones ≠ 0 then some (.bell r.argument r.zones) else none
  | 2 => if r.argument ≤ 15 then some (.lights r.argument (min 6000 r.fade)) else none
  | 3 => some .curtainLower
  | 4 => some .curtainRaise
  | 5 => some .curtainTest
  | 6 => if r.argument ≤ 255 then some (.note r.argument) else none
  | _ => none

/-- The validated step of a record in a plan of so many acts; none where the record fails R31. -/
def stepOf (acts : Nat) (r : StepRecord) : Option Step :=
  match anchorOf r.anchor, actionOf r with
  | some a, some act =>
    if anchorInPlan acts a && offsetOk a r.offset then some { anchor := a, offset := r.offset, action := act } else none
  | _, _ => none

/-- The record as stored: arguments that do not belong to its action are 0, a fade time is clamped (R30). -/
def recordStored (r : StepRecord) : StepRecord :=
  match r.action with
  | 0 => { r with zones := 0, fade := 0 }
  | 1 => { r with fade := 0 }
  | 2 => { r with zones := 0, fade := min 6000 r.fade }
  | 6 => { r with zones := 0, fade := 0 }
  | _ => { r with argument := 0, zones := 0, fade := 0 }

/-- The place in the list of the first record that fails R31. -/
def firstBadRecord (acts : Nat) (rs : List StepRecord) : Option Nat := rs.findIdx? fun r => (stepOf acts r).isNone

/-! ## Byte layout and check value (R26, R201) -/

/-- Two bytes, most significant first (11.7.1). -/
def twoBytes (n : Nat) : List Nat := [n / 256 % 256, n % 256]

def mapBytes (e : MapEntry) : List Nat := e.preset % 256 :: twoBytes e.fade

/-- The 34 bytes of a header (TABLE LXX). -/
def headerBytes (h : PlanHeader) : List Nat :=
  h.name ++ [h.acts % 256] ++ twoBytes h.interval1 ++ twoBytes h.interval2 ++ twoBytes h.interval3 ++
    mapBytes h.prepare ++ mapBytes h.houseOpen ++ mapBytes h.running ++ mapBytes h.interval ++ mapBytes h.closed

/-- The 8 bytes of a step record (TABLE LXX); the offset in two's complement. -/
def recordBytes (r : StepRecord) : List Nat :=
  [r.anchor % 256] ++ twoBytes (r.offset.emod 65536).toNat ++ [r.action % 256, r.argument % 256, r.zones.toNat] ++
    twoBytes r.fade

/-- The check value of a plan: the sum modulo 65536 of its header bytes and of the bytes of its steps (R26). -/
def planCheck (h : PlanHeader) (steps : List StepRecord) : Nat :=
  ((headerBytes h).sum + (steps.map fun r => (recordBytes r).sum).sum) % 65536

/-! ## Due times and the step status table (R37, R40, R41, R44) -/

/-- The due time of a step on its clock, in ms (R37). -/
def Perf.dueTime (p : Perf) (st : Step) : Int :=
  if st.anchor.atEnd then ((p.intervalLen : Int) + st.offset) * 1000 else st.offset * 1000

/-- The step's clock is RUNNING and its value is at least the due time (R37). -/
def Perf.reached (p : Perf) (st : Step) : Bool :=
  let k := p.clocks.get st.anchor.clock
  k.run = .running && p.dueTime st ≤ (k.value : Int)

/-- The step's clock is RUNNING and the due time lies no more than 60,000 ms ahead of its value (R44). -/
def Perf.near (p : Perf) (st : Step) : Bool :=
  let k := p.clocks.get st.anchor.clock
  k.run = .running && p.dueTime st ≤ (k.value : Int) + 60000

/-- The steps of the running copy. -/
def Pfu.steps (f : Pfu) : List Step :=
  match f.runningCopy with
  | some c => c.steps
  | none => []

/-- Step `i`, if it is PENDING in the table. -/
def Pfu.pendingStep (f : Pfu) (i : Nat) : Option Step :=
  if f.table[i]? = some .pending then f.steps[i]? else none

/-- Step `i` is due (R37). -/
def Pfu.isDue (f : Pfu) (i : Nat) : Bool :=
  match f.pendingStep i with
  | some st => f.perf.reached st
  | none => false

/-- The indices of the due steps, in list order. -/
def Pfu.dueSteps (f : Pfu) : List Nat := (List.range f.table.length).filter f.isDue

/-- The condition "step due within 60 s" (R44). -/
def Pfu.dueSoon (f : Pfu) : Bool :=
  (List.range f.table.length).any fun i =>
    match f.pendingStep i with
    | some st => f.perf.near st
    | none => false

/-- The condition is re-evaluated (R44). -/
def Pfu.refresh (f : Pfu) : Pfu := { f with stepDueSoon := f.dueSoon }

/-- The performance record changes. -/
def Pfu.setPerf (p : Perf) (f : Pfu) : Pfu := { f with perf := p }

/-- An entry of the table is set. -/
def Pfu.setEntry (i : Nat) (e : StepStatus) (f : Pfu) : Pfu := { f with table := f.table.set i e }

/-- Whether entry `i` is PENDING and its step meets a condition. -/
def Pfu.skips (f : Pfu) (cond : Step → Bool) (i : Nat) : Bool :=
  match f.pendingStep i with
  | some st => cond st
  | none => false

/-- PENDING entries whose step meets a condition become SKIPPED; the number of them (R41). -/
def Pfu.skip (cond : Step → Bool) (f : Pfu) : Pfu × Nat :=
  ( { f with table := f.table.mapIdx fun i e => if f.skips cond i then .skipped else e },
    ((List.range f.table.length).filter (f.skips cond)).length )

/-- One STEP notice for an event that skips one or more steps (R41). -/
def skipNote (n : Nat) (cause : SkipCause) : List NoticeBody := if n = 0 then [] else [.stepsSkipped n cause]

/-- An anchor instance ends (R41). -/
def Pfu.skipInstance (c : ClockId) (f : Pfu) : Pfu × List NoticeBody :=
  let r := f.skip fun st => st.anchor.clock = c
  (r.1, skipNote r.2 (.instanceEnded c))

/-- The entry to CLOSED: steps whose clock is NOT-STARTED (R41). -/
def Pfu.skipNeverReached (f : Pfu) : Pfu × List NoticeBody :=
  let r := f.skip fun st => (f.perf.clocks.get st.anchor.clock).run = .notStarted
  (r.1, skipNote r.2 .neverReached)

/-- The entry to EVACUATE: every PENDING entry (R41). -/
def Pfu.skipAll (f : Pfu) : Pfu × List NoticeBody :=
  ( { f with table := f.table.map fun e => if e = .pending then .skipped else e },
    skipNote (f.table.filter (· = .pending)).length .evacuated )

/-- The PHASE notice of a change of phase (R5). -/
def Perf.phaseNote (p : Perf) (cause : PhaseCause) (announcement : Option CallOutcome) : NoticeBody :=
  .phase p.phase p.act p.intervalNo cause p.stopCause p.stops announcement

/-- The interval in hand has run out and its notice has not been sent (R43). -/
def Pfu.expiryDue (f : Pfu) : Bool :=
  f.perf.phase = .interval && !f.expirySent &&
    f.perf.intervalLen * 1000 ≤ (f.perf.clocks.get (intervalClock f.perf.intervalNo)).value

/-- EXTEND accepted (R42): the length rises, clamped at 3600 s, and an expiry to come is armed again (R43). -/
def Pfu.extend (seconds : Nat) (f : Pfu) : Pfu :=
  let p := { f.perf with intervalLen := min 3600 (f.perf.intervalLen + seconds) }
  Pfu.refresh { f with perf := p, expirySent := f.expirySent && p.remaining == 0 }

end Sys2Proof.Machine
end

