-- ==== Sys2Proof/Machine/FireUnit.lean ====
section
/-!
DEFINITION. FDU's named operations: the slot arbiter, the judging of a slot, the evaluation of a reply, misses, the watch
list, the continuity runs (chapter 6); zone status, isolation, the walk test and the fire state record (chapter 7). Each
answers what FDU then holds, the notices it sends, and the device whose alarm it hands to the fire state machine.
-/

/-! ## The bytes of a loop reply (R111) -/

/-- What the four bytes of a reply total, modulo 256 (TABLE XLII, R112). -/
def Sys2Proof.ReplyBytes.total (b : Sys2Proof.ReplyBytes) : Nat := (b.typeCode + b.value + b.status + b.sum) % 256

/-- The meaning of the bytes received at an end (TABLE XLII): the type or the code that names none, the value and the
flags.
DESIGN CHOICE (log 64). -/
def Sys2Proof.Reception.reply (r : Sys2Proof.Reception) : Sys2Proof.LoopReply :=
  { type := match r.names with
      | some t => .known t
      | none => .other r.bytes.typeCode
    value := r.bytes.value, operated := r.operated, fault := r.fault, test := r.test }

namespace Sys2Proof.Machine

/-- What an operation of FDU brings about. -/
structure FduOut where
  fdu   : Fdu
  notes : List NoticeBody
  /-- The address handed to the fire state machine (R120). -/
  alarm : Option Nat
  deriving DecidableEq, Repr

def FduOut.of (f : Fdu) : FduOut := { fdu := f, notes := [], alarm := none }

/-- A further operation on top of one. -/
def FduOut.andThen (o : FduOut) (g : Fdu → FduOut) : FduOut :=
  let r := g o.fdu
  { fdu := r.fdu, notes := o.notes ++ r.notes, alarm := o.alarm.or r.alarm }

/-! ## Device records and zones -/

/-- The device record of address `a`, 1 to 64. -/
def Fdu.device (a : Nat) (f : Fdu) : DeviceRecord := f.devices.getD (a - 1) (DeviceRecord.reset false)

/-- The device record of address `a` is changed. -/
def Fdu.modifyDevice (a : Nat) (g : DeviceRecord → DeviceRecord) (f : Fdu) : Fdu :=
  { f with devices := f.devices.modify (a - 1) g }

/-- The addresses of the loop. -/
def addresses : List Nat := (List.range 64).map (· + 1)

/-- The fire zones. -/
def fireZones : List Nat := (List.range 16).map (· + 1)

/-- The isolation expiry of zone `z`, 1 to 16. -/
def Fdu.expiry (z : Nat) (f : Fdu) : Option Nat := f.isolation.getD (z - 1) none

/-- Zone `z` is isolated (R130). -/
def Fdu.isolated (z : Nat) (f : Fdu) : Bool := (f.expiry z).isSome

/-- The number of zones isolated. -/
def Fdu.isolatedCount (f : Fdu) : Nat := (f.isolation.filter (·.isSome)).length

/-- Zone `z` is under walk test (R146). -/
def Fdu.underWalk (z : Nat) (f : Fdu) : Bool :=
  match f.fire.walk with
  | some w => w.zone = z
  | none => false

/-- The derived status of zone `z` (R131). -/
def Fdu.derive (c : Settings) (z : Nat) (f : Fdu) : ZoneStatus :=
  let has (p : DeviceState → Bool) : Bool := addresses.any fun a => (c.device a).zone = z && p (f.device a).state
  if has (· = .alarm) then .alarm
  else if has (· = .preAlarm) then .preAlarm
  else if has (fun s => s = .fault || s = .missing) then .fault
  else if f.isolated z then .isolated
  else .normal

/-- The status of zone `z` as last derived. -/
def Fdu.zoneStatus (z : Nat) (f : Fdu) : ZoneStatus := f.status.getD (z - 1) .normal

/-- Every zone's status is rederived; a ZONE notice for each that changes (R131).
DESIGN CHOICE: the notices of several zones come in rising zone number (log 69). -/
def Fdu.rederive (c : Settings) (f : Fdu) : FduOut :=
  { fdu := { f with status := fireZones.map fun z => f.derive c z },
    notes := (fireZones.filter fun z => f.derive c z ≠ f.zoneStatus z).map fun z =>
      .zone z (c.zone z).cls (f.zoneStatus z) (f.derive c z) (f.expiry z),
    alarm := none }

/-! ## The watch list (R121, R122) -/

/-- A device qualifies for the watch list. -/
def DeviceRecord.qualifies (d : DeviceRecord) : Bool := d.state = .preAlarm || (d.state = .normal && 0 < d.confirm)

/-- The entry before `a` in a list. -/
def entryBefore (a : Nat) : List Nat → Option Nat
  | [] => none
  | [_] => none
  | x :: y :: rest => if y = a then some x else entryBefore a (y :: rest)

/-- The entries after `a` in a list. -/
def entriesAfter (a : Nat) : List Nat → List Nat
  | [] => []
  | x :: rest => if x = a then rest else entriesAfter a rest

/-- `a` leaves the watch list; a pointer that names it passes to the entry before it (R122). -/
def Fdu.unwatch (a : Nat) (f : Fdu) : Fdu :=
  { f with watch := f.watch.erase a, watchPtr := if f.watchPtr = some a then entryBefore a f.watch else f.watchPtr }

/-- `a` joins or leaves the watch list as its record gives (R121).
DEDUCED: offered at the end of every evaluation (log 26). -/
def Fdu.offerWatch (a : Nat) (f : Fdu) : Fdu :=
  if (f.device a).qualifies then
    if f.watch.contains a = false ∧ f.watch.length < 8 then { f with watch := f.watch ++ [a] } else f
  else if f.watch.contains a then f.unwatch a
  else f

/-- The entry a watch poll goes to (R122). A device that the scan list does not name is not polled (R114).
DESIGN CHOICE: it keeps its place on the watch list and is passed over (log 49). -/
def Fdu.nextWatch (c : Settings) (f : Fdu) : Option Nat :=
  let after := match f.watchPtr with
    | some a => entriesAfter a f.watch
    | none => []
  (after ++ f.watch).find? fun a => c.scanList.contains a

/-! ## Changes of a device's state -/

/-- The confirm, clear and recovery counts at 0. -/
def DeviceRecord.clearRuns (d : DeviceRecord) : DeviceRecord := { d with confirm := 0, clear := 0, recovery := 0 }

/-- All counts at 0.
DEDUCED (log 28). -/
def DeviceRecord.clearCounts (d : DeviceRecord) : DeviceRecord :=
  { d with confirm := 0, clear := 0, recovery := 0, miss := 0 }

/-- The DEVICE notice of a change of state (R127). -/
def deviceNote (c : Settings) (a : Nat) (left : DeviceState) (d : DeviceRecord) (cause : DeviceCause) : NoticeBody :=
  .device a (c.device a).zone (c.device a).type left d.state d.value d.operated d.fault d.test cause

/-- A device's record changes: the DEVICE notice where its state changes, its place on the watch list, and its zone's status
(R121, R127, R131). -/
def Fdu.change (c : Settings) (a : Nat) (cause : DeviceCause) (g : DeviceRecord → DeviceRecord) (f : Fdu) : FduOut :=
  let left := (f.device a).state
  let f' := (f.modifyDevice a g).offerWatch a
  let d := f'.device a
  let o := f'.rederive c
  { o with notes := (if d.state = left then [] else [deviceNote c a left d cause]) ++ o.notes }

/-! ## Slots (R113, R114) -/

/-- The scan-list place of the next scan poll: the first at or after the pointer whose device is enabled (R114). -/
def Fdu.nextScan (c : Settings) (f : Fdu) : Option Nat :=
  let n := c.scanList.length
  ((List.range n).map fun k => (f.scanPtr + k) % n).find? fun i => (c.device (c.scanList.getD i 0)).enabled

/-- The lowest address whose retry is pending. A device that the scan list does not name is not polled (R114).
DESIGN CHOICE: its retry stays pending (log 49), and of several the lowest address takes the slot (log 54). -/
def Fdu.retryWaiting (c : Settings) (f : Fdu) : Option Nat :=
  addresses.find? fun a => (f.device a).retry && c.scanList.contains a

/-- The LED command of a poll (R124).
DESIGN CHOICE: a walk indication lights the LED in every state (log 55). -/
def DeviceRecord.ledCommand (d : DeviceRecord) : Bool := d.state = .alarm || d.walk.isSome

/-- A device poll is sent in the slot that begins.
DESIGN CHOICE: a retry is no longer pending once it is sent (log 65). -/
def Fdu.send (kind : PollKind) (a : Nat) (f : Fdu) : Fdu :=
  let f' := f.modifyDevice a fun d => { d with led := d.ledCommand, retry := if kind = .retry then false else d.retry }
  { f' with poll := some { kind, address := a, started := f.slotDue } }

/-- A scan poll is sent, if any address waits for one: it raises the interleave count and moves the pointer. -/
def Fdu.sendScan (c : Settings) (f : Fdu) : Fdu :=
  match f.nextScan c with
  | some i =>
    let f' := f.send .scan (c.scanList.getD i 0)
    { f' with interleave := f.interleave + 1, scanPtr := (i + 1) % c.scanList.length }
  | none => f

/-- A watch poll is sent, and the pointer names its entry. -/
def Fdu.sendWatch (a : Nat) (f : Fdu) : Fdu := { f.send .watch a with watchPtr := some a }

/-- The slot arbiter assigns the slot that begins (R113); the next begins 25 ms later. -/
def Fdu.startSlot (c : Settings) (f : Fdu) : Fdu :=
  let sent :=
    match f.retryWaiting c with
    | some a => f.send .retry a
    | none =>
      if f.contDue then
        { f with contDue := false, poll := some { kind := .continuity, address := 0, started := f.slotDue } }
      else if f.interleave = 3 then
        let f' := { f with interleave := 0 }
        match f'.nextWatch c with
        | some a => f'.sendWatch a
        | none => f'.sendScan c
      else f.sendScan c
  { sent with slotDue := f.slotDue + 25 }

/-! ## Judging a slot (R112) -/

/-- How a device poll is judged. -/
inductive Judgement where
  | good (reply : LoopReply)
  | noReply
  | error
  deriving DecidableEq, Repr

/-- The moment, in µs, at which a good reply completed at one end: its first byte began within 8 ms, all four were complete
within 20 ms with no byte after, and the four total 0 modulo 256 (R112). -/
def goodAt (r : Reception) : Option Nat :=
  match r.firstByte, r.complete with
  | some t, some e => if t ≤ 8000 ∧ e ≤ 20000 ∧ r.lateByte = false ∧ r.bytes.total = 0 then some e else none
  | _, _ => none

/-- A byte was received at an end. -/
def heard (r : Reception) : Bool := r.firstByte.isSome || r.complete.isSome || r.lateByte

/-- The judgement of a slot by the ends FDU listens at. -/
def judgeSlot (mode : LoopMode) (a b : Reception) : Judgement :=
  match mode with
  | .oneEnd => if (goodAt a).isSome then .good a.reply else if heard a then .error else .noReply
  | .twoEnd =>
    match goodAt a, goodAt b with
    | some ta, some tb => if ta ≤ tb then .good a.reply else .good b.reply
    | some _, none => .good a.reply
    | none, some _ => .good b.reply
    | none, none => if heard a || heard b then .error else .noReply

/-! ## Misses (R115) -/

/-- The DEVICE notice with the marker NOT-ANSWERING (R115, R127). -/
def notAnsweringNote (c : Settings) (a : Nat) (d : DeviceRecord) : NoticeBody :=
  .deviceMarker a
    (.notAnswering (c.device a).zone (c.device a).type d.state d.state d.value d.operated d.fault d.test)

/-- A miss of a device's poll. -/
def Fdu.miss (c : Settings) (kind : PollKind) (a : Nat) (f : Fdu) : FduOut :=
  let d := f.device a
  let third := d.miss = 2
  let o :=
    if third ∧ d.state ≠ .alarm ∧ d.state ≠ .missing then
      f.change c a .threeMisses fun d => { d.clearRuns with state := .missing, miss := 3 }
    else
      { fdu := f.modifyDevice a fun d => { d with miss := min 3 (d.miss + 1) },
        notes := if third ∧ d.state = .alarm then [notAnsweringNote c a d] else [], alarm := none }
  if kind ≠ .retry ∧ (o.fdu.device a).state ≠ .missing then
    { o with fdu := o.fdu.modifyDevice a fun d => { d with retry := true } }
  else o

/-! ## Evaluation of a good reply (R116 to R119) -/

/-- The types judged by their value. -/
def valueJudged : DeviceType → Bool
  | .smoke | .heat | .beam => true
  | .callpoint | .input => false

/-- The types whose judging an isolation suspends (R123). -/
def isolable : DeviceType → Bool
  | .smoke | .beam => true
  | .heat | .callpoint | .input => false

/-- The confirming number (TABLE XLIV). -/
def confirmingNumber : DeviceType → Nat
  | .smoke | .beam => 3
  | .heat | .callpoint | .input => 2

/-- The alarm condition of one reply (TABLE XLIV). -/
def alarmCondition (e : DeviceConfig) (r : LoopReply) : Bool :=
  if valueJudged e.type then e.alarm ≤ r.value else r.operated

/-- Step 9 of R116: PRE-ALARM is entered or left (R119). -/
def Fdu.preAlarmStep (c : Settings) (a : Nat) (f : Fdu) : FduOut :=
  let e := c.device a
  let d := f.device a
  if valueJudged e.type = false then FduOut.of f
  else if d.state = .normal then
    if e.preAlarm ≤ d.value then f.change c a .thresholdUp fun d => { d with state := .preAlarm, clear := 0 }
    else FduOut.of f
  else if d.state = .preAlarm then
    if e.preAlarm ≤ d.value then FduOut.of (f.modifyDevice a fun d => { d with clear := 0 })
    else if d.clear = 0 then FduOut.of (f.modifyDevice a fun d => { d with clear := 1 })
    else f.change c a .thresholdDown fun d => { d with state := .normal, clear := 0, confirm := 0 }
  else FduOut.of f

/-- A confirmation is handed to the walk test (R123, R147): the device returns to NORMAL without a DEVICE notice. -/
def Fdu.walkConfirm (c : Settings) (now a : Nat) (f : Fdu) : FduOut :=
  let e := c.device a
  let f' := (f.modifyDevice a fun d => { d.clearCounts with state := .normal, walk := some (now + 5000) }).offerWatch a
  let o := f'.rederive c
  let walk := f.fire.walk.map fun w => { w with count := saturate 255 w.count }
  { fdu := { o.fdu with fire := { o.fdu.fire with walk } },
    notes := .walkConfirmed a e.type (confirmingNumber e.type) (f.device a).value :: o.notes, alarm := none }

/-- A device enters ALARM (R120). -/
def Fdu.enterAlarm (c : Settings) (a : Nat) (f : Fdu) : FduOut :=
  let o := f.change c a (.confirmation (confirmingNumber (c.device a).type)) fun d => { d.clearRuns with state := .alarm }
  { o with alarm := some a }

/-- Steps 5 to 9 of R116. -/
def Fdu.fromTestStep (c : Settings) (now a : Nat) (r : LoopReply) (f : Fdu) : FduOut :=
  let e := c.device a
  if r.test then FduOut.of f
  else if f.isolated e.zone ∧ isolable e.type then FduOut.of f
  else
    let confirm := if alarmCondition e r then (f.device a).confirm + 1 else 0
    let f := f.modifyDevice a fun d => { d with confirm }
    if confirm = confirmingNumber e.type then
      if f.underWalk e.zone then f.walkConfirm c now a else f.enterAlarm c a
    else if r.fault then f.change c a .deviceFault fun d => { d.clearRuns with state := .fault }
    else f.preAlarmStep c a

/-- Step 4 of R116 in FAULT: recovery (R117). -/
def Fdu.recoveryStep (c : Settings) (now a : Nat) (r : LoopReply) (f : Fdu) : FduOut :=
  if r.fault || r.test then FduOut.of (f.modifyDevice a fun d => { d with recovery := 0 })
  else if (f.device a).recovery = 0 then FduOut.of (f.modifyDevice a fun d => { d with recovery := 1 })
  else
    (f.change c a .recovered fun d => { d.clearCounts with state := .normal }).andThen (Fdu.fromTestStep c now a r)

/-- The type step in a mismatch, or with the latch set (R117). -/
def Fdu.mismatchStep (c : Settings) (a : Nat) (r : LoopReply) (f : Fdu) : FduOut :=
  if r.type = .known (c.device a).type then FduOut.of f
  else if (f.device a).state = .alarm then FduOut.of (f.modifyDevice a fun d => { d with mismatch := true })
  else f.change c a (.typeMismatch r.type) fun d => { d.clearRuns with state := .fault, mismatch := true }

/-- Steps 1 to 9 of R116. -/
def Fdu.evaluateSteps (c : Settings) (now a : Nat) (r : LoopReply) (f : Fdu) : FduOut :=
  let f := f.modifyDevice a fun d => { d with value := r.value, operated := r.operated, fault := r.fault, test := r.test }
  let d := f.device a
  if d.mismatch ∨ r.type ≠ .known (c.device a).type then f.mismatchStep c a r
  else
    match d.state with
    | .alarm => FduOut.of f
    | .fault => f.recoveryStep c now a r
    | .normal | .preAlarm | .missing | .disabled => f.fromTestStep c now a r

/-- A good reply (R115, R116): the miss count returns to 0, a MISSING device returns to NORMAL first, and the evaluation
ends with the watch list (R121). -/
def Fdu.goodReply (c : Settings) (now a : Nat) (r : LoopReply) (f : Fdu) : FduOut :=
  let f := f.modifyDevice a fun d => { d with miss := 0, retry := false }
  let o :=
    if (f.device a).state = .missing then f.change c a .firstReply fun d => { d.clearCounts with state := .normal }
    else FduOut.of f
  (o.andThen (Fdu.evaluateSteps c now a r)).andThen fun f => FduOut.of (f.offerWatch a)

/-- The end of a device poll's slot: the poll is judged, and evaluated or missed. A device disabled meanwhile is not
judged.
DEDUCED (log 25).
DESIGN CHOICE: a poll whose device a new scan list has dropped meanwhile (R114) is judged all the same, and one whose device has
taken a new entry by that entry (log 73). -/
def Fdu.endSlot (c : Settings) (now : Nat) (p : Poll) (ra rb : Reception) (f : Fdu) : FduOut :=
  let f := { f with poll := none }
  if (f.device p.address).state = .disabled then FduOut.of f
  else
    match judgeSlot f.mode ra rb with
    | .good r => f.goodReply c now p.address r
    | .noReply => f.miss c p.kind p.address
    | .error => (f.modifyDevice p.address fun d => { d with errors := saturate 255 d.errors }).miss c p.kind p.address

/-! ## Continuity (R125, R126) -/

/-- The outcome of a continuity test. -/
def Fdu.continuity (passed : Bool) (f : Fdu) : FduOut :=
  let f :=
    { f with
      poll := none, passRun := if passed then min 2 (f.passRun + 1) else 0, failRun := if passed then 0 else min 2 (f.failRun + 1) }
  match f.mode with
  | .oneEnd =>
    if f.failRun = 2 then
      { fdu := { f with mode := .twoEnd, loopBroken := true }, notes := [.deviceMarker 0 .loopBroken], alarm := none }
    else FduOut.of f
  | .twoEnd =>
    if f.passRun = 2 then
      { fdu := { f with mode := .oneEnd, loopBroken := false }, notes := [.deviceMarker 0 .loopRestored], alarm := none }
    else FduOut.of f

/-! ## Isolation, configuration and the return to NORMAL (R109, R120, R123, R132, R133) -/

/-- An operation over the addresses one after another. -/
def Fdu.eachDevice (g : Nat → Fdu → FduOut) (as : List Nat) (f : Fdu) : FduOut :=
  as.foldl (fun o a => o.andThen (g a)) (FduOut.of f)

/-- Zone `z`'s expiry is set or made absent, and its status rederived. -/
def Fdu.setExpiry (c : Settings) (z : Nat) (t : Option Nat) (f : Fdu) : FduOut :=
  Fdu.rederive c { f with isolation := f.isolation.set (z - 1) t }

/-- The start of an isolation (R123): a SMOKE or BEAM device of the zone in PRE-ALARM returns to NORMAL, and one counting
toward alarm has its confirm count set to 0; both leave the watch list. -/
def Fdu.quieten (c : Settings) (z a : Nat) (f : Fdu) : FduOut :=
  let d := f.device a
  if (c.device a).zone = z ∧ isolable (c.device a).type then
    if d.state = .preAlarm then f.change c a .isolation fun d => { d.clearCounts with state := .normal }
    else if d.state = .normal ∧ 0 < d.confirm then f.change c a .isolation fun d => { d with confirm := 0 }
    else FduOut.of f
  else FduOut.of f

/-- ZONE-ISOLATE accepted (R132): the expiry is set; where the zone was not isolated its devices are then treated as at the
start of an isolation, and its status is rederived.
DESIGN CHOICE: the devices are treated in rising address, so their notices come in that order (log 68). -/
def Fdu.isolate (c : Settings) (z expiry : Nat) (f : Fdu) : FduOut :=
  let f' := { f with isolation := f.isolation.set (z - 1) (some expiry) }
  if f.isolated z then FduOut.of f' else (Fdu.eachDevice (Fdu.quieten c z) addresses f').andThen (Fdu.rederive c)

/-- Every isolation ends (R133). -/
def Fdu.endIsolations (c : Settings) (f : Fdu) : FduOut := Fdu.rederive c { f with isolation := List.replicate 16 none }

/-- A device reads clear (R110). -/
def DeviceRecord.readsClear (e : DeviceConfig) (d : DeviceRecord) : Bool :=
  !d.operated && (!valueJudged e.type || decide (d.value < e.preAlarm))

/-- Every device in ALARM reads clear (R139, R144). -/
def Fdu.allClear (c : Settings) (f : Fdu) : Bool :=
  addresses.all fun a => (f.device a).state ≠ .alarm || (f.device a).readsClear (c.device a)

/-- A device in ALARM is ordered to return (R120). -/
def Fdu.orderReturn (c : Settings) (a : Nat) (f : Fdu) : FduOut :=
  if (f.device a).state = .alarm then
    f.change c a .resetOrder fun d => { d.clearCounts with state := if d.mismatch then .fault else .normal }
  else FduOut.of f

/-- An accepted CONFIG-SET of a device's entry starts its record afresh (R109). `c` is the configuration after it.
DESIGN CHOICE: what the reconfiguration does not name stands (log 27). -/
def Fdu.reconfigure (c : Settings) (a : Nat) (f : Fdu) : FduOut :=
  let on := (c.device a).enabled
  (f.unwatch a).change c a .configured fun d =>
    { d.clearCounts with state := if on then .normal else .disabled, mismatch := false, retry := on && d.retry }

/-! ## The fire state record (R134 to R147) -/

/-- The fire state record is replaced. -/
def Fdu.setFire (r : FireRecord) (f : Fdu) : Fdu := { f with fire := r }

/-- The public phases and the three tests of R135 decide the state entered from QUIET. -/
def alertFirst (c : Settings) (phase : Phase) (a : Nat) : Bool :=
  let e := c.device a
  (e.type = .smoke || e.type = .beam || e.type = .input) && (c.zone e.zone).delay && publicPhase phase

/-- The first alarm as recorded (TABLE XLVIII). -/
def firstAlarm (c : Settings) (now a : Nat) : FirstAlarm :=
  { address := a, type := (c.device a).type, zone := (c.device a).zone, time := now }

/-- The FIRE notice of a change of the record (R134). -/
def FireRecord.note (left : FireState) (cancelled : CancelOutcome) (call : CallOutcome) (r : FireRecord) : NoticeBody :=
  .fire left r.state r.silenced r.first r.count (if r.state = .full then r.cause else none) r.timer cancelled call

/-- The record on an entry to FULL (R141). -/
def FireRecord.enterFull (now : Nat) (cause : FullCause) (r : FireRecord) : FireRecord :=
  { r with state := .full, silenced := false, cause := some cause, timer := none, entry := now, walk := none }

/-- The record on an accepted FIRE-RESET (R139, R144). -/
def FireRecord.quiet (now : Nat) (r : FireRecord) : FireRecord :=
  { r with state := .quiet, silenced := false, first := none, count := 0, cause := none, timer := none, entry := now,
           walk := none }

/-- The notice of a walk test that ends at a change of the fire state (R146). -/
def FireRecord.walkNote (entered : FireState) (r : FireRecord) : List NoticeBody :=
  match r.walk with
  | some w => [.walkEnded w.zone w.count (.fireState entered)]
  | none => []

/-- CLU reports entries removed: an id kept is made absent (R134). -/
def FireRecord.forget (removed : List Nat) (r : FireRecord) : FireRecord :=
  { r with staffCall := r.staffCall.filter fun i => !removed.contains i,
           evacCall := r.evacCall.filter fun i => !removed.contains i }

/-- The sounders are driven (R145). -/
def FireRecord.sounding (r : FireRecord) : Bool := r.state = .full && !r.silenced

/-- Uptime of expiry as milliseconds remaining. -/
def remainingTo (now : Nat) (t : Option Nat) : Option Nat := t.map (· - now)

/-- A change of a sounder circuit's channel (R145). -/
def Fdu.sounderChannel (circuit : Nat) (s : LimitState) (f : Fdu) : FduOut :=
  if s = .normal then FduOut.of f
  else { fdu := { f with sounderFaults := f.sounderFaults.set (circuit - 1) true }, notes := [.sounderCircuit circuit s],
         alarm := none }

end Sys2Proof.Machine
end

