-- ==== Sys2Proof/Machine/InterlockUnit.lean ====
section
/-!
DEFINITION. ILU's named operations: the gate records, computed from the owners' demands and the forcing conditions
(R173 to R177).
-/

namespace Sys2Proof.Machine

/-- A gate record after its demand and its forcing set are as given (R173, R174): energised while demanded and not forced,
denied while demanded and forced. -/
def Gate.next (now : Nat) (demand : Bool) (forcing : List Forcing) (g : Gate) : Gate :=
  let line := demand && forcing.isEmpty
  { demand, forcing, line, denied := demand && !forcing.isEmpty, lastChange := if line = g.line then g.lastChange else now }

/-- What ILU observes (R175), and the demands of the owners of its six outputs. -/
structure IluView where
  now      : Nat
  phase    : Phase
  fireFull : Bool
  overload : Bool
  /-- The PLAYING entry is of class SHOW or HOUSE. -/
  showPlay : Bool
  hoist    : Bool
  release  : Bool
  relay    : Bool
  stalls   : Bool
  circle   : Bool
  gallery  : Bool
  deriving DecidableEq, Repr

/-- The conditions of a list that are in force, in the order of the list.
DESIGN CHOICE: a forcing set is listed in the order of TABLE LIX, and the order has no meaning (log 71). -/
def inForce (cs : List (Bool × Forcing)) : List Forcing := (cs.filter (·.1)).map (·.2)

/-- The forcing set of HOIST (TABLE LIX). -/
def IluView.hoistForcing (v : IluView) : List Forcing :=
  inForce [(v.fireFull, .fireFull), (v.phase = .stopped, .phaseStopped), (v.phase = .evacuate, .phaseEvacuate),
    (v.overload, .channel0High)]

/-- The forcing set of RELEASE and of the emergency-lighting relay (TABLE LIX). -/
def IluView.safeForcing (v : IluView) : List Forcing :=
  inForce [(v.fireFull, .fireFull), (v.phase = .evacuate, .phaseEvacuate)]

/-- The forcing set of the audience relays (TABLE LIX). -/
def IluView.audienceForcing (v : IluView) : List Forcing :=
  inForce [(v.phase = .running && v.showPlay, .showDuringRun)]

/-- Every gate record is recomputed (R174). -/
def Ilu.next (v : IluView) (g : Ilu) : Ilu :=
  { hoist := g.hoist.next v.now v.hoist v.hoistForcing,
    release := g.release.next v.now v.release v.safeForcing,
    relay := g.relay.next v.now v.relay v.safeForcing,
    stalls := g.stalls.next v.now v.stalls v.audienceForcing,
    circle := g.circle.next v.now v.circle v.audienceForcing,
    gallery := g.gallery.next v.now v.gallery v.audienceForcing }

/-- The audience zones whose relay is denied, as CLU takes them (R168). -/
def Ilu.deniedZones (g : Ilu) : ZoneSet :=
  (if g.stalls.denied then 0b00000100#8 else 0) ||| (if g.circle.denied then 0b00001000#8 else 0) |||
    (if g.gallery.denied then 0b00010000#8 else 0)

end Sys2Proof.Machine
end

