-- ==== Sys2Proof/Machine/LightingUnit.lean ====
section
/-!
DEFINITION. HLU's named operations: fades, their starts and evaluations, output levels and codes, and the relay drop
(chapter 5).
-/

namespace Sys2Proof.Machine

/-- The level of a fade at `e` ms after its start (R92). -/
def Fade.levelAt (f : Fade) (e : Nat) : Nat :=
  if e < f.duration then
    ((f.start : Int) + (((f.target : Int) - f.start) * e).tdiv f.duration).toNat
  else f.target

/-- A channel is given a start (R94): a snap, or a fade record that takes over from the active level. -/
def ChannelRun.start (now target time : Nat) (origin : FadeOrigin) (r : ChannelRun) : ChannelRun :=
  if time = 0 then { active := target, fade := none }
  else { r with fade := some { start := r.active, target, started := now, duration := time * 100, origin, evals := 0 } }

/-- The channels that `chosen` names are given a start, each to its own target (R94, TABLE XXXV). -/
def Hlu.start (now : Nat) (chosen : Nat → Bool) (target : Nat → Nat) (time : Nat) (origin : FadeOrigin) (h : Hlu) : Hlu :=
  { h with channels := h.channels.mapIdx fun i r => if chosen i then r.start now (target i) time origin else r }

/-- Every channel is given a start to one preset (R95). -/
def Hlu.go (now : Nat) (c : Settings) (preset time : Nat) (h : Hlu) : Hlu :=
  h.start now (fun _ => true) (c.presetLevel preset) time .go

/-- Every channel is given a start to full (R96, R98). -/
def Hlu.toFull (now time : Nat) (origin : FadeOrigin) (h : Hlu) : Hlu :=
  h.start now (fun _ => true) (fun _ => 1000) time origin

/-- The load of a lighting-map entry (R97): the channels whose hold flag is clear; 255 leaves the lights as they stand. -/
def Hlu.loadMap (now : Nat) (c : Settings) (entry : MapEntry) (h : Hlu) : Hlu :=
  if entry.preset = 255 then h
  else h.start now (fun i => !(c.channel i).hold) (c.presetLevel entry.preset) entry.fade .autoLoad

/-- The evaluation that a fade's grid gives next (R93): its elapsed time. -/
def Fade.nextEval (f : Fade) : Nat := 20 * (f.evals + 1)

/-- The next evaluation of a channel's fade is due (R93). -/
def ChannelRun.evalDue (now : Nat) (r : ChannelRun) : Bool :=
  match r.fade with
  | some f => f.started + f.nextEval ≤ now
  | none => false

/-- An evaluation of a fade (R92, R93): the level at its moment of the grid, and the end of the fade at T. -/
def ChannelRun.evaluate (r : ChannelRun) : ChannelRun :=
  match r.fade with
  | some f =>
    { active := f.levelAt f.nextEval,
      fade := if f.nextEval < f.duration then some { f with evals := f.evals + 1 } else none }
  | none => r

/-- Channel `i`. -/
def Hlu.channel (i : Nat) (h : Hlu) : ChannelRun := h.channels.getD i { active := 1000, fade := none }

/-- Channel `i`'s fade is evaluated. -/
def Hlu.evaluate (i : Nat) (h : Hlu) : Hlu := { h with channels := h.channels.modify i ChannelRun.evaluate }

/-- The relay drops by ILU's denial (R103): every fade is discarded, every active level is 1000, and the emergency demand
is asserted. -/
def Hlu.drop (h : Hlu) : Hlu :=
  { h with channels := h.channels.map fun _ => { active := 1000, fade := none }, emergencyDemand := true }

/-- The output level of a channel (R99). -/
def outputLevel (phase : Phase) (c : ChannelConfig) (active : Nat) : Nat :=
  if phase = .running ∧ c.cls = .aisle then max active c.floor else active

/-- The ceiling a trim sets (R100). -/
def trimCeiling (trim : Nat) : Nat := 1000 * (trim + 1) / 32

/-- The output code of an output level (R100). -/
def outputCode (c : ChannelConfig) (level : Nat) : Nat :=
  let s := level * trimCeiling c.trim / 1000
  match c.curve with
  | .linear => s * 4095 / 1000
  | .square => s * s * 4095 / 1000000

/-- The output levels of the twelve channels. -/
def Hlu.levels (phase : Phase) (c : Settings) (h : Hlu) : List Nat :=
  h.channels.mapIdx fun i r => outputLevel phase (c.channel i) r.active

/-- The output codes of the twelve channels. -/
def Hlu.codes (phase : Phase) (c : Settings) (h : Hlu) : List Nat :=
  h.channels.mapIdx fun i r => outputCode (c.channel i) (outputLevel phase (c.channel i) r.active)

/-- The reading of a fade in progress (R107). -/
def Fade.reading (now : Nat) (f : Fade) : FadeReading :=
  { origin := f.origin, target := f.target, elapsed := now - f.started, duration := f.duration }

end Sys2Proof.Machine
end

