-- ==== Sys2Proof/Machine/LineUnit.lean ====
section
/-!
DEFINITION. LMU's named operations: conversion, filtering and the limit states (R179 to R182).
-/

namespace Sys2Proof.Machine

/-- The side on which a filtered value lies (R180). -/
def limitSide (l : Limits) (value : Nat) : LimitState :=
  if value < l.low then .low else if l.high < value then .high else .normal

/-- A new code joins the last four conversions (R179). -/
def joinHeld (code : Nat) (held : List Nat) : List Nat :=
  if held.length < 4 then held ++ [code] else held.drop (held.length - 3) ++ [code]

/-- The filtered value of the conversions held, from the fourth on (R179). -/
def filteredOf (held : List Nat) : Option Nat := if held.length < 4 then none else some (held.sum / 4)

/-- A filtered value is judged (R180). -/
def LineChannel.judge (now : Nat) (side : LimitState) (c : LineChannel) : LineChannel :=
  if side = c.state then { c with candidate := none, run := 0 }
  else
    let run := if c.candidate = some side then c.run + 1 else 1
    if run = 3 then { c with state := side, candidate := none, run := 0, lastChange := now }
    else { c with candidate := some side, run }

/-- A conversion of a channel (R179, R180). -/
def LineChannel.convert (now : Nat) (l : Limits) (code : Nat) (c : LineChannel) : LineChannel :=
  let held := joinHeld code c.held
  match filteredOf held with
  | none => { c with held }
  | some v => LineChannel.judge now (limitSide l v) { c with held, filtered := some v }

/-- Channel `n`'s entry of the sample table. -/
def Lmu.channel (n : Nat) (m : Lmu) : LineChannel := m.channels.getD n .reset

/-- The limit state of channel `n`. -/
def Lmu.limitState (n : Nat) (m : Lmu) : LimitState := (m.channel n).state

/-- The channel of the next conversion (R179). -/
def Lmu.nextChannel (m : Lmu) : Nat := m.conversions % 8

/-- When the next conversion completes (R179). -/
def Lmu.nextDue (m : Lmu) : Nat := (m.conversions + 1) * 5

/-- The next conversion completes. -/
def Lmu.convert (now : Nat) (c : Settings) (code : Nat) (m : Lmu) : Lmu :=
  { channels := m.channels.modify m.nextChannel (LineChannel.convert now (c.limit m.nextChannel) code),
    conversions := m.conversions + 1 }

/-- An accepted change of channel `n`'s limits (R180). -/
def Lmu.limitsChanged (n : Nat) (m : Lmu) : Lmu :=
  { m with channels := m.channels.modify n fun c => { c with candidate := none, run := 0 } }

/-- SAMPLE-READ's entry for a channel (R182). -/
def LineChannel.reading (l : Limits) (c : LineChannel) : SampleReading := { last := c.held.getLast?, channel := c, limits := l }

end Sys2Proof.Machine
end

