-- ==== Sys2Proof/Machine/PlanStore.lean ====
section
/-!
DEFINITION. The nonvolatile store's named operations: sectors and locks, the end of an operation, and the examination and
load at a reset (R23 to R26, R29, R32 to R36, R199, R200).
-/

namespace Sys2Proof.Machine

def Store.sector (t : Store) : PlanLetter → PlanSector
  | .a => t.planA
  | .b => t.planB
  | .c => t.planC
  | .d => t.planD

def Store.setSector (t : Store) (l : PlanLetter) (p : PlanSector) : Store :=
  match l with
  | .a => { t with planA := p }
  | .b => { t with planB := p }
  | .c => { t with planC := p }
  | .d => { t with planD := p }

/-- An erase or program is in flight (R24). -/
def Store.busy (t : Store) : Bool := t.inFlight.isSome

/-- A sector is locked while the plan field names its letter (R25). -/
def Perf.locks (p : Perf) (l : PlanLetter) : Bool := p.plan = some l

/-- The record of a WRITTEN slot. -/
def slotRecord : Slot → Option StepRecord
  | .written r => some r
  | .blank | .damaged => none

/-- The records of steps 0 to count − 1, where each of those slots is WRITTEN. -/
def PlanSector.records (p : PlanSector) (count : Nat) : Option (List StepRecord) :=
  (List.range count).mapM fun i => p.slots[i]?.bind slotRecord

/-- The check value computed afresh over a sector's header and steps 0 to count − 1 (R26). -/
def PlanSector.freshCheck (p : PlanSector) (count : Nat) : Option Nat :=
  match p.header, p.records count with
  | some h, some rs => some (planCheck h rs)
  | _, _ => none

/-- The stored check value matches (R26). -/
def PlanSector.checkMatches (p : PlanSector) : Bool := p.freshCheck p.count = some p.check

/-- The running copy that a sector's contents give, where its check value matches and its header and each of its steps
are valid (R36). -/
def PlanSector.runningCopy (p : PlanSector) : Option RunningCopy :=
  match p.header, p.records p.count with
  | some h, some rs =>
    if p.checkMatches && (headerFirstBad h).isNone then
      (rs.mapM (stepOf h.acts)).map fun steps => { header := h, steps }
    else none
  | _, _ => none

/-- The first slot that breaks the seal's condition: slots 0 to count − 1 WRITTEN, the rest BLANK (R33). -/
def PlanSector.sealBreak (p : PlanSector) (count : Nat) : Option Nat :=
  (List.range 48).find? fun i =>
    match p.slots[i]? with
    | some (.written _) => count ≤ i
    | some .blank => i < count
    | some .damaged | none => true

/-- The first of `n` slots from `first` that is not BLANK (R32). -/
def PlanSector.firstUsed (p : PlanSector) (first n : Nat) : Option Nat :=
  ((List.range n).map (first + ·)).find? fun i => p.slots[i]? ≠ some .blank

/-- `k` records are in their slots. -/
def putSlots (first : Nat) (rs : List StepRecord) (slots : List Slot) : List Slot :=
  slots.mapIdx fun i sl =>
    if first ≤ i then
      match rs[i - first]? with
      | some r => .written r
      | none => sl
    else sl

/-- What a sector reads as after an operation on the whole of it failed or was cut short: state BAD, contents free (R24,
R26, R35).
FREE (log 5). -/
def PlanSector.spoiled (n : Nat) : PlanSector :=
  { state := .bad, header := Config.freeHeader n, slots := (List.range 48).map (Config.freeSlot n), count := 0, check := 0 }

/-- A failed verification of a PUT: state BAD, the named slots free (R32).
FREE (log 5). -/
def PlanSector.spoiledPut (n first count : Nat) (p : PlanSector) : PlanSector :=
  { p with state := .bad,
           slots := p.slots.mapIdx fun i sl => if first ≤ i ∧ i < first + count then Config.freeSlot n i else sl }

/-- An operation ends with its verification passed (R24, R29, R32, R33, R34, R199). -/
def Store.complete (op : StoreOp) (t : Store) : Store :=
  match op with
  | .openPlan l h => t.setSector l { PlanSector.erased with state := .opened, header := some h }
  | .put l first rs => t.setSector l { t.sector l with slots := putSlots first rs (t.sector l).slots }
  | .seal l count check => t.setSector l { t.sector l with state := .sealed, count, check }
  | .erase l => t.setSector l PlanSector.erased
  | .storeConfig c => { t with config := { copy := some c, check := Config.configCheck c % 65536, mark := true } }

/-- An operation ends with its verification failed: the sector becomes BAD, or sector 4 holds no valid configuration (R24,
R199). `n` draws the free contents. -/
def Store.fail (op : StoreOp) (n : Nat) (t : Store) : Store :=
  match op with
  | .openPlan l _ | .erase l => t.setSector l (PlanSector.spoiled n)
  | .put l first rs => t.setSector l ((t.sector l).spoiledPut n first rs.length)
  | .seal l _ _ => t.setSector l { t.sector l with state := .bad }
  | .storeConfig _ => { t with config := { t.config with mark := false } }

/-- The DONE body of a store request whose operation has ended (R33, R199). -/
def StoreOp.doneBody : StoreOp → DoneBody
  | .seal _ count check => .sealed count check
  | .storeConfig c => .check (Config.configCheck c % 65536)
  | .openPlan .. | .put .. | .erase .. => .empty

/-- The least time in flight, in ms (TABLE XVI, R24).
DESIGN CHOICE: the end may come later (log 17). -/
def StoreOp.leastTime : StoreOp → Nat
  | .openPlan .. => 41
  | .put .. | .seal .. => 1
  | .erase .. => 40
  | .storeConfig .. => 41

/-- A PUT cut short by a reset (R26): the first `k` slots are WRITTEN, the one begun and not completed is DAMAGED, the rest
are BLANK still. -/
def cutPut (first : Nat) (rs : List StepRecord) (k : Nat) (begun : Bool) (slots : List Slot) : List Slot :=
  slots.mapIdx fun i sl =>
    if first ≤ i ∧ i < first + rs.length then
      if i - first < k then
        match rs[i - first]? with
        | some r => .written r
        | none => sl
      else if i - first = k ∧ begun then .damaged
      else sl
    else sl

/-- What a reset leaves of the sector an operation in flight was working on (R26, R199). `n` draws the free values.
FREE (logs 4 and 5). -/
def Store.cutShort (op : StoreOp) (n : Nat) (t : Store) : Store :=
  match op with
  | .openPlan l _ | .erase l => t.setSector l (PlanSector.spoiled n)
  | .put l first rs =>
    let k := Config.freeNat n % (rs.length + 1)
    t.setSector l { t.sector l with slots := cutPut first rs k (Config.freeBit n) (t.sector l).slots }
  | .seal l _ _ => t.setSector l { t.sector l with state := .bad }
  | .storeConfig _ => { t with config := { t.config with mark := false } }

/-- A SEALED sector whose check value does not match becomes BAD (R26). -/
def PlanSector.examine (p : PlanSector) : PlanSector :=
  if p.state = .sealed ∧ p.checkMatches = false then { p with state := .bad } else p

/-- The examination of the plan sectors at a reset: no operation is in flight after it (R26). -/
def Store.examine (n : Nat) (t : Store) : Store :=
  let t' := match t.inFlight with
    | some f => t.cutShort f.op n
    | none => t
  { planA := t'.planA.examine, planB := t'.planB.examine, planC := t'.planC.examine, planD := t'.planD.examine,
    config := t'.config, inFlight := none }

/-- Sector 4 holds its store mark and its check value matches the sum of its contents (R200). -/
def ConfigSector.valid (c : ConfigSector) : Bool :=
  c.mark && match c.copy with
    | some s => c.check == Config.configCheck s % 65536
    | none => false

/-- The configuration a reset loads: whole from a valid sector 4, or defaulted whole (R200). -/
def ConfigSector.load (c : ConfigSector) : Settings :=
  if c.valid then c.copy.getD Settings.defaults else Settings.defaults

end Sys2Proof.Machine
end

