-- ==== Sys2Proof/Machine/Ops.lean ====
section
/-!
DEFINITION. How the blocks work together (0.4): the shared observations, the gates with their denials, the changes of each
block with what they set off in the others, the field lines, and the two frames of every command's meaning: the decision of
a request from the link, and an event.
-/

namespace Sys2Proof.Machine

/-! ## What the blocks observe of one another (TABLE II) -/

/-- The phase of the performance (R1). -/
def State.phase (s : State) : Phase := s.pfu.perf.phase

/-- The fire state is FULL. -/
def State.fireFull (s : State) : Bool := s.fdu.fire.state = .full

/-- The fire state is QUIET. -/
def State.fireQuiet (s : State) : Bool := s.fdu.fire.state = .quiet

/-- A forcing condition of RELEASE and of the emergency-lighting relay is in force (TABLE LIX). -/
def State.forced (s : State) : Bool := s.fireFull || s.phase = .evacuate

/-- The override is in force while the relay is de-energised (R102). -/
def State.override (s : State) : Bool := !s.ilu.relay.line

/-- What CTC observes (R45). -/
def State.ctcEnv (s : State) : CtcEnv :=
  { now := s.now, params := s.settings.curtain, overload := s.lmu.limitState 0 = .high, stopped := s.phase = .stopped,
    forced := s.forced }

/-- CLU's PLAYING entry is of class SHOW or HOUSE (R175). -/
def Clu.showPlay (c : Clu) : Bool :=
  match c.playing with
  | some e => isShowOrHouse e.cls
  | none => false

/-- What ILU observes, and the owners' demands (R175). -/
def State.iluView (s : State) : IluView :=
  { now := s.now, phase := s.phase, fireFull := s.fireFull, overload := s.lmu.limitState 0 = .high,
    showPlay := s.clu.showPlay, hoist := s.ctc.hoistDemand, release := s.ctc.releaseDemand,
    relay := !s.hlu.emergencyDemand, stalls := s.clu.demanded.getLsbD 2, circle := s.clu.demanded.getLsbD 3,
    gallery := s.clu.demanded.getLsbD 4 }

/-! ## The gates, and the denials' owners (R174, R176) -/

/-- ILU recomputes its gate records. -/
def State.gates (s : State) : State := { s with ilu := s.ilu.next s.iluView }

/-- CLU takes what one of its operations brought about: its notices, and its report of removals to FDU (R170). -/
def State.putClu (o : CluOut) (s : State) : State :=
  { s with clu := o.clu, fdu := s.fdu.setFire (s.fdu.fire.forget o.removed) }.notifyAll o.notes

/-- CLU reacts to the denial of audience relays (R168). -/
def State.takeCuts (s : State) : State :=
  if s.ilu.deniedZones = 0 then s else (s.putClu (s.clu.cut s.now s.ilu.deniedZones)).gates

/-- HLU reacts to the drop of the relay (R103). -/
def State.takeDrop (wasEnergised : Bool) (s : State) : State :=
  if wasEnergised ∧ s.ilu.relay.line = false then { s with hlu := s.hlu.drop }.gates else s

/-- A demand or a forcing condition has changed: the gates are recomputed and the denials reach their owners. -/
def State.regate (s : State) : State := (s.gates.takeDrop s.ilu.relay.line).takeCuts

/-! ## A change of one block -/

/-- An operation of CLU. -/
def State.withClu (f : Clu → CluOut) (s : State) : State := (s.putClu (f s.clu)).regate

/-- An operation of CTC: its notices, the gates, and its reports to PFU (R50). -/
def State.moveCurtain (f : CtcEnv → Ctc → CtcOut) (s : State) : State × List CtcReport :=
  let o := f s.ctcEnv s.ctc
  ({ s with ctc := o.ctc }.notifyAll o.notes |>.regate, o.reports)

/-- FDU takes what one of its operations brought about. -/
def State.putFdu (o : FduOut) (s : State) : State := { s with fdu := o.fdu }.notifyAll o.notes

/-- The condition "step due within 60 s" is re-evaluated (R44). -/
def State.refresh (s : State) : State := { s with pfu := s.pfu.refresh }

/-- The next free bit is drawn. -/
def State.drawn (s : State) : State := { s with free := s.free + 1 }

/-! ## Arrival reports (R19, R20) -/

/-- The faults that bar a proof (R19). -/
def barsProof (f : CurtainFault) : Bool := f = .late || f = .overspeed || f = .stall || f = .encoder

/-- A report to PFU, as far as the curtain-proven flag is concerned. -/
def State.takeArrival (r : CtcReport) (s : State) : State :=
  match r with
  | .arrival cause faults dropTime =>
    if s.phase ≠ .dark ∧ cause = .test ∧ faults.any barsProof = false then
      { s with pfu := s.pfu.setPerf { s.pfu.perf with proven := true } }.notify (.curtainProven dropTime)
    else s
  | .fault _ => s

/-- An operation of CTC whose reports can only be arrivals. -/
def State.move (f : CtcEnv → Ctc → CtcOut) (s : State) : State :=
  let r := s.moveCurtain f
  r.2.foldl (fun s r => s.takeArrival r) r.1

/-! ## Calls (R153) -/

/-- A call is decided by CLU. -/
def State.placeCall (src : Source) (t : Template) (s : State) : State × CallResult :=
  let r := s.clu.decideCall s.now s.phase src t
  ((s.putClu r.1).regate, r.2)

/-- A template call that PFU or FDU makes as source SAFETY; a template number of 255 makes none (R12, R136, R141). -/
def State.announce (number : Nat) (f : Template → Template) (s : State) : State × CallOutcome :=
  if number = 255 then (s, .absent)
  else
    let r := s.placeCall .safety (f (s.settings.template number))
    (r.1, r.2.outcome)

/-- The decision of a call as a reply carries it. -/
def CallResult.decision : CallResult → Decision
  | .admitted id merged zones => .done (.call id merged zones)
  | .refused r => .refused r .none

/-- CALL-CANCEL issued by FDU for a call id it keeps (R139, R141, R142). -/
def State.cancelKept (id : Option Nat) (s : State) : State × CancelOutcome :=
  match id with
  | none => (s, .absent)
  | some i =>
    match s.clu.find i with
    | some e => (s.withClu (Clu.cancel s.now e), .cancelled i)
    | none => (s, .refused .unknownId)

/-! ## Curtain requests (R51, R55, R56) -/

/-- The phases in which CURTAIN-RAISE and CURTAIN-LOWER are taken. -/
def movePhase : Phase → Bool
  | .dark | .prepare | .houseOpen | .interval | .resuming | .closed => true
  | .running | .stopped | .evacuate => false

/-- The phases in which CURTAIN-TEST is taken. -/
def testPhase : Phase → Bool
  | .dark | .prepare | .houseOpen | .interval => true
  | .running | .resuming | .stopped | .evacuate | .closed => false

/-- The first check of R51 that fails. -/
def State.raiseRefusal (s : State) : Option Reason :=
  if movePhase s.phase = false then some .wrongPhase
  else if s.fireFull then some .alarmActive
  else if s.lmu.limitState 0 = .high ∨ s.ctc.faults.contains .encoder ∨ s.ctc.overtravel then some .notReady
  else if s.ctc.state ≠ .down ∧ s.ctc.state ≠ .held then some .wrongState
  else none

/-- The first check of R55 that fails. -/
def State.lowerRefusal (s : State) : Option Reason :=
  if movePhase s.phase = false then some .wrongPhase
  else if s.ctc.state ≠ .up ∧ s.ctc.state ≠ .held then some .wrongState
  else if s.ctc.edge then some .notReady
  else none

/-- The first check of R56 that fails. -/
def State.testRefusal (s : State) : Option Reason :=
  if testPhase s.phase = false then some .wrongPhase
  else if s.lmu.limitState 1 = .low ∨ s.ctc.faults.contains .encoder then some .notReady
  else if s.ctc.state ≠ .up then some .wrongState
  else if s.ctc.edge then some .notReady
  else none

/-- A request that either fails a check or makes its move. -/
def State.unlessRefused (refusal : Option Reason) (f : State → State) (s : State) : State × Decision :=
  match refusal with
  | some r => (s, .refused r .none)
  | none => (f s, .done .empty)

/-- A raise accepted (R51). Where the top is reached already it ends at once in UP (R52): the gates follow the demand of RAISING
first, and then that of the state it ends in (R174). -/
def State.startRaise (s : State) : State :=
  let s := s.move Ctc.startRaise
  if s.ctc.atTop s.ctcEnv then s.move Ctc.enterUp else s

/-- CURTAIN-RAISE (R51). -/
def State.decideRaise (s : State) : State × Decision := s.unlessRefused s.raiseRefusal State.startRaise

/-- CURTAIN-LOWER (R55). -/
def State.decideLower (s : State) : State × Decision :=
  s.unlessRefused s.lowerRefusal (State.move fun e c => c.startDescent e .request)

/-- CURTAIN-TEST (R56). -/
def State.decideTest (s : State) : State × Decision :=
  s.unlessRefused s.testRefusal (State.move fun e c => c.startDescent e .test)

/-! ## Lighting requests a step or a key may issue (R95, R96) -/

/-- LIGHTS-GO (R95). -/
def State.decideGo (preset fade : Nat) (s : State) : State × Decision :=
  if 15 < preset then (s, .refused .badField .none)
  else if s.override then (s, .refused .overridden .none)
  else
    let time := min 6000 fade
    ({ s with hlu := s.hlu.go s.now s.settings preset time }, .done (.lightsGo preset time))

/-- HOUSE-FULL (R96). -/
def State.decideHouseFull (s : State) : State × Decision :=
  if s.override then (s, .refused .overridden .none)
  else
    let time := s.settings.lightTimes.houseFull
    ({ s with hlu := s.hlu.toFull s.now time .houseFull }, .done (.fadeTime time))

/-! ## Issuing steps (R38, R39) -/

/-- The bell call of a BELL step (TABLE XIX). -/
def bellCall (pattern : Nat) (zones : ZoneSet) : Template :=
  { cls := .showClass, slot := none, zones, bell := pattern, repeats := 1, gap := 0 }

/-- The outcome of a call issued by a step. -/
def CallResult.stepOutcome : CallResult → StepOutcome
  | .admitted id merged _ => .doneCall id merged
  | .refused r => .refused r

/-- The outcome of another request issued by a step. -/
def Decision.stepOutcome : Decision → StepOutcome
  | .refused r _ => .refused r
  | .done _ | .later => .done

/-- The entry of the step status table after an issue. -/
def StepOutcome.status : StepOutcome → StepStatus
  | .done | .doneCall .. => .done
  | .refused r => .refused r

/-- A step's request goes to its target (TABLE XIX). -/
def State.issueAction (index : Nat) (a : StepAction) (s : State) : State × StepOutcome :=
  match a with
  | .call n =>
    let r := s.placeCall .plan (s.settings.template n)
    (r.1, r.2.stepOutcome)
  | .bell p z =>
    let r := s.placeCall .plan (bellCall p z)
    (r.1, r.2.stepOutcome)
  | .lights p t =>
    let r := s.decideGo p t
    (r.1, r.2.stepOutcome)
  | .curtainLower =>
    let r := s.decideLower
    (r.1, r.2.stepOutcome)
  | .curtainRaise =>
    let r := s.decideRaise
    (r.1, r.2.stepOutcome)
  | .curtainTest =>
    let r := s.decideTest
    (r.1, r.2.stepOutcome)
  | .note code => (s.notify (.note code index), .done)

/-- Step `i` is issued, if it is due: its entry leaves PENDING, and a STEP notice is sent (R38).
DESIGN CHOICE: the NOTE notice, and the notices that a step's target forms in deciding it, come before the STEP notice
(log 19). -/
def State.issueStep (i : Nat) (s : State) : State :=
  match s.pfu.pendingStep i with
  | none => s
  | some st =>
    if s.pfu.perf.reached st then
      let r := s.issueAction i st.action
      { r.1 with pfu := (r.1.pfu.setEntry i r.2.status).refresh }.notify (.stepIssued i st.action r.2)
    else s

/-- Steps are issued in list order. -/
def State.issueSteps (is : List Nat) (s : State) : State := is.foldl (fun s i => s.issueStep i) s

/-- Every due step is issued. -/
def State.issueDue (s : State) : State := s.issueSteps s.pfu.dueSteps

/-! ## Changes of phase (R5, R28, R38, R97) -/

/-- HLU loads the lighting map at an entry to a mapped phase, unless the override is in force (R97, R104). -/
def State.loadMap (s : State) : State :=
  match s.pfu.runningCopy.bind fun c => headerMap c.header s.phase with
  | some e => if s.override then s else { s with hlu := s.hlu.loadMap s.now s.settings e }
  | none => s

/-- A due step of a list is a LIGHTS step. -/
def State.hasLights (is : List Nat) (s : State) : Bool :=
  is.any fun i => match s.pfu.pendingStep i with
    | some { action := .lights .., .. } => true
    | _ => false

/-- The steps due at the entry to a phase, and HLU's load of the map: a LIGHTS step reaches the channels before or after the
load, so where one is due the place of the load among the steps is free (R38, R97).
FREE (log 3). -/
def State.loadAndIssue (s : State) : State :=
  let due := s.pfu.dueSteps
  if s.hasLights due then
    let k := Config.freeNat s.free % (due.length + 1)
    ((s.drawn.issueSteps (due.take k)).loadMap).issueSteps (due.drop k)
  else s.loadMap.issueSteps due

/-- A change of phase other than the entries to STOPPED and EVACUATE: the record, the steps it skips, the PHASE notice, the
gates, then the lights and the steps due.
DESIGN CHOICE: the order of the notices of one moment (log 19). -/
def State.changePhase (cause : PhaseCause) (change : Pfu → Pfu × List NoticeBody) (s : State) : State :=
  let r := change s.pfu
  let s := ({ s with pfu := r.1.refresh }.notifyAll r.2)
  (s.notify (s.pfu.perf.phaseNote cause none)).regate.loadAndIssue

/-- The DONE body of a phase request (R4). -/
def State.phaseBody (s : State) : DoneBody := .phase s.phase s.pfu.perf.act s.pfu.perf.intervalNo

/-- The phases in which SHOW-STOP is taken (R11). -/
def stopPhase : Phase → Bool
  | .houseOpen | .running | .interval | .resuming => true
  | .dark | .prepare | .stopped | .evacuate | .closed => false

/-- HLU's stop fade, unless the override is in force (R98). -/
def State.stopFade (s : State) : State :=
  if s.override then s else { s with hlu := s.hlu.toFull s.now s.settings.lightTimes.stopFade .stopFade }

/-- The entry to STOPPED (R11, R12, R58, R98).
DESIGN CHOICE: the order of the notices of one moment (log 19). -/
def State.enterStopped (src : Source) (s : State) : State :=
  let s := { s with pfu := (s.pfu.setPerf (s.pfu.perf.showStop src s.now)).refresh }
  let r := s.announce s.settings.stopTemplate id
  let s := r.1.notify (r.1.pfu.perf.phaseNote (.request .showStop src) (some r.2))
  (s.move fun e c => c.onStopped e).stopFade

/-- SHOW-STOP (R11). -/
def State.decideShowStop (src : Source) (s : State) : State × Decision :=
  if stopPhase s.phase then
    let s := s.enterStopped src
    (s, .done s.phaseBody)
  else (s, .refused .wrongPhase .none)

/-- A report of CTC to PFU (R14, R19, R21, R50). -/
def State.takeReport (r : CtcReport) (s : State) : State :=
  match r with
  | .arrival .. => s.takeArrival r
  | .fault .creep =>
    if s.phase = .running then s.notify (.phaseCreep s.phase s.pfu.perf.act .none) else s
  | .fault .encoder | .fault .retarder => if s.phase = .running then (s.decideShowStop .safety).1 else s
  | .fault _ => s

/-- An operation of CTC, with its reports to PFU.
DESIGN CHOICE: CTC's own notices come before the PHASE and CALL notices of the show stop that a report causes (log 19). -/
def State.withCtc (f : CtcEnv → Ctc → CtcOut) (s : State) : State :=
  let r := s.moveCurtain f
  r.2.foldl (fun s r => s.takeReport r) r.1

/-! ## FULL and EVACUATE (R15, R16, R64, R103, R140, R141, R167) -/

/-- The phases that the entry to FULL turns into EVACUATE (R16). -/
def evacuablePhase : Phase → Bool
  | .prepare | .houseOpen | .running | .interval | .resuming | .stopped => true
  | .dark | .evacuate | .closed => false

/-- An evacuation call as FDU forms it (R141). -/
def evacuationCall (t : Template) : Template := { t with cls := .evac, repeats := 0 }

/-- A call id as FDU keeps it: that of a call admitted or merged, or else the id kept before (R134, R141).
DESIGN CHOICE: a refused call leaves the id kept before (log 29), and a new id takes its place (log 56). -/
def keptId (o : CallOutcome) (before : Option Nat) : Option Nat :=
  match o with
  | .admitted id _ => some id
  | .absent | .refused _ => before

/-- FDU's calls on an entry to FULL: the cancel of the staff-alert call, then the evacuation call (R141). -/
def State.fullCalls (s : State) : State × CancelOutcome × CallOutcome :=
  let a := s.cancelKept s.fdu.fire.staffCall
  let b := a.1.announce a.1.settings.fireTimes.evacTemplate evacuationCall
  let fire := b.1.fdu.fire
  ({ b.1 with fdu := b.1.fdu.setFire { fire with evacCall := keptId b.2 fire.evacCall } }, a.2, b.2)

/-- FDU's calls and CLU's flush at the entry to EVACUATE, in either order (R167).
FREE (log 3). -/
def State.callsAndFlush (s : State) : State × CancelOutcome × CallOutcome :=
  let flush (s : State) : State := s.withClu (Clu.flush s.now)
  if Config.freeBit s.free then (flush s.drawn).fullCalls
  else
    let r := s.drawn.fullCalls
    (flush r.1, r.2)

/-- The PFU side of an entry to EVACUATE: the record, and every PENDING step skipped (R15, R41).
DESIGN CHOICE: one EVACUATED notice counts them all, those of the instance that ends with it among them (log 37). -/
def State.evacuateRecord (s : State) : State :=
  let r := s.pfu.skipAll
  { s with pfu := (r.1.setPerf (r.1.perf.evacuate s.now)).refresh }.notifyAll r.2

/-- The FDU side of an entry to FULL, but for its calls: the record, the walk test and the isolations (R141). -/
def State.fullRecord (cause : FullCause) (s : State) : State :=
  let r := s.fdu.fire
  let s := { s with fdu := s.fdu.setFire (r.enterFull s.now cause) }.notifyAll (r.walkNote .full)
  s.putFdu (s.fdu.endIsolations s.settings)

/-- CTC observes that a RELEASE forcing condition came into force while none was, and the gates follow (R64, R174). -/
def State.takeForcing (wasForced : Bool) (s : State) : State :=
  if wasForced then s.regate else s.move fun e c => c.onForced e

/-- The entry to FULL, with PFU's move to EVACUATE where it makes one (R16, R141).
DESIGN CHOICE: the order of the notices of one moment (log 19). -/
def State.enterFull (cause : FullCause) (s : State) : State :=
  let left := s.fdu.fire.state
  let wasForced := s.forced
  let evacuates := evacuablePhase s.phase
  let s := s.fullRecord cause
  let s := if evacuates then s.evacuateRecord else s
  let r := if evacuates then s.callsAndFlush else s.fullCalls
  let s := r.1.notify (r.1.fdu.fire.note left r.2.1 r.2.2)
  let s := if evacuates then s.notify (s.pfu.perf.phaseNote .fireFull none) else s
  s.takeForcing wasForced

/-- The entry to EVACUATE by a request, with FDU's entry to FULL where it observes it (R15, R140).
DESIGN CHOICE: the order of the notices of one moment (log 19). -/
def State.enterEvacuate (src : Source) (s : State) : State :=
  let left := s.fdu.fire.state
  let wasForced := s.forced
  let s := s.evacuateRecord
  let s := s.notify (s.pfu.perf.phaseNote (.request .evacuate src) none)
  let s :=
    if left = .full then s.withClu (Clu.flush s.now)
    else
      let r := (s.fullRecord .evacuate).callsAndFlush
      r.1.notify (r.1.fdu.fire.note left r.2.1 r.2.2)
  s.takeForcing wasForced

/-- EVACUATE (R15). -/
def State.decideEvacuate (src : Source) (s : State) : State × Decision :=
  if evacuablePhase s.phase then
    let s := s.enterEvacuate src
    (s, .done s.phaseBody)
  else (s, .refused .wrongPhase .none)

/-! ## The fire state machine (R135, R136, R143) -/

/-- The entry to STAFF-ALERT (R136). -/
def State.enterStaffAlert (s : State) : State :=
  let r := s.fdu.fire
  let st : FireState := .staffAlert .awaitingAck
  let s :=
    { s with
      fdu := s.fdu.setFire
        { r with state := st, timer := some (s.now + s.settings.fireTimes.acknowledge * 1000), entry := s.now, walk := none } }
  let s := s.notifyAll (r.walkNote st)
  let c := s.announce s.settings.fireTimes.staffTemplate fun t => { t with cls := .alert }
  let fire := { c.1.fdu.fire with staffCall := keptId c.2 c.1.fdu.fire.staffCall }
  { c.1 with fdu := c.1.fdu.setFire fire }.notify (fire.note r.state .absent c.2)

/-- A re-sounding in FULL (R143): a FIRE notice where SILENCED changes (R134). -/
def State.resound (s : State) : State :=
  let silenced := s.fdu.fire.silenced
  let s := { s with fdu := s.fdu.setFire { s.fdu.fire with silenced := false } }
  let c := s.announce s.settings.fireTimes.evacTemplate evacuationCall
  let fire := { c.1.fdu.fire with evacCall := keptId c.2 c.1.fdu.fire.evacCall }
  let s := { c.1 with fdu := c.1.fdu.setFire fire }
  if silenced then s.notify (fire.note .full .absent c.2) else s

/-- A device that has reached ALARM is handed to the fire state machine (R135, R138, R143). -/
def State.takeAlarm (a : Nat) (s : State) : State :=
  let r := s.fdu.fire
  match r.state with
  | .quiet =>
    let s := { s with fdu := s.fdu.setFire { r with first := some (firstAlarm s.settings s.now a), count := 1 } }
    if alertFirst s.settings s.phase a then s.enterStaffAlert else s.enterFull .direct
  | .staffAlert _ =>
    { s with fdu := s.fdu.setFire { r with count := saturate 255 r.count } }.enterFull .secondAlarm
  | .full => { s with fdu := s.fdu.setFire { r with count := saturate 255 r.count } }.resound

/-- An operation of FDU, with the alarm it hands over. -/
def State.withFdu (o : FduOut) (s : State) : State :=
  let s := s.putFdu o
  match o.alarm with
  | some a => s.takeAlarm a
  | none => s

/-! ## Field lines and lamps (TABLE XXII, R101, R145, TABLE L, R183, R189) -/

/-- A lamp condition holds (TABLE LXIV). -/
def State.condition (s : State) : LampCondition → Bool
  | .phase p => s.phase = p
  | .staffAlert => match s.fdu.fire.state with
    | .staffAlert _ => true
    | .quiet | .full => false
  | .full => s.fireFull
  | .silenced => s.fireFull && s.fdu.fire.silenced
  | .curtainUp => s.ctc.state = .up
  | .curtainDown => s.ctc.state = .down
  | .curtainMoving => s.ctc.state = .raising || s.ctc.state = .preDrop || s.ctc.state = .descending
  | .curtainFault => s.ctc.faults ≠ []
  | .curtainProven => s.pfu.perf.proven
  | .callPlaying => s.clu.callPlaying
  | .announcerFailed => s.clu.failed
  | .stepDue => s.pfu.stepDueSoon
  | .refused => s.dsu.refusedUntil.isSome
  | .none => false

/-- A lamp is lit (R189). -/
def State.lit (s : State) (b : LampBinding) : Bool := s.condition b.condition && (!b.flashing || s.dsu.flashLit)

/-- The field lines that the state of the blocks gives. -/
def State.fieldLines (s : State) : FieldLines :=
  { brake := s.ctc.brake, warning := s.ctc.warning, retarder := s.ctc.command s.settings.curtain,
    levels := s.hlu.levels s.phase s.settings, codes := s.hlu.codes s.phase s.settings,
    sounders := List.replicate 4 s.fdu.fire.sounding, play := s.clu.playLine, stop := s.clu.stopLine,
    slotLines := s.clu.slotLines, relays := withoutAudience s.clu.demanded, bells := s.clu.bellLines,
    column := some s.dsu.column, lamps := s.settings.lamps.map s.lit }

/-- The blocks drive their field lines. -/
def State.drive (s : State) : State := { s with lines := s.fieldLines }

/-- The end of every change: the field lines follow, and a free outbound line takes what is next for it.
DESIGN CHOICE: all the notices of a command, and its reply, have joined before the line takes any (log 70). -/
def State.finish (s : State) : State := s.drive.pump

/-! ## The two frames of a command's meaning -/

/-- What a command answers. -/
abbrev Answer := Host.Outcome State Fault Refusal

/-- An event at a moment when it can happen: nothing happens while reset is held, or where the event is not due.
DESIGN CHOICE (logs 16 and 17). -/
def State.event (due : Bool) (f : State → State) (s : State) : State :=
  if s.held.isSome ∨ due = false then s else (f s).finish

/-- LP returns to hunting (R191). -/
def State.hunting (s : State) : State := { s with lp := { s.lp with frame := none } }

/-- A frame that finds the inbound buffer full is discarded and counted (R192). -/
def State.overrun (s : State) : State :=
  { s with lp := { s.lp with frame := none, overrun := saturate 255 s.lp.overrun } }

/-- A good frame completes (R192, R197): nothing is received while reset is held; after an accepted RESTART it is discarded
without being counted; with the buffer full it is an overrun; otherwise it is decided at once and joins the buffer. -/
def State.receive (kind : ReplyKind) (decide : State → State × Decision) (s : State) : State :=
  if s.held.isSome then s
  else if s.lp.restarting then s.hunting
  else if 2 ≤ s.lp.inbound.length then s.overrun.finish
  else
    let r := decide s.hunting
    { r.1 with lp := r.1.lp.hold kind r.2 }.finish

/-- A request from the link: `fits` says that its body length suits its kind (R192).
DESIGN CHOICE: a request command stands for its whole good frame (log 18). -/
def State.answer (kind : RequestKind) (fits : Bool) (decide : State → State × Decision) (s : State) : State :=
  s.receive (.request kind) fun s => if fits then decide s else (s, .refused .badLength .none)

end Sys2Proof.Machine
end

