-- ==== Sys2Proof/Machine/Curtain.lean ====
section
/-!
DEFINITION. The meanings of the curtain requests and of the curtain's inputs, timers and windows (chapters 3 and 4).
-/

namespace Sys2Proof.Machine

/-- CURTAIN-HALT (R61). -/
def State.decideHalt (s : State) : State × Decision :=
  match s.ctc.state with
  | .raising => (s.withCtc fun e c => c.enter e .held, .done .empty)
  | .descending =>
    if s.ctc.haltable s.ctcEnv then (s.withCtc fun e c => (c.closeDescent .halted).enter e .held, .done .empty)
    else (s, .refused .wrongState .none)
  | .down | .up | .preDrop | .held => (s, .refused .wrongState .none)

/-- CURTAIN-CLEAR (R67). -/
def State.decideClear (s : State) : State × Decision :=
  match s.ctc.state with
  | .down | .up | .held =>
    let o := s.ctc.clearFaults s.ctcEnv (s.lmu.limitState 1 = .low)
    (s.withCtc fun _ _ => o, .done (.faults o.ctc.faults))
  | .raising | .preDrop | .descending => (s, .refused .wrongState .none)

/-- CURTAIN-READ (R70, R87). -/
def State.readCurtain (s : State) : CurtainReading :=
  let c := s.ctc
  { state := c.state, cause := c.cause, holding := c.holding, position := c.position s.settings.curtain, count := c.count,
    command := c.command s.settings.curtain, floor := c.floor, top := c.top, overtravel := c.overtravel, edge := c.edge,
    faults := c.faults, record := c.descent.map (·.record), supervision := c.descent.map (·.sup),
    last := c.descent.bind (·.last), history := c.history }

/-- A change of one of CTC's inputs: it is tracked while reset is held, so that the level then standing is found at the
release; a level that does not change is no event. -/
def State.ctcInput (same : Bool) (track : Ctc → Ctc) (react : CtcEnv → Ctc → CtcOut) (s : State) : State :=
  if s.held.isSome then { s with ctc := track s.ctc }
  else if same then s
  else (s.withCtc react).finish

/-- A timer of the part has run out. -/
def dueAt (now : Nat) (t : Option Nat) : Bool :=
  match t with
  | some t => t ≤ now
  | none => false

/-- The hold timer of the descent in hand (R63). -/
def Ctc.holdTimer (c : Ctc) : Option Nat := c.descent.bind (·.hold)

/-- The window in progress has reached 100 ms (R72). -/
def Ctc.windowDue (c : Ctc) : Bool :=
  match c.descent with
  | some d => d.hold.isNone && 100 ≤ d.sup.progress
  | none => false

/-- The floor timer has reached 2000 ms (R60). -/
def Ctc.floorDue (c : Ctc) : Bool :=
  match c.descent with
  | some d => d.hold.isNone && !c.faults.contains .encoder && match d.floorTimer with
    | some t => 2000 ≤ t
    | none => false
  | none => false

/-! ## Meanings -/

def execCurtainRaise (s : State) : Answer := .next <| s.answer .curtainRaise true State.decideRaise

def execCurtainLower (s : State) : Answer := .next <| s.answer .curtainLower true State.decideLower

def execCurtainTest (s : State) : Answer := .next <| s.answer .curtainTest true State.decideTest

def execCurtainHalt (s : State) : Answer := .next <| s.answer .curtainHalt true State.decideHalt

def execCurtainClear (s : State) : Answer := .next <| s.answer .curtainClear true State.decideClear

def execCurtainRead (s : State) : Answer :=
  .next <| s.answer .curtainRead true fun s => (s, .done (.curtain s.readCurtain))

/-- A change of the encoder count. The order of two events of one moment is free (R52, log 3). -/
def State.encoderInput (n : Nat) (s : State) : State :=
  let input (topFirst : Bool) (s : State) : State :=
    s.ctcInput (n = s.ctc.count) (fun c => { c with count := n }) fun e c => c.encoderChange e topFirst n
  if s.held.isNone ∧ n ≠ s.ctc.count ∧ s.ctc.topRace s.settings.curtain n = true then input (Config.freeBit s.free) s.drawn
  else input false s

/-- R46, R52, R54, R60: a count is 0 to 65535. -/
def execEncoderCountChange (count : Nat) (s : State) : Answer := .next <| s.encoderInput (count % 65536)

/-- R52. -/
def execTopChange (closed : Bool) (s : State) : Answer :=
  .next <| s.ctcInput (closed = s.ctc.top) (fun c => { c with top := closed }) fun e c => c.topChange e closed

/-- R52. -/
def execOvertravelChange (closed : Bool) (s : State) : Answer :=
  .next <| s.ctcInput (closed = s.ctc.overtravel) (fun c => { c with overtravel := closed }) fun e c =>
    c.overtravelChange e closed

/-- R60, R65. -/
def execFloorChange (closed : Bool) (s : State) : Answer :=
  .next <| s.ctcInput (closed = s.ctc.floor) (fun c => { c with floor := closed }) fun e c => c.floorChange e closed

/-- R62, R63. -/
def execEdgeTrip (operated : Bool) (s : State) : Answer :=
  .next <| s.ctcInput (operated = s.ctc.edge) (fun c => { c with edge := operated }) fun e c => c.edgeChange e operated

/-- R63. -/
def execObstructionHoldEnd (s : State) : Answer :=
  .next <| s.event (dueAt s.now s.ctc.holdTimer) (State.withCtc fun e c => c.endHold e)

/-- R52. -/
def execRaiseTimeout (s : State) : Answer :=
  .next <| s.event (dueAt s.now s.ctc.raiseDeadline) (State.withCtc fun e c => c.faultHeld e .raiseTimeout)

/-- R59. -/
def execStopWarningEnd (s : State) : Answer :=
  .next <| s.event (dueAt s.now s.ctc.warnDeadline) (State.withCtc fun e c => c.endWarning e)

/-- R60. -/
def execFloorTimerExpiry (s : State) : Answer :=
  .next <| s.event s.ctc.floorDue (State.withCtc fun e c => (c.arise e .limit).andThen (Ctc.arrive e))

/-- R72 to R83. -/
def execDescentWindow (s : State) : Answer := .next <| s.event s.ctc.windowDue (State.withCtc fun e c => c.window e)

/-- R75. -/
def execTimeOnlyLate (s : State) : Answer :=
  .next <| s.event s.ctc.timeOnlyLateDue (State.withCtc fun e c => c.arise e .late)

end Sys2Proof.Machine
end

