-- ==== Sys2Proof/Machine/Calls.lean ====
section
/-!
DEFINITION. The meanings of the call requests and of the announcer's events (chapter 8).
-/

namespace Sys2Proof.Machine

/-- The phases in which templates, presets, bell patterns, lamp bindings and the desk fade time are taken (TABLE LXVII). -/
def editPhase : Phase → Bool
  | .dark | .prepare => true
  | .houseOpen | .running | .interval | .resuming | .stopped | .evacuate | .closed => false

/-- A template is replaced (R151). -/
def Settings.putTemplate (n : Nat) (t : Template) (c : Settings) : Settings := { c with templates := c.templates.set n t }

/-- TEMPLATE-WRITE (R151). -/
def State.decideTemplateWrite (n : Nat) (b : CallBody) (s : State) : State × Decision :=
  match checkedBody b with
  | none => (s, .refused .badField .none)
  | some t =>
    if 15 < n then (s, .refused .badField .none)
    else if editPhase s.phase = false then (s, .refused .wrongPhase .none)
    else ({ s with settings := Settings.putTemplate n t s.settings }, .done .empty)

/-- CALL (R153). -/
def State.decideCallBody (b : CallBody) (s : State) : State × Decision :=
  match checkedBody b with
  | none => (s, .refused .badField .none)
  | some t =>
    let r := s.placeCall .link t
    (r.1, r.2.decision)

/-- CALL-TEMPLATE, and a template call of the desk (R153). -/
def State.decideCallTemplate (src : Source) (n : Nat) (s : State) : State × Decision :=
  if 15 < n then (s, .refused .badField .none)
  else
    let r := s.placeCall src (s.settings.template n)
    (r.1, r.2.decision)

/-! ## The stages of a play (R159 to R163) -/

/-- The settling time has run (R159). -/
def Clu.settled (now : Nat) (c : Settings) (u : Clu) : CluOut :=
  match u.playing with
  | none => CluOut.of { u with announcer := .idle }
  | some e => if e.bell = 0 then u.beginSpeaking now e else u.ring now (c.bell e.bell) e

/-- An on or off time of the bell pattern has run (R152, R159). -/
def Clu.segmentEnd (now : Nat) (u : Clu) : CluOut :=
  match u.announcer, u.playing with
  | .bell ((on, off) :: rest) true _, some _ =>
    CluOut.of { u with announcer := .bell ((on, off) :: rest) false (now + off * 50) }
  | .bell (_ :: rest) false _, some e => u.ring now rest e
  | .bell .., _ => CluOut.of { u with announcer := .idle }
  | _, _ => CluOut.of u

/-- The PLAY strobe has run (R160). -/
def Clu.playStrobeOff (u : Clu) : Clu :=
  match u.announcer with
  | .speaking _ started deadline => { u with announcer := .speaking none started deadline }
  | _ => u

/-- BUSY rises (R160). -/
def Clu.busyRise (now : Nat) (u : Clu) : Clu :=
  let u := { u with busy := true }
  match u.announcer with
  | .speaking strobe false _ => { u with announcer := .speaking strobe true (now + 90000), noStarts := 0 }
  | _ => u

/-- BUSY falls (R160, R162). -/
def Clu.busyFall (now : Nat) (u : Clu) : CluOut :=
  let u := { u with busy := false }
  match u.announcer, u.playing with
  | .speaking _ true _, some e => u.endPlay now false e
  | .stopping none _, _ => CluOut.of { u with announcer := .idle }
  | _, _ => CluOut.of u

/-- The start window has run out without a start (R161). -/
def Clu.noStart (now : Nat) (u : Clu) : CluOut :=
  let u := { u with announcer := .idle, noStarts := u.noStarts + 1 }
  match u.playing with
  | none => CluOut.of u
  | some e =>
    if u.noStarts = 1 then
      { clu := u.modify e.id fun f => { f with state := .queued }, notes := [.callNoStart e.id], removed := [] }
    else (u.setFailed .secondNoStart).andThen (Clu.playDone now true e)

/-- A play in SPEAKING is stopped because the announcer is FAILED: it counts as done with a degraded end (R163). -/
def Clu.failPlay (now : Nat) (cause : FailedCause) (u : Clu) : CluOut :=
  (u.setFailed cause).andThen fun u =>
    match u.playing with
    | some e => (u.stop now).playDone now true e
    | none => CluOut.of (u.stop now)

/-- The STOP strobe has run (R162). -/
def Clu.stopStrobeOff (u : Clu) : Clu :=
  match u.announcer with
  | .stopping _ timeout => if !u.busy || u.failed then { u with announcer := .idle } else { u with announcer := .stopping none timeout }
  | _ => u

/-- BUSY is still high 500 ms after the start of the STOP strobe (R162, R163). -/
def Clu.stopTimedOut (u : Clu) : CluOut :=
  (u.setFailed .stopTimeout).andThen fun u => CluOut.of { u with announcer := .idle }

/-- Channel 7 changes to LOW (R162, R163). -/
def Clu.amplifierLow (now : Nat) (u : Clu) : CluOut :=
  match u.announcer with
  | .speaking .. => u.failPlay now .channel7Low
  | .stopping none _ => (u.setFailed .channel7Low).andThen fun u => CluOut.of { u with announcer := .idle }
  | .idle | .settling _ | .bell .. | .stopping (some _) _ => u.setFailed .channel7Low

/-- A WAITING entry's ready time is reached (R165, R166). -/
def Clu.ready (now id : Nat) (u : Clu) : CluOut :=
  match u.find id with
  | none => CluOut.of u
  | some e =>
    let u := u.modify id fun f => { f with state := .queued }
    if isShowOrHouse e.cls then CluOut.of u else u.preempt now e.cls

/-- An event of CLU, after which selection follows (R158). The gates follow the demands that the event leaves, and then those of
the play selected (R165, R174). -/
def State.playEvent (f : Clu → CluOut) (s : State) : State := (s.withClu f).withClu (Clu.select s.now s.phase)

/-- The entry waits until a time that has come. -/
def Clu.readyDue (now id : Nat) (u : Clu) : Bool :=
  match u.find id with
  | some { state := .waiting t, .. } => t ≤ now
  | _ => false

/-- The timers of the announcer's stages. -/
def Announcer.settlingTimer : Announcer → Option Nat
  | .settling t => some t
  | .idle | .bell .. | .speaking .. | .stopping .. => none

def Announcer.segmentTimer : Announcer → Option Nat
  | .bell _ _ t => some t
  | .idle | .settling _ | .speaking .. | .stopping .. => none

def Announcer.playStrobe : Announcer → Option Nat
  | .speaking t _ _ => t
  | .idle | .settling _ | .bell .. | .stopping .. => none

def Announcer.startWindow : Announcer → Option Nat
  | .speaking _ false t => some t
  | .speaking _ true _ | .idle | .settling _ | .bell .. | .stopping .. => none

def Announcer.speakingLimit : Announcer → Option Nat
  | .speaking _ true t => some t
  | .speaking _ false _ | .idle | .settling _ | .bell .. | .stopping .. => none

def Announcer.stopStrobe : Announcer → Option Nat
  | .stopping t _ => t
  | .idle | .settling _ | .bell .. | .speaking .. => none

def Announcer.stopTimer : Announcer → Option Nat
  | .stopping none t => some t
  | .stopping (some _) _ | .idle | .settling _ | .bell .. | .speaking .. => none

/-- ANNOUNCER-RESET (R163, R164): a play that has not come to its speaking stage stays bell-only to its end. -/
def State.decideAnnouncerReset (s : State) : State × Decision :=
  if s.clu.failed = false then (s, .refused .wrongState .none)
  else if s.lmu.limitState 7 = .low then (s, .refused .conditionPresent .none)
  else
    ({ s with clu := { s.clu with failed := false, noStarts := 0, bellOnly := s.clu.beforeSpeaking } }.notify (.announcerRestored .announcerReset),
      .done .empty)

/-- CALL-CANCEL (R169). -/
def State.decideCancel (id : Nat) (s : State) : State × Decision :=
  if id = 0 then (s, .refused .badField .none)
  else
    match s.clu.find id with
    | none => (s, .refused .unknownId .none)
    | some e => (s.withClu (Clu.cancel s.now e), .done .empty)

/-- An entry as QUEUE-READ gives it (R171). -/
def State.readEntry (s : State) (e : CallEntry) : EntryReading :=
  { entry := e,
    remaining := match e.state with
      | .waiting t => some (t - s.now)
      | .queued | .playing _ => none,
    stage := if e.state.effective.isSome then some s.clu.announcer else none }

/-- QUEUE-READ (R171). -/
def State.readQueue (first count : Nat) (s : State) : QueueReading :=
  let u := s.clu
  { announcer := u.announcer, failed := u.failed, noStarts := u.noStarts, busy := u.busy, count := u.entries.length,
    reservedLink := u.reservedInUse .link, reservedPlan := u.reservedInUse .plan, reservedDesk := u.reservedInUse .desk,
    reservedSafe := u.reservedInUse .safety, pool := u.poolInUse, nextId := u.nextId,
    entries := ((u.ordered.drop first).take count).map s.readEntry }

def State.decideQueueRead (first count : Nat) (s : State) : State × Decision :=
  if 23 < first ∨ count = 0 ∨ 4 < count then (s, .refused .badField .none)
  else (s, .done (.queue (s.readQueue first count)))

/-- A change of BUSY, tracked while reset is held; a level that does not change is no event. -/
def State.busyInput (level : Bool) (f : Clu → CluOut) (s : State) : State :=
  if s.held.isSome then { s with clu := { s.clu with busy := level } }
  else if level = s.clu.busy then s
  else (s.playEvent f).finish

/-! ## Meanings -/

def execTemplateWrite (template : Nat) (body : CallBody) (s : State) : Answer :=
  .next <| s.answer .templateWrite true (State.decideTemplateWrite template body)

def execCall (body : CallBody) (s : State) : Answer := .next <| s.answer .call true (State.decideCallBody body)

def execCallTemplate (template : Nat) (s : State) : Answer :=
  .next <| s.answer .callTemplate true (State.decideCallTemplate .link template)

/-- R159. -/
def execSettlingEnd (s : State) : Answer :=
  .next <| s.event (dueAt s.now s.clu.announcer.settlingTimer) fun s => s.playEvent (Clu.settled s.now s.settings)

/-- R152, R159. -/
def execBellSegmentEnd (s : State) : Answer :=
  .next <| s.event (dueAt s.now s.clu.announcer.segmentTimer) fun s => s.playEvent (Clu.segmentEnd s.now)

/-- R160. -/
def execPlayStrobeEnd (s : State) : Answer :=
  .next <| s.event (dueAt s.now s.clu.announcer.playStrobe) fun s => { s with clu := s.clu.playStrobeOff }

/-- R160. -/
def execBusyRise (s : State) : Answer := .next <| s.busyInput true fun u => CluOut.of (u.busyRise s.now)

/-- R160, R162. -/
def execBusyFall (s : State) : Answer := .next <| s.busyInput false fun u => u.busyFall s.now

/-- R161. -/
def execNoStart (s : State) : Answer :=
  .next <| s.event (dueAt s.now s.clu.announcer.startWindow) fun s => s.playEvent (Clu.noStart s.now)

/-- R163. -/
def execSpeakingLimitExpiry (s : State) : Answer :=
  .next <| s.event (dueAt s.now s.clu.announcer.speakingLimit) fun s => s.playEvent (Clu.failPlay s.now .speakingLimit)

/-- R162. -/
def execStopStrobeEnd (s : State) : Answer :=
  .next <| s.event (dueAt s.now s.clu.announcer.stopStrobe) (State.playEvent fun u => CluOut.of u.stopStrobeOff)

/-- R162. -/
def execStopTimeout (s : State) : Answer :=
  .next <| s.event (dueAt s.now s.clu.announcer.stopTimer) (State.playEvent Clu.stopTimedOut)

/-- R165. -/
def execReadyTime (id : Nat) (s : State) : Answer :=
  .next <| s.event (s.clu.readyDue s.now id) fun s => s.playEvent (Clu.ready s.now id)

def execAnnouncerReset (s : State) : Answer := .next <| s.answer .announcerReset true State.decideAnnouncerReset

def execCallCancel (id : Nat) (s : State) : Answer := .next <| s.answer .callCancel true (State.decideCancel id)

def execQueueRead (first count : Nat) (s : State) : Answer :=
  .next <| s.answer .queueRead true (State.decideQueueRead first count)

end Sys2Proof.Machine
end

