-- ==== Sys2Proof/Machine/Fire.lean ====
section
/-!
DEFINITION. The meanings of the zone and fire requests and timers (chapter 7).
-/

namespace Sys2Proof.Machine

/-- A fire zone is 1 to 16. -/
def zoneOk (z : Nat) : Bool := 1 ≤ z && z ≤ 16

/-- ZONE-ISOLATE (R132). -/
def State.decideIsolate (z seconds : Nat) (s : State) : State × Decision :=
  if zoneOk z = false ∨ seconds = 0 then (s, .refused .badField .none)
  else if (s.settings.zone z).cls = .auditorium ∨ (s.settings.zone z).cls = .front then (s, .refused .badField .none)
  else if s.fireFull ∨ s.fdu.zoneStatus z = .alarm then (s, .refused .alarmActive .none)
  else if s.fdu.underWalk z then (s, .refused .wrongState .none)
  else if s.fdu.isolated z = false ∧ 4 ≤ s.fdu.isolatedCount then (s, .refused .limit .none)
  else
    let duration := min 3600 seconds
    let expiry := s.now + duration * 1000
    let s := s.putFdu (s.fdu.isolate s.settings z expiry)
    (s, .done (.isolated z duration expiry s.fdu.isolatedCount))

/-- An isolation ends (R133). -/
def State.endIsolation (z : Nat) (s : State) : State := s.putFdu (s.fdu.setExpiry s.settings z none)

/-- ZONE-RESTORE (R133). -/
def State.decideZoneRestore (z : Nat) (s : State) : State × Decision :=
  if zoneOk z = false then (s, .refused .badField .none)
  else if s.fdu.isolated z = false then (s, .refused .wrongState .none)
  else (s.endIsolation z, .done .empty)

/-- FIRE-ACK (R137). -/
def State.decideFireAck (s : State) : State × Decision :=
  let r := s.fdu.fire
  if r.state = .staffAlert .awaitingAck then
    let fire :=
      { r with state := .staffAlert .investigating, timer := some (s.now + s.settings.fireTimes.investigation * 1000),
               entry := s.now }
    ({ s with fdu := s.fdu.setFire fire }.notify (fire.note r.state .absent .absent), .done .empty)
  else (s, .refused .wrongState .none)

/-- FIRE-FULL (R140, R143). -/
def State.decideFireFull (s : State) : State × Decision :=
  match s.fdu.fire.state with
  | .quiet | .staffAlert _ => (s.enterFull .manual, .done .empty)
  | .full => if s.fdu.fire.silenced then (s.resound, .done .empty) else (s, .refused .wrongState .none)

/-- FIRE-SILENCE (R142). -/
def State.decideFireSilence (s : State) : State × Decision :=
  let r := s.fdu.fire
  if r.state = .full ∧ r.silenced = false then
    let c := State.cancelKept r.evacCall { s with fdu := s.fdu.setFire { r with silenced := true } }
    (c.1.notify (c.1.fdu.fire.note .full c.2 .absent), .done .empty)
  else (s, .refused .wrongState .none)

/-- FIRE-RESET accepted (R139, R144); the staff-alert call is cancelled in STAFF-ALERT, where its id is kept (R139).
DESIGN CHOICE: the devices return in rising address, so their notices come in that order (log 67). -/
def State.resetFire (s : State) : State :=
  let r := s.fdu.fire
  let s := s.putFdu (Fdu.eachDevice (Fdu.orderReturn s.settings) addresses s.fdu)
  let s := { s with fdu := s.fdu.setFire (s.fdu.fire.quiet s.now) }
  let c := s.cancelKept (if r.state = .full then none else r.staffCall)
  (c.1.notify (c.1.fdu.fire.note r.state c.2 .absent)).regate

/-- FIRE-RESET (R139, R144). -/
def State.decideFireReset (s : State) : State × Decision :=
  let r := s.fdu.fire
  if r.state = .quiet ∨ (r.state = .full ∧ r.silenced = false) then (s, .refused .wrongState .none)
  else if s.fdu.allClear s.settings = false then (s, .refused .conditionPresent .none)
  else (s.resetFire, .done .empty)

/-- WALK-TEST (R146). -/
def State.decideWalkTest (z : Nat) (s : State) : State × Decision :=
  if zoneOk z = false then (s, .refused .badField .none)
  else if s.phase ≠ .dark then (s, .refused .wrongPhase .none)
  else if s.fireQuiet = false then (s, .refused .alarmActive .none)
  else if s.fdu.fire.walk.isSome ∨ s.fdu.isolated z then (s, .refused .wrongState .none)
  else
    ({ s with fdu := s.fdu.setFire { s.fdu.fire with walk := some { zone := z, started := s.now, count := 0 } } },
      .done .empty)

/-- WALK-TEST-END (R146). -/
def State.decideWalkTestEnd (s : State) : State × Decision :=
  match s.fdu.fire.walk with
  | none => (s, .refused .wrongState .none)
  | some w =>
    ({ s with fdu := s.fdu.setFire { s.fdu.fire with walk := none } }.notify (.walkEnded w.zone w.count .request),
      .done .empty)

/-- FIRE-READ (R148). -/
def State.readFire (s : State) : FireReading :=
  { record := s.fdu.fire, remaining := remainingTo s.now s.fdu.fire.timer,
    zones := fireZones.map fun z =>
      { cls := (s.settings.zone z).cls, delay := (s.settings.zone z).delay, status := s.fdu.zoneStatus z,
        expiry := s.fdu.expiry z, remaining := (remainingTo s.now (s.fdu.expiry z)).map (· / 1000) },
    isolated := s.fdu.isolatedCount, driven := List.replicate 4 s.fdu.fire.sounding, faults := s.fdu.sounderFaults,
    times := s.settings.fireTimes }

/-- The reply is formed first; then, if asked for, the fault of each circuit whose channel is NORMAL is cleared (R148). -/
def State.decideFireRead (clear : Bool) (s : State) : State × Decision :=
  let faults := s.fdu.sounderFaults.mapIdx fun i b => b && !(clear && s.lmu.limitState (i + 2) = .normal)
  ({ s with fdu := { s.fdu with sounderFaults := faults } }, .done (.fire s.readFire))

/-- The cause of FULL that a timer of the staff alert gives (R138). -/
def timerCause : FireState → Option FullCause
  | .staffAlert .awaitingAck => some .ackExpired
  | .staffAlert .investigating => some .investigationExpired
  | .quiet | .full => none

/-- The acknowledge or investigation timer has run out (R138). -/
def State.fireTimerEnd (s : State) : State :=
  match timerCause s.fdu.fire.state with
  | some c => s.enterFull c
  | none => s

/-! ## Meanings -/

def execZoneIsolate (zone seconds : Nat) (s : State) : Answer :=
  .next <| s.answer .zoneIsolate true (State.decideIsolate zone seconds)

def execZoneRestore (zone : Nat) (s : State) : Answer := .next <| s.answer .zoneRestore true (State.decideZoneRestore zone)

/-- R133.
DESIGN CHOICE: its order against a slot that ends at the same moment (log 72). -/
def execIsolationExpiry (zone : Nat) (s : State) : Answer :=
  .next <| s.event (zoneOk zone && dueAt s.now (s.fdu.expiry zone)) (State.endIsolation zone)

/-- R138.
DESIGN CHOICE: its order against a slot that ends at the same moment (log 72). -/
def execFireTimerExpiry (s : State) : Answer :=
  .next <| s.event (dueAt s.now s.fdu.fire.timer && (timerCause s.fdu.fire.state).isSome) State.fireTimerEnd

def execFireAck (s : State) : Answer := .next <| s.answer .fireAck true State.decideFireAck

def execFireFull (s : State) : Answer := .next <| s.answer .fireFull true State.decideFireFull

def execFireSilence (s : State) : Answer := .next <| s.answer .fireSilence true State.decideFireSilence

def execFireReset (s : State) : Answer := .next <| s.answer .fireReset true State.decideFireReset

def execWalkTest (zone : Nat) (s : State) : Answer := .next <| s.answer .walkTest true (State.decideWalkTest zone)

def execWalkTestEnd (s : State) : Answer := .next <| s.answer .walkTestEnd true State.decideWalkTestEnd

def execFireRead (clearFault : Bool) (s : State) : Answer :=
  .next <| s.answer .fireRead true (State.decideFireRead clearFault)

end Sys2Proof.Machine
end

