-- ==== Sys2Proof/Machine/Phases.lean ====
section
/-!
DEFINITION. The meanings of the phase requests (chapter 1).
-/

namespace Sys2Proof.Machine

/-- The table and the running copy of a newly armed plan (R6, R36, R40). -/
def Pfu.arm (letter : PlanLetter) (c : RunningCopy) (now : Nat) (f : Pfu) : Pfu :=
  { f with perf := f.perf.arm letter c.header.acts now, runningCopy := some c,
           table := List.replicate c.steps.length .pending, expirySent := false }

/-- The conditions of ARM on a sector (R6, R36): the copy of an armable plan, or the reason, and whether the sector is marked
BAD. -/
inductive ArmCheck where
  | ready (copy : RunningCopy)
  | refused (reason : Reason)
  | spoiled
  deriving DecidableEq, Repr

def PlanSector.armCheck (p : PlanSector) : ArmCheck :=
  match p.state with
  | .empty => .refused .noPlan
  | .opened | .bad => .refused .planBad
  | .sealed => match p.runningCopy with
    | some c => .ready c
    | none => .spoiled

/-- ARM (R6). -/
def State.decideArm (letter : Option PlanLetter) (s : State) : State × Decision :=
  match letter with
  | none => (s, .refused .badField .none)
  | some l =>
    if s.phase ≠ .dark then (s, .refused .wrongPhase .none)
    else if s.fireFull then (s, .refused .alarmActive .none)
    else if s.store.busy then (s, .refused .busy .none)
    else if s.fdu.fire.walk.isSome then (s, .refused .wrongState .none)
    else
      match (s.store.sector l).armCheck with
      | .refused r => (s, .refused r .none)
      | .spoiled =>
        ({ s with store := s.store.setSector l { s.store.sector l with state := .bad } }, .refused .planBad .none)
      | .ready c =>
        let s := s.changePhase (.request .arm .link) fun f => (f.arm l c s.now, [])
        (s, .done s.phaseBody)

/-- OPEN-HOUSE (R7). -/
def State.decideOpenHouse (src : Source) (s : State) : State × Decision :=
  if s.phase = .prepare then
    let s := s.changePhase (.request .openHouse src) fun f => (f.setPerf (f.perf.openHouse s.now), [])
    (s, .done s.phaseBody)
  else (s, .refused .wrongPhase .none)

/-- The phases in which BEGIN is taken (R8). -/
def beginPhase : Phase → Bool
  | .houseOpen | .interval | .resuming => true
  | .dark | .prepare | .running | .stopped | .evacuate | .closed => false

/-- The first check of R8 that fails. -/
def State.beginRefusal (s : State) : Option Reason :=
  if beginPhase s.phase = false then some .wrongPhase
  else if s.ctc.state ≠ .up then some .wrongState
  else if s.pfu.perf.proven = false then some .notProven
  else if s.fireQuiet = false then some .alarmActive
  else if s.lmu.limitState 6 ≠ .normal then some .notReady
  else none

/-- The anchor instance that ends when BEGIN leaves a phase (R3, R41). -/
def Pfu.begin (now : Nat) (f : Pfu) : Pfu × List NoticeBody :=
  match f.perf.phase with
  | .houseOpen | .interval =>
    match f.perf.instanceClock with
    | some c =>
      let r := f.skipInstance c
      (r.1.setPerf (f.perf.begin now), r.2)
    | none => (f.setPerf (f.perf.begin now), [])
  | .dark | .prepare | .running | .resuming | .stopped | .evacuate | .closed => (f.setPerf (f.perf.begin now), [])

/-- BEGIN (R8). -/
def State.decideBegin (src : Source) (s : State) : State × Decision :=
  match s.beginRefusal with
  | some r => (s, .refused r .none)
  | none =>
    let s := s.changePhase (.request .begin src) (Pfu.begin s.now)
    (s, .done s.phaseBody)

/-- The length of interval n in the running copy (R9). -/
def Pfu.intervalLength (n : Nat) (f : Pfu) : Nat :=
  match f.runningCopy with
  | some c => headerInterval c.header n
  | none => 0

/-- INTERVAL's change of the record (R9). -/
def Pfu.interval (now : Nat) (f : Pfu) : Pfu × List NoticeBody :=
  let r := f.skipInstance (actClock f.perf.act)
  ({ r.1.setPerf (f.perf.interval (f.intervalLength f.perf.act) now) with expirySent := false }, r.2)

/-- INTERVAL (R9). -/
def State.decideInterval (src : Source) (s : State) : State × Decision :=
  if s.phase = .running ∧ s.pfu.perf.act < s.pfu.perf.acts then
    let s := s.changePhase (.request .interval src) (Pfu.interval s.now)
    (s, .done s.phaseBody)
  else (s, .refused .wrongPhase .none)

/-- The anchor instance that END ends (R3, R10). -/
def Perf.endedClock (p : Perf) : Option ClockId :=
  match p.phase with
  | .stopped => p.suspendedClock
  | .dark | .prepare | .houseOpen | .running | .interval | .resuming | .evacuate | .closed => some (actClock p.act)

/-- END's change of the record, with the steps of the ended instance and those never reached skipped (R10, R41).
DESIGN CHOICE: of the two STEP notices the one of the ended instance comes first (log 61). -/
def Pfu.endShow (now : Nat) (f : Pfu) : Pfu × List NoticeBody :=
  let r := match f.perf.endedClock with
    | some c => f.skipInstance c
    | none => (f, [])
  let q := (r.1.setPerf (f.perf.endShow now)).skipNeverReached
  (q.1, r.2 ++ q.2)

/-- END (R10). -/
def State.decideEnd (src : Source) (s : State) : State × Decision :=
  if s.phase = .stopped ∨ (s.phase = .running ∧ s.pfu.perf.act = s.pfu.perf.acts) then
    let s := s.changePhase (.request .endShow src) (Pfu.endShow s.now)
    (s, .done s.phaseBody)
  else (s, .refused .wrongPhase .none)

/-- RESUME (R13). -/
def State.decideResume (src : Source) (s : State) : State × Decision :=
  if s.phase ≠ .stopped then (s, .refused .wrongPhase .none)
  else if s.fireQuiet = false then (s, .refused .alarmActive .none)
  else
    let s := s.changePhase (.request .resume src) fun f => (f.setPerf (f.perf.doResume s.now), [])
    (s, .done s.phaseBody)

/-- CLOSE's change of the record (R17, R41). -/
def Pfu.close (now : Nat) (f : Pfu) : Pfu × List NoticeBody := (f.setPerf (f.perf.close now)).skipNeverReached

/-- CLOSE (R17). -/
def State.decideClose (s : State) : State × Decision :=
  if s.phase ≠ .evacuate then (s, .refused .wrongPhase .none)
  else if s.fireQuiet = false then (s, .refused .alarmActive .none)
  else
    let s := s.changePhase (.request .close .link) (Pfu.close s.now)
    (s, .done s.phaseBody)

/-- DISARM's change of the record (R18): the CLOSED instance ends where CLOSED is left, and the running copy is discarded
(R3, R36, R41).
DESIGN CHOICE: the PENDING steps of the CLOSED instance become SKIPPED, with their STEP notice, and the rest of the table stands
(log 60). -/
def Pfu.disarm (now : Nat) (f : Pfu) : Pfu × List NoticeBody :=
  let r := if f.perf.phase = .closed then f.skipInstance .closed else (f, [])
  ({ r.1.setPerf (f.perf.disarm now) with runningCopy := none }, r.2)

/-- DISARM (R18). -/
def State.decideDisarm (s : State) : State × Decision :=
  if s.phase = .prepare ∨ s.phase = .closed then
    let s := s.changePhase (.request .disarm .link) (Pfu.disarm s.now)
    (s, .done s.phaseBody)
  else (s, .refused .wrongPhase .none)

/-- PERFORMANCE-READ (R22). -/
def State.readPerformance (s : State) : PerfReading :=
  let p := s.pfu.perf
  { perf := p, remaining := if p.phase = .interval ∨ p.resume = some .interval then some p.remaining else none }

/-! ## Meanings -/

def execArm (letter : Option PlanLetter) (s : State) : Answer := .next <| s.answer .arm true (State.decideArm letter)

def execOpenHouse (s : State) : Answer := .next <| s.answer .openHouse true (State.decideOpenHouse .link)

def execBegin (s : State) : Answer := .next <| s.answer .begin true (State.decideBegin .link)

def execInterval (s : State) : Answer := .next <| s.answer .interval true (State.decideInterval .link)

def execEndShow (s : State) : Answer := .next <| s.answer .endShow true (State.decideEnd .link)

def execShowStop (s : State) : Answer := .next <| s.answer .showStop true (State.decideShowStop .link)

def execResume (s : State) : Answer := .next <| s.answer .resume true (State.decideResume .link)

def execEvacuate (s : State) : Answer := .next <| s.answer .evacuate true (State.decideEvacuate .link)

def execClose (s : State) : Answer := .next <| s.answer .close true State.decideClose

def execDisarm (s : State) : Answer := .next <| s.answer .disarm true State.decideDisarm

def execPerformanceRead (s : State) : Answer :=
  .next <| s.answer .performanceRead true fun s => (s, .done (.performance s.readPerformance))

end Sys2Proof.Machine
end

