-- ==== Sys2Proof/Machine/Desk.lean ====
section
/-!
DEFINITION. The meanings of the desk scanner's events and of DESK-READ (chapter 10), with the requests its keys fire.
-/

namespace Sys2Proof.Machine

/-- The request a key action issues as source DESK, decided by its owner (TABLE LXIII, R187). -/
def State.deskRequest (a : KeyAction) (s : State) : State × Decision :=
  match a with
  | .phase .openHouse => s.decideOpenHouse .desk
  | .phase .begin => s.decideBegin .desk
  | .phase .interval => s.decideInterval .desk
  | .phase .endShow => s.decideEnd .desk
  | .phase .resume => s.decideResume .desk
  | .showStop => s.decideShowStop .desk
  | .evacuate => s.decideEvacuate .desk
  | .fireFull => s.decideFireFull
  | .call n => s.decideCallTemplate .desk n
  | .curtainLower => s.decideLower
  | .curtainRaise => s.decideRaise
  | .curtainHalt => s.decideHalt
  | .lightsGo p => s.decideGo p s.settings.deskFade
  | .houseFull => s.decideHouseFull
  | .fireAck => s.decideFireAck
  | .fireSilence => s.decideFireSilence
  | .none => (s, .done .empty)

/-- A refusal returns to DSU (R188). -/
def State.deskRefused (k : Nat) (kind : RequestKind) (r : Reason) (s : State) : State :=
  { s with dsu := s.dsu.refuse s.now }.notify (.keyRefused k kind r)

/-- The request of a firing, with its refusal (R187, R188). -/
def State.issueKey (k : Nat) (a : KeyAction) (s : State) : State :=
  match keyRequest a with
  | none => s
  | some kind =>
    let r := s.deskRequest a
    match r.2 with
    | .refused reason _ => r.1.deskRefused k kind reason
    | .done _ | .later => r.1

/-- A key fires (R187). -/
def State.fireKey (k : Nat) (s : State) : State :=
  let b := s.settings.key k
  match s.settings.desk.mode with
  | .act => s.issueKey k b.action
  | .report => s.notify (.key k b .report)
  | .both => (s.notify (.key k b .both)).issueKey k b.action

/-- An operation of DSU, with the key it fires. -/
def State.withDsu (o : DsuOut) (s : State) : State :=
  let s := { s with dsu := o.dsu }.notifyAll o.notes
  match o.fires with
  | some k => s.fireKey k
  | none => s

/-- A value that differs from the one in force in the scan in progress is pending (R183).
DESIGN CHOICE (log 32). -/
def pendingValue {α : Type} [DecidableEq α] (inScan configured : α) : Option α :=
  if configured = inScan then none else some configured

/-- DESK-READ (R190). -/
def State.readDesk (s : State) : DeskReading :=
  let d := s.dsu
  { key := d.key, down := d.down, debounceLeft := remainingTo s.now d.key.debounceTimer,
    longLeft := remainingTo s.now d.key.longTimer, order := d.order, dwell := d.dwell, debounce := s.settings.desk.debounce,
    pendingOrder := pendingValue d.order s.settings.desk.order, pendingDwell := pendingValue d.dwell s.settings.desk.dwell,
    mode := s.settings.desk.mode, refused := d.refusedUntil.isSome, refusedLeft := remainingTo s.now d.refusedUntil,
    lamps := s.settings.lamps.map fun b => { binding := b, condition := s.condition b.condition, lit := s.lit b } }

/-! ## Meanings -/

/-- R183, R184. -/
def execColumnRead (rows : Rows) (s : State) : Answer :=
  .next <| s.event (s.dsu.columnDue ≤ s.now) fun s => s.withDsu (s.dsu.readColumn s.now s.settings rows)

/-- R184, R185. -/
def execDebounceExpiry (s : State) : Answer :=
  .next <| s.event (dueAt s.now s.dsu.key.debounceTimer) fun s => s.withDsu (s.dsu.debounceEnd s.now s.settings)

/-- R185. -/
def execLongTimerExpiry (s : State) : Answer :=
  .next <| s.event (dueAt s.now s.dsu.key.longTimer) fun s => s.withDsu s.dsu.longEnd

/-- R188. -/
def execRefusedIndicationExpiry (s : State) : Answer :=
  .next <| s.event (dueAt s.now s.dsu.refusedUntil) fun s => { s with dsu := { s.dsu with refusedUntil := none } }

/-- R189. -/
def execFlashHalfPeriod (s : State) : Answer :=
  .next <| s.event (s.dsu.flashDue ≤ s.now) fun s => { s with dsu := s.dsu.flash }

def execDeskRead (s : State) : Answer := .next <| s.answer .deskRead true fun s => (s, .done (.desk s.readDesk))

end Sys2Proof.Machine
end

