-- ==== Sys2Proof/Machine/Lighting.lean ====
section
/-!
DEFINITION. The meanings of the lighting requests and of the evaluation of a fade (chapter 5).
-/

namespace Sys2Proof.Machine

/-- PRESET-WRITE (R91). -/
def State.decidePresetWrite (preset : Nat) (levels : List Nat) (s : State) : State × Decision :=
  if 15 ≤ preset then (s, .refused .badField .none)
  else if s.phase = .evacuate then (s, .refused .wrongPhase .none)
  else
    let stored := levels.map (min 1000)
    ({ s with settings := { s.settings with presets := s.settings.presets.set preset stored } }, .done (.levels stored))

/-- LIGHTS-RESTORE (R105). -/
def State.decideRestore (s : State) : State × Decision :=
  if s.forced then (s, .refused .overridden .none)
  else
    (State.regate { s with hlu := { s.hlu with emergencyDemand := false } }, .done (.restored s.hlu.emergencyDemand))

/-- A channel as LIGHTS-READ gives it (R107). -/
def State.readChannel (s : State) (i : Nat) : ChannelReading :=
  let c := s.settings.channel i
  let r := s.hlu.channel i
  let output := outputLevel s.phase c r.active
  { cls := c.cls, hold := c.hold, trim := c.trim, curve := c.curve, active := r.active, output, code := outputCode c output,
    fade := r.fade.map (Fade.reading s.now) }

/-- LIGHTS-READ (R107). -/
def State.readLights (s : State) : LightsReading :=
  { channels := (List.range 12).map s.readChannel, emergencyDemand := s.hlu.emergencyDemand, relay := s.ilu.relay.line,
    override := s.override, supplyFault := s.hlu.supplyFault }

/-- The reply is formed first; then the fault is cleared if asked for and channel 6 is NORMAL (R107). -/
def State.decideLightsRead (clear : Bool) (s : State) : State × Decision :=
  let fault := s.hlu.supplyFault && !(clear && s.lmu.limitState 6 = .normal)
  ({ s with hlu := { s.hlu with supplyFault := fault } }, .done (.lights s.readLights))

/-! ## Meanings -/

def execPresetWrite (preset : Nat) (levels : List Nat) (s : State) : Answer :=
  .next <| s.answer .presetWrite (levels.length == 12) (State.decidePresetWrite preset levels)

def execLightsGo (preset fade : Nat) (s : State) : Answer := .next <| s.answer .lightsGo true (State.decideGo preset fade)

def execHouseFull (s : State) : Answer := .next <| s.answer .houseFull true State.decideHouseFull

def execLightsRestore (s : State) : Answer := .next <| s.answer .lightsRestore true State.decideRestore

def execLightsRead (clearFault : Bool) (s : State) : Answer :=
  .next <| s.answer .lightsRead true (State.decideLightsRead clearFault)

/-- R93. -/
def execFadeEvaluation (channel : Nat) (s : State) : Answer :=
  .next <| s.event ((s.hlu.channel channel).evalDue s.now) fun s => { s with hlu := s.hlu.evaluate channel }

end Sys2Proof.Machine
end

