-- ==== Sys2Proof/Machine/Lines.lean ====
section
/-!
DEFINITION. The meanings of the interlock and line-monitor commands (chapter 9).
-/

namespace Sys2Proof.Machine

/-- A change of a channel's limit state is delivered to its owners (R181). -/
def State.deliver (channel : Nat) (st : LimitState) (s : State) : State :=
  match channel with
  | 0 =>
    if st = .high ∧ s.ctc.state = .raising then s.withCtc fun e c => c.raiseDenied e else s.regate
  | 1 => if st = .low then s.withCtc fun e c => c.arise e .retarder else s
  | 2 => s.putFdu (s.fdu.sounderChannel 1 st)
  | 3 => s.putFdu (s.fdu.sounderChannel 2 st)
  | 4 => s.putFdu (s.fdu.sounderChannel 3 st)
  | 5 => s.putFdu (s.fdu.sounderChannel 4 st)
  | 6 => if st = .low then { s with hlu := { s.hlu with supplyFault := true } } else s
  | 7 => if st = .low then s.playEvent (Clu.amplifierLow s.now) else s
  | _ => s

/-- A conversion completes (R179 to R181). -/
def State.convert (code : Nat) (s : State) : State :=
  let n := s.lmu.nextChannel
  let left := s.lmu.limitState n
  let s := { s with lmu := s.lmu.convert s.now s.settings (code % 1024) }
  let c := s.lmu.channel n
  if c.state = left then s
  else (s.notify (.sample n left c.state (c.filtered.getD 0))).deliver n c.state

/-! ## Meanings -/

/-- R178. -/
def execInterlockRead (s : State) : Answer :=
  .next <| s.answer .interlockRead true fun s => (s, .done (.interlocks s.ilu))

/-- R179 to R181. -/
def execLineConversion (code : Nat) (s : State) : Answer :=
  .next <| s.event (s.lmu.nextDue ≤ s.now) (State.convert code)

/-- R182. -/
def execSampleRead (s : State) : Answer :=
  .next <| s.answer .sampleRead true fun s =>
    (s, .done (.samples ((List.range 8).map fun n => (s.lmu.channel n).reading (s.settings.limit n))))

end Sys2Proof.Machine
end

