-- ==== Sys2Proof/Machine/Configuration.lean ====
section
/-!
DEFINITION. CONFIG-SET and CONFIG-GET: the items of TABLE LXVII, the owners' checks of their values, and what an accepted
change brings (R47, R88 to R90, R96, R98, R109, R114, R130, R136, R137, R141, R151, R152, R180, R183, R186, R187, R189, R198).
-/

namespace Sys2Proof.Machine

/-- The item a CONFIG-SET names. -/
def configItem : ConfigWrite → ConfigItem
  | .curtain _ => .curtain
  | .channel i _ => .channel i
  | .preset i _ => .preset i
  | .lightTimes _ => .lightTimes
  | .device i _ => .device i
  | .scanList _ => .scanList
  | .zone i _ => .zone i
  | .fireTimes _ => .fireTimes
  | .template i _ => .template i
  | .bell i _ => .bell i
  | .stopTemplate _ => .stopTemplate
  | .limits i _ => .limits i
  | .desk _ => .desk
  | .keyBinding i _ => .keyBinding i
  | .lampBinding i _ => .lampBinding i
  | .deskFade _ => .deskFade
  | .unknown code => .unknown code

/-- The item is known and its index lies in its range (TABLE LXVII). -/
def itemOk : ConfigItem → Bool
  | .curtain | .lightTimes | .scanList | .fireTimes | .stopTemplate | .desk | .deskFade => true
  | .channel i => i ≤ 11
  | .preset i => i ≤ 14
  | .device i => 1 ≤ i && i ≤ 64
  | .zone i => 1 ≤ i && i ≤ 16
  | .template i => i ≤ 15
  | .bell i => 1 ≤ i && i ≤ 7
  | .limits i => i ≤ 7
  | .keyBinding i => i ≤ 47
  | .lampBinding i => i ≤ 7
  | .unknown _ => false

/-- The item is taken in the phase (TABLE LXVII). -/
def itemTaken (phase : Phase) : ConfigItem → Bool
  | .preset _ | .template _ | .bell _ | .lampBinding _ | .deskFade => editPhase phase
  | .curtain | .channel _ | .lightTimes | .device _ | .scanList | .zone _ | .fireTimes | .stopTemplate | .limits _ | .desk
  | .keyBinding _ | .unknown _ => phase = .dark

/-! ## The owners' checks -/

/-- A value lies in a range. -/
def within (lo hi n : Nat) : Bool := lo ≤ n && n ≤ hi

/-- TABLE XXIII and the speeds (R47): the slow speed carried lies below the main speed carried and the one in force.
DEDUCED (log 36). -/
def curtainOk (q old : CurtainParams) : Bool :=
  within 2000 15000 q.travel && within 50 2000 q.counts && within 300 2000 q.slowZone && within 100 1000 q.ramp &&
    within 200 800 q.mainSpeed && within 50 300 q.slowSpeed && decide (q.slowSpeed < q.mainSpeed) &&
    decide (q.slowSpeed < old.mainSpeed) && within 1 64 q.gain && within 0 1000 q.release && within 100 400 q.maxDrop &&
    within 30 240 q.raiseLimit && within 0 15 q.warning && within 2 10 q.hold

/-- A template number, or 255 for none. -/
def templateNumberOk (n : Nat) : Bool := n ≤ 15 || n == 255

/-- The channel record a CONFIG-SET gives (R88): a floor set on a channel whose class is not AISLE is refused, and a floor
not set is kept.
DESIGN CHOICE: a CONFIG-SET may leave the floor out (log 45). -/
def channelValue (v : ChannelWrite) (old : ChannelConfig) : Option ChannelConfig :=
  match v.cls, v.curve, v.floor with
  | some cls, some curve, none =>
    if v.trim ≤ 31 then some { cls, trim := v.trim, curve, hold := v.hold, floor := old.floor } else none
  | some cls, some curve, some f =>
    if v.trim ≤ 31 ∧ f ≤ 500 ∧ cls = .aisle then some { cls, trim := v.trim, curve, hold := v.hold, floor := f } else none
  | _, _, _ => none

/-- The device table entry a CONFIG-SET gives (R109): its alarm threshold lies below neither the pre-alarm threshold it carries
nor the one in force.
DEDUCED (log 36). -/
def deviceValue (v : DeviceWrite) (old : DeviceConfig) : Option DeviceConfig :=
  match v.type with
  | some type =>
    if within 1 16 v.zone ∧ v.preAlarm ≤ 255 ∧ v.alarm ≤ 255 ∧ v.preAlarm ≤ v.alarm ∧ old.preAlarm ≤ v.alarm then
      some { type, zone := v.zone, preAlarm := v.preAlarm, alarm := v.alarm, enabled := v.enabled }
    else none
  | none => none

/-- R114. -/
def scanListOk (l : List Nat) : Bool := l.length ≤ 64 && l.all (within 1 64) && decide l.Nodup

/-- R136, R137, R141. -/
def fireTimesOk (v : FireTimes) : Bool :=
  within 10 120 v.acknowledge && within 60 300 v.investigation && templateNumberOk v.staffTemplate &&
    templateNumberOk v.evacTemplate

/-- R152. -/
def bellOk (p : BellPattern) : Bool := within 1 8 p.length && p.all fun s => within 1 40 s.1 && within 1 40 s.2

/-- R180: the low limit carried lies above neither the high limit carried nor the one in force.
DEDUCED (log 36). -/
def limitsOk (l old : Limits) : Bool := l.low ≤ 1023 && l.high ≤ 1023 && l.low ≤ l.high && l.low ≤ old.high

/-- The desk item a CONFIG-SET gives (R183, R187). -/
def deskValue (v : DeskWrite) : Option DeskSettings :=
  match v.mode with
  | some mode =>
    if within 1 8 v.order.length ∧ v.order.all (within 0 7) ∧ v.order.Nodup ∧ within 1 4 v.dwell ∧ within 1 64 v.debounce then
      some { order := v.order, dwell := v.dwell, debounce := v.debounce, mode }
    else none
  | none => none

/-- The argument of a key action lies in its range, and a key that stops, evacuates or raises the alarm is long (R186). -/
def keyOk (a : KeyAction) (long : Bool) : Bool :=
  match a with
  | .showStop | .evacuate | .fireFull => long
  | .call n | .lightsGo n => n ≤ 15
  | .phase _ | .curtainLower | .curtainRaise | .curtainHalt | .houseFull | .fireAck | .fireSilence | .none => true

/-! ## Accepted changes -/

/-- The outcome of an owner's checks: refused, or the state after the change. -/
inductive OwnerResult where
  | refused (reason : Reason)
  | accepted (s : State)
  deriving DecidableEq, Repr

/-- The configuration in force changes. -/
def State.configure (c : Settings) (s : State) : State := { s with settings := c }

/-- A check of a value, then the change. -/
def ownerCheck (ok : Bool) (s : State) : OwnerResult := if ok then .accepted s else .refused .badField

/-- A value that may fail its checks, then the change. -/
def ownerValue {α : Type} (v : Option α) (f : α → State) : OwnerResult :=
  match v with
  | some a => .accepted (f a)
  | none => .refused .badField

/-- The device table entry of an address changes, and its record starts afresh (R109). -/
def State.setDevice (a : Nat) (d : DeviceConfig) (s : State) : State :=
  let c := { s.settings with devices := s.settings.devices.set (a - 1) d }
  (s.configure c).putFdu (s.fdu.reconfigure c a)

/-- The owning block's checks and change (R198). -/
def State.ownerSet (w : ConfigWrite) (s : State) : OwnerResult :=
  let c := s.settings
  match w with
  | .curtain v => ownerCheck (curtainOk v c.curtain) (s.configure { c with curtain := v })
  | .channel i v =>
    ownerValue (channelValue v (c.channel i)) fun r => s.configure { c with channels := c.channels.set i r }
  | .preset i levels => .accepted (s.configure { c with presets := c.presets.set i (levels.map (min 1000)) })
  | .lightTimes v => ownerCheck (v.stopFade ≤ 100 && v.houseFull ≤ 600) (s.configure { c with lightTimes := v })
  | .device a v =>
    match deviceValue v (c.device a) with
    | none => .refused .badField
    | some d => if (s.fdu.device a).state = .alarm then .refused .alarmActive else .accepted (s.setDevice a d)
  | .scanList l =>
    ownerCheck (scanListOk l) { s.configure { c with scanList := l } with fdu := { s.fdu with scanPtr := 0 } }
  | .zone z v =>
    match v.cls with
    | none => .refused .badField
    | some cls =>
      if s.fdu.isolated z ∧ cls ≠ (c.zone z).cls then .refused .wrongState
      else .accepted (s.configure { c with zones := c.zones.set (z - 1) { cls, delay := v.delay } })
  | .fireTimes v => ownerCheck (fireTimesOk v) (s.configure { c with fireTimes := v })
  | .template n b => ownerValue (checkedBody b) fun t => s.configure (Settings.putTemplate n t c)
  | .bell n p => ownerCheck (bellOk p) (s.configure { c with bells := c.bells.set (n - 1) p })
  | .stopTemplate n => ownerCheck (templateNumberOk n) (s.configure { c with stopTemplate := n })
  | .limits n l =>
    ownerCheck (limitsOk l (c.limit n)) { s.configure { c with limits := c.limits.set n l } with lmu := s.lmu.limitsChanged n }
  | .desk v => ownerValue (deskValue v) fun d => s.configure { c with desk := d }
  | .keyBinding k v =>
    match v.action with
    | none => .refused .badField
    | some a => ownerCheck (keyOk a v.long) (s.configure { c with keys := c.keys.set k { action := a, long := v.long } })
  | .lampBinding n v =>
    ownerValue v.condition fun l => s.configure { c with lamps := c.lamps.set n { condition := l, flashing := v.flashing } }
  | .deskFade n => .accepted (s.configure { c with deskFade := min 6000 n })
  | .unknown _ => .refused .badField

/-! ## Values in force -/

/-- The code of a call class (TABLE LXXI). -/
def classCode : CallClass → Nat
  | .evac => 0
  | .alert => 1
  | .showClass => 2
  | .houseClass => 3

/-- A template as a call body (TABLE LXXI). -/
def templateBody (t : Template) : CallBody :=
  { cls := classCode t.cls, slot := t.slot.getD 255, zones := t.zones, bell := t.bell, repeats := t.repeats, gap := t.gap }

/-- The value of an item in force, as CONFIG-GET and an accepted CONFIG-SET give it (R198). -/
def Settings.value (c : Settings) : ConfigItem → ConfigWrite
  | .curtain => .curtain c.curtain
  | .channel i =>
    let r := c.channel i
    .channel i { cls := some r.cls, trim := r.trim, curve := some r.curve, hold := r.hold, floor := some r.floor }
  | .preset i => .preset i (c.presets.getD i [])
  | .lightTimes => .lightTimes c.lightTimes
  | .device a =>
    let d := c.device a
    .device a { type := some d.type, zone := d.zone, preAlarm := d.preAlarm, alarm := d.alarm, enabled := d.enabled }
  | .scanList => .scanList c.scanList
  | .zone z => .zone z { cls := some (c.zone z).cls, delay := (c.zone z).delay }
  | .fireTimes => .fireTimes c.fireTimes
  | .template n => .template n (templateBody (c.template n))
  | .bell n => .bell n (c.bell n)
  | .stopTemplate => .stopTemplate c.stopTemplate
  | .limits n => .limits n (c.limit n)
  | .desk => .desk { order := c.desk.order, dwell := c.desk.dwell, debounce := c.desk.debounce, mode := some c.desk.mode }
  | .keyBinding k => .keyBinding k { action := some (c.key k).action, long := (c.key k).long }
  | .lampBinding n =>
    let b := c.lamps.getD n LampBinding.defaults
    .lampBinding n { condition := some b.condition, flashing := b.flashing }
  | .deskFade => .deskFade c.deskFade
  | .unknown code => .unknown code

/-- CONFIG-SET (R198). -/
def State.decideConfigSet (w : ConfigWrite) (s : State) : State × Decision :=
  let item := configItem w
  if itemOk item = false then (s, .refused .badField .none)
  else if itemTaken s.phase item = false then (s, .refused .wrongPhase .none)
  else
    match s.ownerSet w with
    | .refused r => (s, .refused r .none)
    | .accepted s => (s, .done (.config (Settings.value s.settings item)))

/-- CONFIG-GET (R198). -/
def State.decideConfigGet (item : ConfigItem) (s : State) : State × Decision :=
  if itemOk item then (s, .done (.config (Settings.value s.settings item))) else (s, .refused .badField .none)

/-- The body of a CONFIG-SET suits its kind: a preset carries twelve levels. -/
def configFits : ConfigWrite → Bool
  | .preset _ levels => levels.length == 12
  | .curtain _ | .channel .. | .lightTimes _ | .device .. | .scanList _ | .zone .. | .fireTimes _ | .template .. | .bell ..
  | .stopTemplate _ | .limits .. | .desk _ | .keyBinding .. | .lampBinding .. | .deskFade _ | .unknown _ => true

/-! ## Meanings -/

def execConfigSet (write : ConfigWrite) (s : State) : Answer :=
  .next <| s.answer .configSet (configFits write) (State.decideConfigSet write)

def execConfigGet (item : ConfigItem) (s : State) : Answer :=
  .next <| s.answer .configGet true (State.decideConfigGet item)

end Sys2Proof.Machine
end

