-- ==== Sys2Proof/Machine/Plans.lean ====
section
/-!
DEFINITION. The meanings of the store requests and of the plan runner's requests and events (chapter 2).
-/

namespace Sys2Proof.Machine

/-- A store request starts its operation; its outcome is given when the operation ends (R24). -/
def State.startOperation (op : StoreOp) (s : State) : State × Decision :=
  ({ s with store := { s.store with inFlight := some { op, started := s.now } } }, .later)

/-- An operation in flight gives BUSY, then a locked sector LOCKED (R25, R29, R32, R33, R34). -/
def State.storeRefusal (l : PlanLetter) (s : State) : Option Reason :=
  if s.store.busy then some .busy else if s.pfu.perf.locks l then some .locked else none

/-- PLAN-OPEN (R27, R29): the sector's contents are discarded at acceptance.
DEDUCED (log 30). -/
def State.decidePlanOpen (letter : Option PlanLetter) (h : PlanHeader) (s : State) : State × Decision :=
  match letter, headerFirstBad h with
  | none, _ => (s, .refused .badField .none)
  | some _, some f => (s, .refused .badField (.headerField f))
  | some l, none =>
    match s.storeRefusal l with
    | some r => (s, .refused r .none)
    | none =>
      State.startOperation (.openPlan l (headerStored h))
        { s with store := s.store.setSector l { PlanSector.erased with state := (s.store.sector l).state } }

/-- A slot range of R32: first index, count and their sum. -/
def slotRangeOk (first count : Nat) : Bool := first ≤ 47 && 1 ≤ count && count ≤ 6 && first + count ≤ 48

/-- The acts against which the steps of a PUT are checked: those of the sector's header (R31). A sector without a header
names no act to check against, and the PUT is then refused by its state.
DESIGN CHOICE: four acts, the most a header can have (log 58). -/
def PlanSector.acts (p : PlanSector) : Nat :=
  match p.header with
  | some h => h.acts
  | none => 4

/-- PLAN-PUT (R32). A failing step is named by its step index, which is its slot number (2.3.1). -/
def State.decidePlanPut (letter : Option PlanLetter) (first count : Nat) (rs : List StepRecord) (s : State) :
    State × Decision :=
  match letter with
  | none => (s, .refused .badField .none)
  | some l =>
    if slotRangeOk first count = false then (s, .refused .badField .none)
    else
      match firstBadRecord (s.store.sector l).acts rs with
      | some i => (s, .refused .badField (.index (first + i)))
      | none =>
        match s.storeRefusal l with
        | some r => (s, .refused r .none)
        | none =>
          if (s.store.sector l).state ≠ .opened then (s, .refused .wrongState .none)
          else
            match (s.store.sector l).firstUsed first count with
            | some i => (s, .refused .wrongState (.index i))
            | none => s.startOperation (.put l first (rs.map recordStored))

/-- PLAN-SEAL (R33). -/
def State.decidePlanSeal (letter : Option PlanLetter) (count : Nat) (s : State) : State × Decision :=
  match letter with
  | none => (s, .refused .badField .none)
  | some l =>
    if 48 < count then (s, .refused .badField .none)
    else
      match s.storeRefusal l with
      | some r => (s, .refused r .none)
      | none =>
        if (s.store.sector l).state ≠ .opened then (s, .refused .wrongState .none)
        else
          match (s.store.sector l).sealBreak count with
          | some i => (s, .refused .wrongState (.index i))
          | none => s.startOperation (.seal l count (((s.store.sector l).freshCheck count).getD 0))

/-- PLAN-ERASE (R34). -/
def State.decidePlanErase (letter : Option PlanLetter) (s : State) : State × Decision :=
  match letter with
  | none => (s, .refused .badField .none)
  | some l =>
    match s.storeRefusal l with
    | some r => (s, .refused r .none)
    | none => s.startOperation (.erase l)

/-- The body of a PLAN-READ (R35). -/
def State.readPlan (l : PlanLetter) (select : PlanSelect) (s : State) : DoneBody :=
  let p := s.store.sector l
  match select with
  | .header =>
    .planHeader { state := p.state, locked := s.pfu.perf.locks l, header := p.header,
                  sealed := if p.state = .sealed then some (p.count, p.check) else none }
  | .slots first count => .planSlots ((p.slots.drop first).take count)

/-- PLAN-READ (R35). -/
def State.decidePlanRead (letter : Option PlanLetter) (select : PlanSelect) (s : State) : State × Decision :=
  let rangeOk := match select with
    | .header => true
    | .slots first count => slotRangeOk first count
  match letter with
  | none => (s, .refused .badField .none)
  | some l =>
    if rangeOk = false then (s, .refused .badField .none)
    else if s.store.busy then (s, .refused .busy .none)
    else if (s.store.sector l).state = .empty then (s, .refused .noPlan .none)
    else (s, .done (s.readPlan l select))

/-- An erase or program can end: one is in flight, and its least time has passed (R24). -/
def State.operationCanEnd (s : State) : Bool :=
  match s.store.inFlight with
  | some f => f.started + f.op.leastTime ≤ s.now
  | none => false

/-- An erase or program ends, and its request is answered (R24). -/
def State.endOperation (verified : Bool) (s : State) : State :=
  match s.store.inFlight with
  | none => s
  | some f =>
    let t := { s.store with inFlight := none }
    if verified then { s with store := t.complete f.op, lp := s.lp.settle (.done f.op.doneBody) }
    else { s with store := t.fail f.op s.free, lp := s.lp.settle (.refused .planBad .none), free := s.free + 1 }

/-- An entry of STEP-READ (R40). -/
def Pfu.readStep (i : Nat) (f : Pfu) : StepReading :=
  { index := i, status := f.table.getD i .skipped,
    remaining := match f.pendingStep i with
      | some st =>
        let k := f.perf.clocks.get st.anchor.clock
        if k.run = .running then some (f.perf.dueTime st - k.value) else none
      | none => none }

/-- STEP-READ (R40).
DESIGN CHOICE: the empty table is decided first (log 31). -/
def State.decideStepRead (first count : Nat) (s : State) : State × Decision :=
  if s.pfu.table = [] then (s, .refused .noPlan .none)
  else if count = 0 ∨ 24 < count ∨ s.pfu.table.length < first + count then (s, .refused .badField .none)
  else (s, .done (.steps ((List.range count).map fun k => s.pfu.readStep (first + k))))

/-- EXTEND (R42).
DEDUCED: its two refusals are tested in the order in which the rule lists them (log 38). -/
def State.decideExtend (seconds : Nat) (s : State) : State × Decision :=
  if seconds < 10 ∨ 600 < seconds then (s, .refused .badField .none)
  else if s.phase ≠ .interval then (s, .refused .wrongPhase .none)
  else
    let f := s.pfu.extend seconds
    ({ s with pfu := f },
      .done (.extended (f.perf.intervalLen - s.pfu.perf.intervalLen) f.perf.intervalLen f.perf.remaining))

/-- The INTERVAL-EXPIRED notice (R43). -/
def State.sendExpiry (s : State) : State :=
  { s with pfu := { s.pfu with expirySent := true } }.notify (.intervalExpired s.pfu.perf.intervalNo s.pfu.perf.intervalLen)

/-! ## Meanings -/

def execPlanOpen (letter : Option PlanLetter) (header : PlanHeader) (s : State) : Answer :=
  .next <| s.answer .planOpen (header.name.length == 12) (State.decidePlanOpen letter header)

def execPlanPut (letter : Option PlanLetter) (first count : Nat) (records : List StepRecord) (s : State) : Answer :=
  .next <| s.answer .planPut (count == records.length) (State.decidePlanPut letter first count records)

def execPlanSeal (letter : Option PlanLetter) (count : Nat) (s : State) : Answer :=
  .next <| s.answer .planSeal true (State.decidePlanSeal letter count)

def execPlanErase (letter : Option PlanLetter) (s : State) : Answer :=
  .next <| s.answer .planErase true (State.decidePlanErase letter)

def execPlanRead (letter : Option PlanLetter) (select : PlanSelect) (s : State) : Answer :=
  .next <| s.answer .planRead true (State.decidePlanRead letter select)

def execStoreOperationEnd (verified : Bool) (s : State) : Answer :=
  .next <| s.event s.operationCanEnd (State.endOperation verified)

def execStepRead (first count : Nat) (s : State) : Answer :=
  .next <| s.answer .stepRead true (State.decideStepRead first count)

def execExtend (seconds : Nat) (s : State) : Answer := .next <| s.answer .extend true (State.decideExtend seconds)

/-- R38. -/
def execStepDue (s : State) : Answer := .next <| s.event (s.pfu.dueSteps ≠ []) State.issueDue

/-- R43: steps due at the same moment are issued before the notice. -/
def execIntervalExpired (s : State) : Answer := .next <| s.event s.pfu.expiryDue fun s => s.issueDue.sendExpiry

/-- R44. -/
def execStepDueWithin60S (s : State) : Answer := .next <| s.event (s.pfu.dueSoon && !s.pfu.stepDueSoon) State.refresh

end Sys2Proof.Machine
end

