-- ==== Sys2Proof/Machine/ResetSteps.lean ====
section
/-!
DEFINITION. The assertion and the release of reset (0.10.1, R2, R26, R49, R108, R129, R134, R172, R177, R182, R191, R194, R200).
-/

namespace Sys2Proof.Machine

/-- Reset is asserted: every field output goes to its de-energised state, a frame being received or sent is lost, and nothing
is done until the release (R45, R101, R129, R145, R149, R177, R183, R189, R191, R193).
DESIGN CHOICE: a second assertion changes nothing (log 14). -/
def State.assertReset (cause : ResetCause) (s : State) : State :=
  { s with held := some cause, lines := FieldLines.held, ilu := Ilu.reset, lp := { s.lp with frame := none, line := none } }

/-- Every block at its reset state, with the store examined and the configuration loaded from sector 4 as that leaves it (R26,
R199, R200). -/
def State.blocksReset (s : State) : State :=
  let store := s.store.examine s.free
  let settings := store.config.load
  let c := s.ctc
  { now := 0, held := none, settings, pfu := Pfu.reset, store,
    ctc := Ctc.reset c.count c.floor c.top c.overtravel c.edge, hlu := Hlu.reset, fdu := Fdu.reset settings,
    clu := Clu.reset s.clu.busy, ilu := Ilu.reset, lmu := Lmu.reset, dsu := Dsu.reset settings,
    lp := Lp.reset (!store.config.valid), lines := s.lines,
    free := if s.store.busy then s.free + 1 else s.free, pending := s.pending }

/-- CTC reads FLOOR and the encoder and sets its state (R49): DOWN at the floor; otherwise a RESET descent. Where p lies above
H + 200, ENCODER stands in the fault set from the first moment of that descent (R71), and it arises in it (R50).
DESIGN CHOICE (logs 22 and 24). -/
def Ctc.afterReset (e : CtcEnv) (c : Ctc) : CtcOut :=
  let above := decide (e.params.travel + 200 < c.position e.params)
  let c' := { c with aboveLimit := above, faults := if above then addFault .encoder c.faults else c.faults }
  if c.floor ∧ c.position e.params ≤ 20 then CtcOut.of c
  else
    ((c'.openDescent e .reset).andThen fun c => if above then c.arise e .encoder else CtcOut.of c).andThen
      (Ctc.arriveAtStart e)

/-- Reset is released.
DESIGN CHOICE: a FAILED announcer that it clears sends no RESTORED notice (log 57). -/
def State.releaseReset (cause : ResetCause) (s : State) : State :=
  let s := s.blocksReset
  let s := s.notify (.reset cause)
  let s := if s.lp.defaulted then s.notify .configDefaulted else s
  (s.withCtc fun e c => c.afterReset e).finish

/-! ## Meanings -/

def execResetAssert (cause : ResetCause) (s : State) : Answer :=
  .next <| if s.held.isSome then s else s.assertReset cause

/-- R2.
DESIGN CHOICE: it ends a reset of every cause, that of a RESTART too (log 74). -/
def execResetRelease (s : State) : Answer :=
  .next <| match s.held with
    | some cause => s.releaseReset cause
    | none => s

end Sys2Proof.Machine
end

