-- ==== Sys2Proof/Machine/Link.lean ====
section
/-!
DEFINITION. The meanings of the link's own requests and of the events of its two lines (chapter 11).
-/

namespace Sys2Proof.Machine

/-- LINK-COUNTS: the counters are read, then set to 0 (R195). -/
def State.decideLinkCounts (s : State) : State × Decision :=
  let l := s.lp
  ({ s with lp := { l with checksum := 0, length := 0, timeout := 0, overrun := 0 } },
    .done (.linkCounts l.checksum l.length l.timeout l.overrun))

/-- The summary fault flags (TABLE LXVI). -/
def State.faultFlags (s : State) : FaultFlags :=
  let l := s.lp
  let t := s.store
  { lp := 0 < l.checksum || 0 < l.length || 0 < l.timeout || 0 < l.overrun,
    pfu := t.planA.state = .bad || t.planB.state = .bad || t.planC.state = .bad || t.planD.state = .bad || l.defaulted,
    ctc := s.ctc.faults ≠ [],
    hlu := s.hlu.supplyFault,
    fdu := s.fdu.loopBroken || s.fdu.sounderFaults.any id ||
      s.fdu.devices.any (fun d => d.state = .fault || d.state = .missing),
    clu := s.clu.failed,
    ilu := s.ilu.hoist.denied || s.ilu.release.denied || s.ilu.relay.denied || s.ilu.stalls.denied || s.ilu.circle.denied ||
      s.ilu.gallery.denied,
    lmu := s.lmu.channels.any (·.state ≠ .normal) }

/-- STATUS (R196). -/
def State.readStatus (s : State) : StatusReading :=
  { phase := s.phase, act := s.pfu.perf.act, interval := s.pfu.perf.intervalNo, fire := s.fdu.fire.state,
    silenced := s.fdu.fire.silenced, curtain := s.ctc.state, position := s.ctc.position s.settings.curtain,
    override := s.override, announcer := s.clu.announcer, failed := s.clu.failed, calls := s.clu.entries.length,
    noticesLost := s.lp.noticesLost, flags := s.faultFlags }

/-- STATUS, which clears NOTICES-LOST as its reply is formed (R194, R196). -/
def State.decideStatus (s : State) : State × Decision :=
  ({ s with lp := { s.lp with noticesLost := false } }, .done (.status s.readStatus))

/-- RESTART (R197). -/
def State.decideRestart (s : State) : State × Decision :=
  ({ s with lp := { s.lp with restarting := true } }, .done .empty)

/-- CONFIG-STORE (R199). -/
def State.decideConfigStore (s : State) : State × Decision :=
  if s.store.busy then (s, .refused .busy .none)
  else if s.phase ≠ .dark then (s, .refused .wrongPhase .none)
  else s.startOperation (.storeConfig s.settings)

/-- The timer of the frame in progress (R191). -/
def Lp.frameTimer (l : Lp) : Option Nat := l.frame.map (· + 50)

/-- A discarded frame is counted (R191). A frame that completes after an accepted RESTART is not (R197).
DEDUCED (log 33). -/
def Lp.reject (f : FrameFault) (l : Lp) : Lp :=
  match f with
  | .badLen => { l with frame := none, length := saturate 255 l.length }
  | .badSum => { l with frame := none, checksum := if l.restarting then l.checksum else saturate 255 l.checksum }
  | .missingStop => { l with frame := none, checksum := saturate 255 l.checksum }

/-- The frame at the head of the buffer is the accepted RESTART (R197). -/
def InboundFrame.restarts (f : InboundFrame) : Bool := f.kind = .request .restart && f.reply = some (.done .empty)

/-- The last frame of a reply has been sent: its request leaves the buffer, and a RESTART brings about its reset (R192,
R197).
DESIGN CHOICE: that reset is held until RESET-RELEASE (log 74). -/
def State.replySent (s : State) : State :=
  let s' := { s with lp := { s.lp with line := none, inbound := s.lp.inbound.tail } }
  match s.lp.inbound.head? with
  | some f => if f.restarts then s'.assertReset .restart else s'.finish
  | none => s'.finish

/-- The last byte of the frame on the outbound line has gone (R193). -/
def State.frameSent (s : State) : State :=
  match s.lp.line with
  | none => s
  | some (.notice _) => { s with lp := { s.lp with line := none } }.finish
  | some (.reply part (n + 1)) => { s with lp := { s.lp with line := some (.reply (part + 1) n) } }
  | some (.reply _ 0) => s.replySent

/-! ## Meanings -/

/-- R191. -/
def execFrameSync (s : State) : Answer :=
  .next <| s.event s.lp.frame.isNone fun s => { s with lp := { s.lp with frame := some s.now } }

/-- R191. -/
def execFrameTimeout (s : State) : Answer :=
  .next <| s.event (dueAt s.now s.lp.frameTimer) fun s =>
    { s with lp := { s.lp with frame := none, timeout := saturate 255 s.lp.timeout } }

/-- The frame in progress is discarded for what its bytes are; while LP hunts, bytes are discarded without being counted
(R191). -/
def State.rejectFrame (f : FrameBytes) (s : State) : State :=
  match frameFault f with
  | some fault => { s with lp := s.lp.reject fault }
  | none => s

/-- R191. -/
def execFrameRejected (bytes : FrameBytes) (s : State) : Answer :=
  .next <| s.event (s.lp.frame.isSome && (frameFault bytes).isSome) (State.rejectFrame bytes)

/-- R192. -/
def execFrameOverrun (s : State) : Answer :=
  .next <| s.event (2 ≤ s.lp.inbound.length) fun s => if s.lp.restarting then s.hunting else s.overrun

/-- R192. -/
def execUnknownKind (fault : KindFault) (s : State) : Answer :=
  .next <| match fault with
    | .notRequest code => s.receive (.unknown code) fun s => (s, .refused .unknownKind .none)
    | .badLength kind => s.receive (.request kind) fun s => (s, .refused .badLength .none)

/-- R193, R197. -/
def execOutboundFrameSent (s : State) : Answer := .next <| if s.held.isSome then s else s.frameSent

/-- R195. -/
def execIdentify (s : State) : Answer :=
  .next <| s.answer .identify true fun s => (s, .done (.identity partString hardwareRevision Config.serialNumber))

def execLinkCounts (s : State) : Answer := .next <| s.answer .linkCounts true State.decideLinkCounts

def execStatus (s : State) : Answer := .next <| s.answer .status true State.decideStatus

def execRestart (s : State) : Answer := .next <| s.answer .restart true State.decideRestart

def execConfigStore (s : State) : Answer := .next <| s.answer .configStore true State.decideConfigStore

end Sys2Proof.Machine
end

