-- ==== Sys2Proof/Machine/Loop.lean ====
section
/-!
DEFINITION. The meanings of the loop's slots, tests and requests (chapter 6).
-/

namespace Sys2Proof.Machine

/-- DEVICE-READ (R128).
DESIGN CHOICE: the isolated flag for SMOKE and BEAM only (log 31), and the place on the watch list counted from 0 (log 66). -/
def State.readDevice (a : Nat) (s : State) : DeviceReading :=
  let e := s.settings.device a
  { entry := e, record := s.fdu.device a, listed := s.settings.scanList.contains a,
    unlisted := e.enabled && !s.settings.scanList.contains a, watchPlace := s.fdu.watch.findIdx? (· = a),
    isolated := s.fdu.isolated e.zone && isolable e.type, walkTest := s.fdu.underWalk e.zone, mode := s.fdu.mode }

def State.decideDeviceRead (a : Nat) (s : State) : State × Decision :=
  if a = 0 ∨ 64 < a then (s, .refused .badField .none) else (s, .done (.device (s.readDevice a)))

/-- DEVICE-COUNTS (R128): the counters of the range are read and set to 0. -/
def State.decideDeviceCounts (first count : Nat) (s : State) : State × Decision :=
  if first = 0 ∨ 64 < first ∨ count = 0 ∨ 32 < count ∨ 65 < first + count then (s, .refused .badField .none)
  else
    let devices := s.fdu.devices.mapIdx fun i d => if first ≤ i + 1 ∧ i + 1 < first + count then { d with errors := 0 } else d
    ({ s with fdu := { s.fdu with devices } },
      .done (.counts ((List.range count).map fun k => (s.fdu.device (first + k)).errors)))

/-- The next slot begins (R113). -/
def Fdu.slotStartDue (now : Nat) (f : Fdu) : Bool := f.poll.isNone && f.slotDue ≤ now

/-- The device poll whose slot has ended (R112). -/
def Fdu.endedPoll (now : Nat) (f : Fdu) : Option Poll :=
  f.poll.filter fun p => p.kind ≠ .continuity && p.started + 25 ≤ now

/-- The continuity poll is out; it can be received until 10 ms from its start, and fails then (R125). -/
def Fdu.resultPossible (now : Nat) (received : Bool) (f : Fdu) : Bool :=
  match f.poll with
  | some p => p.kind = .continuity && if received then now ≤ p.started + 10 else p.started + 10 ≤ now
  | none => false

/-- The slot of a device poll ends. -/
def State.endSlot (ra rb : Reception) (s : State) : State :=
  match s.fdu.endedPoll s.now with
  | some p => s.withFdu (s.fdu.endSlot s.settings s.now p ra rb)
  | none => s

/-! ## Meanings -/

/-- R113, R114, R122, R124.
DESIGN CHOICE: a continuity expiry, or the end of a walk indication, at the very moment of the slot's start is met by this slot
where it is taken first and by a later one where it is not (log 72). -/
def execPollSlotStart (s : State) : Answer :=
  .next <| s.event (s.fdu.slotStartDue s.now) fun s => { s with fdu := s.fdu.startSlot s.settings }

/-- R112, R115 to R123. -/
def execPollSlotEnd (endA endB : Reception) (s : State) : Answer :=
  .next <| s.event (s.fdu.endedPoll s.now).isSome (State.endSlot endA endB)

/-- R125.
DESIGN CHOICE: at the very moment at which a slot begins, the order of the expiry and the slot's start is that of the queue, or
free where it is empty (log 72). -/
def execContinuityDue (s : State) : Answer :=
  .next <| s.event (s.fdu.contNext ≤ s.now) fun s =>
    { s with fdu := { s.fdu with contDue := true, contNext := s.fdu.contNext + 30000 } }

/-- R125, R126. -/
def execContinuityResult (received : Bool) (s : State) : Answer :=
  .next <| s.event (s.fdu.resultPossible s.now received) fun s => s.putFdu (s.fdu.continuity received)

/-- R124.
DESIGN CHOICE: its order against a slot that begins at the same moment (log 72). -/
def execWalkIndicationExpiry (address : Nat) (s : State) : Answer :=
  .next <| s.event (1 ≤ address && dueAt s.now (s.fdu.device address).walk) fun s =>
    { s with fdu := s.fdu.modifyDevice address fun d => { d with walk := none } }

def execDeviceRead (address : Nat) (s : State) : Answer :=
  .next <| s.answer .deviceRead true (State.decideDeviceRead address)

def execDeviceCounts (first count : Nat) (s : State) : Answer :=
  .next <| s.answer .deviceCounts true (State.decideDeviceCounts first count)

end Sys2Proof.Machine
end

