-- ==== Sys2Proof/Machine/Clock.lean ====
section
/-!
DEFINITION. What the part does of itself when no command waits: the events of its timers that are due, one after another in
an order that is free, and otherwise a millisecond of time. An event whose outcome only a field line or the host can give (a
conversion, a column's rows, a frame) is left to come from outside; a loop reply and a continuity poll that nobody gives by the
end of their time have not come.
-/

namespace Sys2Proof.Machine

/-- One event, where it is due. -/
def dueEvent (due : Bool) (e : Instr) : List Instr := if due then [e] else []

/-- PFU's events: due steps come before the expiry of the interval (R43). -/
def State.duePlan (s : State) : List Instr :=
  dueEvent (s.pfu.dueSteps ≠ []) .stepDue ++ dueEvent (s.pfu.dueSteps = [] && s.pfu.expiryDue) .intervalExpired ++
    dueEvent (s.pfu.dueSoon && !s.pfu.stepDueSoon) .stepDueWithin60S

/-- CTC's events. -/
def State.dueCurtain (s : State) : List Instr :=
  dueEvent (dueAt s.now s.ctc.holdTimer) .obstructionHoldEnd ++ dueEvent (dueAt s.now s.ctc.raiseDeadline) .raiseTimeout ++
    dueEvent (dueAt s.now s.ctc.warnDeadline) .stopWarningEnd ++ dueEvent s.ctc.floorDue .floorTimerExpiry ++
    dueEvent s.ctc.windowDue .descentWindow ++ dueEvent s.ctc.timeOnlyLateDue .timeOnlyLate

/-- HLU's events. -/
def State.dueFades (s : State) : List Instr :=
  ((List.range 12).filter fun i => (s.hlu.channel i).evalDue s.now).map .fadeEvaluation

/-- A loop end that has heard nothing.
DESIGN CHOICE (log 15). -/
def Reception.silent : Reception :=
  { firstByte := none, complete := none, lateByte := false, bytes := { typeCode := 0, value := 0, status := 0, sum := 0 },
    names := none, operated := false, fault := false, test := false }

/-- FDU's events. -/
def State.dueFire (s : State) : List Instr :=
  dueEvent (s.fdu.slotStartDue s.now) .pollSlotStart ++
    dueEvent (s.fdu.endedPoll s.now).isSome (.pollSlotEnd Reception.silent Reception.silent) ++
    dueEvent (s.fdu.contNext ≤ s.now) .continuityDue ++ dueEvent (s.fdu.resultPossible s.now false) (.continuityResult false) ++
    (addresses.filter fun a => dueAt s.now (s.fdu.device a).walk).map .walkIndicationExpiry ++
    (fireZones.filter fun z => dueAt s.now (s.fdu.expiry z)).map .isolationExpiry ++
    dueEvent (dueAt s.now s.fdu.fire.timer && (timerCause s.fdu.fire.state).isSome) .fireTimerExpiry

/-- CLU's events. -/
def State.dueCalls (s : State) : List Instr :=
  let a := s.clu.announcer
  dueEvent (dueAt s.now a.settlingTimer) .settlingEnd ++ dueEvent (dueAt s.now a.segmentTimer) .bellSegmentEnd ++
    dueEvent (dueAt s.now a.playStrobe) .playStrobeEnd ++ dueEvent (dueAt s.now a.startWindow) .noStart ++
    dueEvent (dueAt s.now a.speakingLimit) .speakingLimitExpiry ++ dueEvent (dueAt s.now a.stopStrobe) .stopStrobeEnd ++
    dueEvent (dueAt s.now a.stopTimer) .stopTimeout ++
    ((s.clu.entries.filter fun e => s.clu.readyDue s.now e.id).map fun e => .readyTime e.id)

/-- DSU's and LP's events. -/
def State.dueDesk (s : State) : List Instr :=
  dueEvent (dueAt s.now s.dsu.key.debounceTimer) .debounceExpiry ++
    dueEvent (dueAt s.now s.dsu.key.longTimer) .longTimerExpiry ++
    dueEvent (dueAt s.now s.dsu.refusedUntil) .refusedIndicationExpiry ++
    dueEvent (s.dsu.flashDue ≤ s.now) .flashHalfPeriod ++ dueEvent (dueAt s.now s.lp.frameTimer) .frameTimeout

/-- Every event that is due. -/
def State.dueEvents (s : State) : List Instr :=
  s.duePlan ++ s.dueCurtain ++ s.dueFades ++ s.dueFire ++ s.dueCalls ++ s.dueDesk

/-- A millisecond passes: the uptime, the RUNNING anchor clocks and the descent in hand (R3, R71).
DESIGN CHOICE: a step of 1 ms (logs 1 and 35). -/
def State.tick (s : State) : State :=
  { s with
    now := s.now + 1,
    pfu := s.pfu.setPerf { s.pfu.perf with clocks := s.pfu.perf.clocks.map AnchorClock.tick },
    ctc := s.ctc.tick }

/-- The part with no command waiting: while reset is held it does nothing; of the events due one joins the queue, which one
being free where several are due; where none is due a millisecond passes.
DESIGN CHOICE (logs 1 and 3): no reset ends here, whatever its cause (log 74). -/
def State.idle (s : State) : State :=
  if s.held.isSome then s
  else
    match s.dueEvents with
    | [] => s.tick
    | [e] => { s with pending := [e] }
    | e :: es => { s.drawn with pending := [(e :: es).getD (Config.freeNat s.free % (es.length + 1)) e] }

end Sys2Proof.Machine
end

