-- ==== Sys2Proof/Machine/Dispatch.lean ====
section
/-!
DEFINITION. `exec`: what each command does to the part. One arm for each row of spec/opcode_table.json.
-/

namespace Sys2Proof.Machine

/-- The effect of a command on everything but the queue of waiting commands. -/
def exec (i : Instr) (s : State) : Host.Outcome State Fault Refusal :=
  match i with
  | .resetAssert cause => Sys2Proof.Machine.execResetAssert cause s
  | .resetRelease => Sys2Proof.Machine.execResetRelease s
  | .arm letter => Sys2Proof.Machine.execArm letter s
  | .openHouse => Sys2Proof.Machine.execOpenHouse s
  | .begin => Sys2Proof.Machine.execBegin s
  | .interval => Sys2Proof.Machine.execInterval s
  | .endShow => Sys2Proof.Machine.execEndShow s
  | .showStop => Sys2Proof.Machine.execShowStop s
  | .resume => Sys2Proof.Machine.execResume s
  | .evacuate => Sys2Proof.Machine.execEvacuate s
  | .close => Sys2Proof.Machine.execClose s
  | .disarm => Sys2Proof.Machine.execDisarm s
  | .performanceRead => Sys2Proof.Machine.execPerformanceRead s
  | .planOpen letter header => Sys2Proof.Machine.execPlanOpen letter header s
  | .planPut letter first count records => Sys2Proof.Machine.execPlanPut letter first count records s
  | .planSeal letter count => Sys2Proof.Machine.execPlanSeal letter count s
  | .planErase letter => Sys2Proof.Machine.execPlanErase letter s
  | .planRead letter select => Sys2Proof.Machine.execPlanRead letter select s
  | .storeOperationEnd verified => Sys2Proof.Machine.execStoreOperationEnd verified s
  | .stepRead first count => Sys2Proof.Machine.execStepRead first count s
  | .extend seconds => Sys2Proof.Machine.execExtend seconds s
  | .stepDue => Sys2Proof.Machine.execStepDue s
  | .intervalExpired => Sys2Proof.Machine.execIntervalExpired s
  | .curtainRaise => Sys2Proof.Machine.execCurtainRaise s
  | .curtainLower => Sys2Proof.Machine.execCurtainLower s
  | .curtainTest => Sys2Proof.Machine.execCurtainTest s
  | .curtainHalt => Sys2Proof.Machine.execCurtainHalt s
  | .curtainClear => Sys2Proof.Machine.execCurtainClear s
  | .curtainRead => Sys2Proof.Machine.execCurtainRead s
  | .encoderCountChange count => Sys2Proof.Machine.execEncoderCountChange count s
  | .topChange closed => Sys2Proof.Machine.execTopChange closed s
  | .overtravelChange closed => Sys2Proof.Machine.execOvertravelChange closed s
  | .floorChange closed => Sys2Proof.Machine.execFloorChange closed s
  | .edgeTrip operated => Sys2Proof.Machine.execEdgeTrip operated s
  | .obstructionHoldEnd => Sys2Proof.Machine.execObstructionHoldEnd s
  | .raiseTimeout => Sys2Proof.Machine.execRaiseTimeout s
  | .stopWarningEnd => Sys2Proof.Machine.execStopWarningEnd s
  | .floorTimerExpiry => Sys2Proof.Machine.execFloorTimerExpiry s
  | .descentWindow => Sys2Proof.Machine.execDescentWindow s
  | .timeOnlyLate => Sys2Proof.Machine.execTimeOnlyLate s
  | .presetWrite preset levels => Sys2Proof.Machine.execPresetWrite preset levels s
  | .lightsGo preset fade => Sys2Proof.Machine.execLightsGo preset fade s
  | .houseFull => Sys2Proof.Machine.execHouseFull s
  | .lightsRestore => Sys2Proof.Machine.execLightsRestore s
  | .lightsRead clearFault => Sys2Proof.Machine.execLightsRead clearFault s
  | .fadeEvaluation channel => Sys2Proof.Machine.execFadeEvaluation channel s
  | .pollSlotStart => Sys2Proof.Machine.execPollSlotStart s
  | .pollSlotEnd endA endB => Sys2Proof.Machine.execPollSlotEnd endA endB s
  | .continuityDue => Sys2Proof.Machine.execContinuityDue s
  | .continuityResult received => Sys2Proof.Machine.execContinuityResult received s
  | .walkIndicationExpiry address => Sys2Proof.Machine.execWalkIndicationExpiry address s
  | .deviceRead address => Sys2Proof.Machine.execDeviceRead address s
  | .deviceCounts first count => Sys2Proof.Machine.execDeviceCounts first count s
  | .zoneIsolate zone seconds => Sys2Proof.Machine.execZoneIsolate zone seconds s
  | .zoneRestore zone => Sys2Proof.Machine.execZoneRestore zone s
  | .isolationExpiry zone => Sys2Proof.Machine.execIsolationExpiry zone s
  | .fireTimerExpiry => Sys2Proof.Machine.execFireTimerExpiry s
  | .fireAck => Sys2Proof.Machine.execFireAck s
  | .fireFull => Sys2Proof.Machine.execFireFull s
  | .fireSilence => Sys2Proof.Machine.execFireSilence s
  | .fireReset => Sys2Proof.Machine.execFireReset s
  | .walkTest zone => Sys2Proof.Machine.execWalkTest zone s
  | .walkTestEnd => Sys2Proof.Machine.execWalkTestEnd s
  | .fireRead clearFault => Sys2Proof.Machine.execFireRead clearFault s
  | .templateWrite template body => Sys2Proof.Machine.execTemplateWrite template body s
  | .call body => Sys2Proof.Machine.execCall body s
  | .callTemplate template => Sys2Proof.Machine.execCallTemplate template s
  | .settlingEnd => Sys2Proof.Machine.execSettlingEnd s
  | .bellSegmentEnd => Sys2Proof.Machine.execBellSegmentEnd s
  | .playStrobeEnd => Sys2Proof.Machine.execPlayStrobeEnd s
  | .busyRise => Sys2Proof.Machine.execBusyRise s
  | .busyFall => Sys2Proof.Machine.execBusyFall s
  | .noStart => Sys2Proof.Machine.execNoStart s
  | .speakingLimitExpiry => Sys2Proof.Machine.execSpeakingLimitExpiry s
  | .stopStrobeEnd => Sys2Proof.Machine.execStopStrobeEnd s
  | .stopTimeout => Sys2Proof.Machine.execStopTimeout s
  | .readyTime id => Sys2Proof.Machine.execReadyTime id s
  | .announcerReset => Sys2Proof.Machine.execAnnouncerReset s
  | .callCancel id => Sys2Proof.Machine.execCallCancel id s
  | .queueRead first count => Sys2Proof.Machine.execQueueRead first count s
  | .interlockRead => Sys2Proof.Machine.execInterlockRead s
  | .lineConversion code => Sys2Proof.Machine.execLineConversion code s
  | .sampleRead => Sys2Proof.Machine.execSampleRead s
  | .columnRead rows => Sys2Proof.Machine.execColumnRead rows s
  | .debounceExpiry => Sys2Proof.Machine.execDebounceExpiry s
  | .longTimerExpiry => Sys2Proof.Machine.execLongTimerExpiry s
  | .refusedIndicationExpiry => Sys2Proof.Machine.execRefusedIndicationExpiry s
  | .flashHalfPeriod => Sys2Proof.Machine.execFlashHalfPeriod s
  | .deskRead => Sys2Proof.Machine.execDeskRead s
  | .frameTimeout => Sys2Proof.Machine.execFrameTimeout s
  | .frameRejected bytes => Sys2Proof.Machine.execFrameRejected bytes s
  | .frameOverrun => Sys2Proof.Machine.execFrameOverrun s
  | .unknownKind fault => Sys2Proof.Machine.execUnknownKind fault s
  | .outboundFrameSent => Sys2Proof.Machine.execOutboundFrameSent s
  | .identify => Sys2Proof.Machine.execIdentify s
  | .linkCounts => Sys2Proof.Machine.execLinkCounts s
  | .status => Sys2Proof.Machine.execStatus s
  | .restart => Sys2Proof.Machine.execRestart s
  | .configSet write => Sys2Proof.Machine.execConfigSet write s
  | .configGet item => Sys2Proof.Machine.execConfigGet item s
  | .configStore => Sys2Proof.Machine.execConfigStore s
  | .frameSync => Sys2Proof.Machine.execFrameSync s
  | .stepDueWithin60S => Sys2Proof.Machine.execStepDueWithin60S s

end Sys2Proof.Machine
end

