-- ==== Sys2Proof/Machine/Step.lean ====
section
/-!
DEFINITION. The step of the part: the command at the front of the queue, or, on an empty queue, what the part does of itself.
-/

namespace Sys2Proof.Machine

/-- One step. -/
def step (s : State) : Host.Outcome State Fault Refusal :=
  match s.pending with
  | c :: cs => exec c { s with pending := cs }
  | [] => .next s.idle

/-- The command that a word spells is put at the front of the queue; a word that spells none changes nothing.
DESIGN CHOICE (log 2). -/
def State.withFetchWord (s : State) (nbits w : Nat) : State :=
  match Sys2Proof.decodeTableWord nbits w with
  | some c => { s with pending := c :: s.pending }
  | none => s

end Sys2Proof.Machine
end

