-- ==== Sys2Proof/Safety.lean ====
section
/-!
DEFINITION. What counts as a safe part: the laws of its safety outputs (R174) and the bounds of what it holds (R99, R121,
R132, R156, R192, R194), as conditions on a state.
-/

namespace Sys2Proof.Safety

open Sys2Proof.Machine

/-- A condition that forces HOIST is in force (TABLE LIX). -/
def hoistForced (s : State) : Bool :=
  s.fireFull || s.phase = .stopped || s.phase = .evacuate || s.lmu.limitState 0 = .high

/-- The audience relays are forced (TABLE LIX). -/
def audienceForced (s : State) : Bool := s.phase = .running && s.clu.showPlay

/-- The four laws of R174. -/
structure LineLaws (s : State) : Prop where
  hoist    : hoistForced s = true → s.ilu.hoist.line = false
  release  : s.forced = true → s.ilu.release.line = false
  relay    : s.forced = true → s.ilu.relay.line = false
  audience : audienceForced s = true →
    s.ilu.stalls.line = false ∧ s.ilu.circle.line = false ∧ s.ilu.gallery.line = false

/-- A gate record is as R173 and R174 give it: energised exactly while demanded and not forced, denied exactly while demanded
and forced. -/
def GateOk (g : Gate) : Prop :=
  g.line = (g.demand && g.forcing.isEmpty) ∧ g.denied = (g.demand && !g.forcing.isEmpty)

/-- Every gate record is as R173 and R174 give it. -/
structure GatesOk (g : Ilu) : Prop where
  hoist   : GateOk g.hoist
  release : GateOk g.release
  relay   : GateOk g.relay
  stalls  : GateOk g.stalls
  circle  : GateOk g.circle
  gallery : GateOk g.gallery

/-- The bounds of the link port (R191, R192, R194). -/
structure LinkOk (l : Lp) : Prop where
  inbound  : l.inbound.length ≤ 2
  notices  : l.notices.length ≤ 16
  checksum : l.checksum ≤ 255
  length   : l.length ≤ 255
  timeout  : l.timeout ≤ 255
  overrun  : l.overrun ≤ 255

/-- The phases in which a plan is armed (R25). -/
def PlanOk (p : Perf) : Prop := p.plan = none ↔ p.phase = .dark

/-! ## Conditions that every step keeps -/

/-- The gates are as the demands and the forcing conditions of the moment give them, and no audience relay is left denied: ILU's
recomputation would change nothing, and CLU has nothing to cut (R168, R174). -/
def GatesCurrent (s : State) : Prop := s.held = none → s.ilu.next s.iluView = s.ilu ∧ s.ilu.deniedZones = 0

/-- The field lines are driven as the blocks give them. -/
def LinesDriven (s : State) : Prop := s.held = none → s.lines = s.fieldLines

/-- The letter of the plan sector an operation works on. -/
def opLetter : StoreOp → Option PlanLetter
  | .openPlan l _ | .put l _ _ | .seal l _ _ | .erase l => some l
  | .storeConfig _ => none

/-- No operation in flight works on the armed plan's sector (R25). -/
def LockOk (s : State) : Prop :=
  ∀ l f, s.pfu.perf.plan = some l → s.store.inFlight = some f → opLetter f.op ≠ some l

/-- The fields of the record hold together (TABLE X): a stop cause and a resume phase are present in STOPPED and in no other
phase, and the counters and clocks lie in their ranges. -/
structure RecordOk (p : Perf) : Prop where
  resume : p.resume.isSome = true ↔ p.phase = .stopped
  cause  : p.stopCause ≠ .none ↔ p.phase = .stopped
  stops  : p.stops ≤ 15
  clocks : ∀ i, (p.clocks.get i).value ≤ 86400000

/-- A descent is in hand while DESCENDING, the stop warning runs in PRE-DROP only and the raise timer in RAISING only. -/
structure CurtainOk (c : Ctc) : Prop where
  descent : c.descent.isSome = true ↔ c.state = .descending
  warning : c.warnDeadline.isSome = true → c.state = .preDrop
  raising : c.raiseDeadline.isSome = true → c.state = .raising

/-- Under a forcing condition of RELEASE the curtain is down, or comes down in a descent that cannot be stopped (R53, R64). -/
def CurtainFalls (s : State) : Prop :=
  s.held = none → s.forced = true → s.ctc.state = .down ∨ s.ctc.cause = some .emergency ∨ s.ctc.cause = some .reset

/-- Under the override every channel stands at full and no fade runs (R103, R104). -/
def OverrideFull (s : State) : Prop :=
  s.held = none → s.override = true → ∀ r ∈ s.hlu.channels, r = { active := 1000, fade := none }

/-- FULL does not stand beside a phase that it turns into EVACUATE (R16). -/
def FullPhase (s : State) : Prop := s.fireFull = true → s.phase = .dark ∨ s.phase = .evacuate ∨ s.phase = .closed

/-- The announcer is at work on a play. -/
def atWork : Announcer → Bool
  | .settling _ | .bell .. | .speaking .. => true
  | .idle | .stopping .. => false

/-- The queue (R156): the reservations and the pool are not exceeded, ids are distinct and lie in 1 to 255, and there is one
PLAYING entry while the announcer is at work on a play and none otherwise. -/
structure QueueOk (c : Clu) : Prop where
  reserved : ∀ src, c.reservedInUse src ≤ reservation src
  pool     : c.poolInUse ≤ 8
  ids      : (c.entries.map (·.id)).Nodup
  idRange  : ∀ e ∈ c.entries, 1 ≤ e.id ∧ e.id ≤ 255
  nextId   : 1 ≤ c.nextId ∧ c.nextId ≤ 255
  playing  : (c.entries.filter fun e => e.state.effective.isSome).length = if atWork c.announcer then 1 else 0
  bell     : ∀ segments ringing t, c.announcer = .bell segments ringing t → segments ≠ []

/-- The entries of the queue (R155, R156): no two have one place in the order of arrival, each came before the next to come, and no
two are equal in message slot, zone set and class. -/
structure EntriesOk (c : Clu) : Prop where
  distinct : (c.entries.map (·.arrival)).Nodup
  before   : ∀ e ∈ c.entries, e.arrival < c.nextArrival
  differ   : (c.entries.map fun e => (e.slot, e.zones, e.cls)).Nodup

/-- What is bounded besides: the descent history (R69), the watch list (R121) and the zones isolated (R132). -/
structure BoundsOk (s : State) : Prop where
  history  : s.ctc.history.length ≤ 4
  watch    : s.fdu.watch.length ≤ 8
  isolated : s.fdu.isolatedCount ≤ 4

/-- The tables of a configuration have the sizes that their rules give (R88, R90, R109, R130, R151, R152, R180, R186, R189). -/
structure SettingsSized (c : Settings) : Prop where
  channels  : c.channels.length = 12
  presets   : c.presets.length = 15 ∧ ∀ p ∈ c.presets, p.length = 12
  devices   : c.devices.length = 64
  zones     : c.zones.length = 16
  templates : c.templates.length = 16
  bells     : c.bells.length = 7
  limits    : c.limits.length = 8
  keys      : c.keys.length = 48
  lamps     : c.lamps.length = 8

/-- The tables of the part have their sizes: those of the configuration in force, of the one stored and of one being stored, and
those of the channels, the devices, the zones, the sounder circuits and the line monitor (R88, R109, R130, R145, R179). -/
structure SizesOk (s : State) : Prop where
  settings  : SettingsSized s.settings
  stored    : ∀ c, s.store.config.copy = some c → SettingsSized c
  storing   : ∀ f c, s.store.inFlight = some f → f.op = .storeConfig c → SettingsSized c
  channels  : s.hlu.channels.length = 12
  devices   : s.fdu.devices.length = 64
  isolation : s.fdu.isolation.length = 16
  status    : s.fdu.status.length = 16
  sounders  : s.fdu.sounderFaults.length = 4
  monitor   : s.lmu.channels.length = 8

/-! ## What a change may touch -/

/-- The parts of the state, one for each of its fields. -/
inductive Part where
  | uptime | reset | settings | performance | store | curtain | lights | fire | calls | gates | monitor | desk | link | lines
  | draws | queue
  deriving DecidableEq, Repr

/-- A part of the state is the same in two states. -/
def Part.same (s t : State) : Part → Prop
  | .uptime => t.now = s.now
  | .reset => t.held = s.held
  | .settings => t.settings = s.settings
  | .performance => t.pfu = s.pfu
  | .store => t.store = s.store
  | .curtain => t.ctc = s.ctc
  | .lights => t.hlu = s.hlu
  | .fire => t.fdu = s.fdu
  | .calls => t.clu = s.clu
  | .gates => t.ilu = s.ilu
  | .monitor => t.lmu = s.lmu
  | .desk => t.dsu = s.dsu
  | .link => t.lp = s.lp
  | .lines => t.lines = s.lines
  | .draws => t.free = s.free
  | .queue => t.pending = s.pending

/-- Every part but those of a list is the same in two states. -/
def Only (ps : List Part) (s t : State) : Prop := ∀ p, p ∉ ps → p.same s t

/-- What no step, call or move of the curtain can touch, whatever it sets off. -/
structure Untouched (s t : State) : Prop where
  now      : t.now = s.now
  held     : t.held = s.held
  settings : t.settings = s.settings
  store    : t.store = s.store
  lmu      : t.lmu = s.lmu
  dsu      : t.dsu = s.dsu
  pending  : t.pending = s.pending
  /-- All of FDU but the two call ids it keeps, which CLU's reports can make absent. -/
  fire     : t.fdu = s.fdu.setFire
    { s.fdu.fire with staffCall := t.fdu.fire.staffCall, evacCall := t.fdu.fire.evacCall }
  supply   : t.hlu.supplyFault = s.hlu.supplyFault
  demand   : s.hlu.emergencyDemand = true → t.hlu.emergencyDemand = true

/-- No step falls due (R37): the due time of every PENDING step whose clock is RUNNING is still ahead of the clock. -/
def NoneDue (f : Pfu) : Prop :=
  ∀ (i : Nat) (st : Machine.Step), f.table[i]? = some .pending → f.steps[i]? = some st →
    let clock := f.perf.clocks.get st.anchor.clock
    clock.run = .running → (clock.value : Int) <
      if st.anchor.atEnd then ((f.perf.intervalLen : Int) + st.offset) * 1000 else st.offset * 1000

/-- The step status table moves on: as many entries, and an entry that is no longer PENDING stands. -/
structure TableFollows (f g : Pfu) : Prop where
  length  : g.table.length = f.table.length
  settled : ∀ (i : Nat) (e : StepStatus), f.table[i]? = some e → e ≠ .pending → g.table[i]? = some e

/-- The performance record is `r`, but that a test descent may have set curtain-proven meanwhile (R19). -/
def RecordIs (r p : Perf) : Prop := p = { r with proven := p.proven } ∧ (r.proven = true → p.proven = true)

/-- What a reaction of the blocks to one another leaves as it was, whatever steps, calls and moves of the curtain it sets off. -/
structure Kept (s t : State) : Prop where
  untouched   : Untouched s t
  lines       : t.lines = s.lines
  runningCopy : t.pfu.runningCopy = s.pfu.runningCopy
  expirySent  : t.pfu.expirySent = s.pfu.expirySent
  table       : TableFollows s.pfu t.pfu
  record      : RecordIs s.pfu.perf t.pfu.perf
  notices     : ∃ bs, t.lp = (s.notifyAll bs).lp

/-! ## Requests and events as a state shows them -/

/-- LP can take a request: reset is not held, no RESTART is pending, and the inbound buffer has room (R192, R197). -/
structure Admits (s : State) : Prop where
  released : s.held = none
  goesOn   : s.lp.restarting = false
  room     : s.lp.inbound.length < 2

/-- A request was decided: the notices `bs` joined the queue in order, its frame joined the inbound buffer with the decision
`d`, LP hunts for SYNC, and a free outbound line took what was next for it. That the line takes nothing before all have
joined is the model's choice (log 70). -/
def Replies (s : State) (kind : RequestKind) (d : Decision) (bs : List NoticeBody) (t : State) : Prop :=
  ∃ more, t.lp = ((s.hunting.notifyAll bs).lp.hold (.request kind) d).pump more

/-- An event came about: the notices `bs` joined the queue in order, and a free outbound line took what was next for it. That
the line takes nothing before all have joined is the model's choice (log 70). -/
def Sends (s : State) (bs : List NoticeBody) (t : State) : Prop := ∃ more, t.lp = (s.notifyAll bs).lp.pump more

/-- A request was refused, and nothing but the reply came of it. -/
def Refuses (c : Instr) (kind : RequestKind) (r : Reason) (d : Detail) (s : State) : Prop :=
  ∃ t, exec c s = .next t ∧ Only [.link, .lines, .draws] s t ∧ Replies s kind (.refused r d) [] t

/-- A CONFIG-SET was accepted: the configuration in force is `c`, the reply carries the item as it now stands, and nothing else
came of it (R198). -/
def Configures (w : ConfigWrite) (c : Settings) (s : State) : Prop :=
  ∃ t, exec (.configSet w) s = .next t ∧ Only [.settings, .link, .lines, .draws] s t ∧ t.settings = c ∧
    Replies s .configSet (.done (.config (Machine.Settings.value c (configItem w)))) [] t

/-- A phase request was accepted (R4, R5): the plan runner's side is `f`, but for what the steps then due brought about; the
notices `bs` and then the PHASE notice were sent before theirs, and the reply gives the phase, act and interval number. -/
structure PhaseMoved (s : State) (kind : RequestKind) (f : Pfu) (bs : List NoticeBody) (t : State) : Prop where
  untouched : Untouched s t
  record    : RecordIs f.perf t.pfu.perf
  table     : TableFollows f t.pfu
  copy      : t.pfu.runningCopy = f.runningCopy
  expiry    : t.pfu.expirySent = f.expirySent
  reply     : ∃ cs, Replies s kind (.done (.phase f.perf.phase f.perf.act f.perf.intervalNo))
    (bs ++ f.perf.phaseNote (.request kind .link) none :: cs) t

/-- A phase request that a key issued was accepted (R5, R187): DSU stands at `u`, the plan runner's side is `f`, but for what the
steps then due brought about; and the firing's own notices `first`, the notices `bs` and then the PHASE notice were sent
before theirs. -/
structure KeyMovedPhase (s : State) (u : Dsu) (kind : RequestKind) (f : Pfu) (first bs : List NoticeBody) (t : State) :
    Prop where
  untouched : Untouched { s with dsu := u } t
  record    : RecordIs f.perf t.pfu.perf
  table     : TableFollows f t.pfu
  copy      : t.pfu.runningCopy = f.runningCopy
  expiry    : t.pfu.expirySent = f.expirySent
  sent      : ∃ cs, Sends s (first ++ (bs ++ f.perf.phaseNote (.request kind .desk) none :: cs)) t

/-- The position of the curtain, in mm. -/
def pos (s : State) : Nat := s.ctc.position s.settings.curtain

/-- Step `i` was issued with an outcome (R38): its entry is DONE or REFUSED by it, curtain-proven is `proven`, nothing else of the
plan runner moved but "step due within 60 s", and the STEP notice carries the outcome. That it comes after the notices `bs` of
the step's target is the model's choice (log 19). -/
structure StepIssued (s : State) (i : Nat) (a : StepAction) (o : StepOutcome) (proven : Bool) (bs : List NoticeBody) (t : State) :
    Prop where
  runner : t.pfu = { s.pfu with
    table := s.pfu.table.set i (match o with
      | .done | .doneCall _ _ => .done
      | .refused r => .refused r),
    perf := { s.pfu.perf with proven }, stepDueSoon := t.pfu.stepDueSoon }
  sent   : Sends s (bs ++ [.stepIssued i a o]) t

/-- The step due was refused by its target, and nothing but its entry and the STEP notice came of it (R38). -/
def StepRefused (s : State) (i : Nat) (a : StepAction) (r : Reason) : Prop :=
  ∃ t, exec .stepDue s = .next t ∧ Only [.performance, .link, .lines, .draws] s t ∧
    StepIssued s i a (.refused r) s.pfu.perf.proven [] t

/-- A descent of a cause started from where the curtain stands, and `bs` is what was notified after its start; where FLOOR is
closed it arrived at once (R57, R68, R71, R86). That one which opens in TIME-ONLY mode sends no TIME-ONLY notice is the model's
choice (log 44). -/
def DescentStarts (cause : DescentCause) (s : State) (bs : List NoticeBody) (t : State) : Prop :=
  t.ilu.release.line = false ∧ t.lines.brake = false ∧ t.ctc.faults = s.ctc.faults ∧
  (s.ctc.floor = false → bs = [] ∧ t.lines.warning = true ∧ ∃ d,
    t.ctc = { s.ctc with state := .descending, descent := some d } ∧ d.record.startCause = cause ∧ d.record.cause = cause ∧
    d.record.startPos = pos s ∧ d.record.faults = [] ∧ d.params = s.settings.curtain ∧
    d.u = s.settings.curtain.release ∧ d.hold = none ∧ d.sup.clock = 0 ∧ d.sup.windowNo = 0) ∧
  (s.ctc.floor = true → t.ctc.state = .down ∧ t.ctc.descent = none ∧ ∃ r, t.ctc.history = (r :: s.ctc.history).take 4 ∧
    r.cause = cause ∧ r.startPos = pos s ∧ r.dropTime = 0 ∧ r.ending = some .arrived)

/-- CLU stood at `c`, its announcer IDLE, and selection followed (R158): with no entry QUEUED nothing comes of it; otherwise the
first in the order of class and arrival is played, or is removed as BARRED where it is left without a zone; `bs` is what was
notified of it. -/
def SelectsFrom (c : Clu) (s : State) (bs : List NoticeBody) (t : State) : Prop :=
  ((∀ f ∈ c.entries, f.state ≠ .queued) → t.clu = c ∧ bs = []) ∧
  ((c.entries.map (·.arrival)).Nodup → ∀ e ∈ c.entries, e.state = .queued →
    (∀ f ∈ c.entries, f.state = .queued → f ≠ e →
      classRank e.cls < classRank f.cls ∨ (f.cls = e.cls ∧ e.arrival < f.arrival)) →
    (s.phase ≠ .running ∨ e.cls = .evac ∨ e.cls = .alert ∨ e.zones &&& ~~~0b00011100#8 ≠ 0 →
      bs = [] ∧ t.clu = { c with
        announcer := .settling (s.now + 200), bellOnly := false,
        entries := c.entries.map fun f =>
          if f.id = e.id then { f with state := .playing (playZones s.phase e.cls e.zones) } else f }) ∧
    (s.phase = .running → e.cls = .showClass ∨ e.cls = .houseClass → e.zones &&& ~~~0b00011100#8 = 0 →
      (∀ f ∈ t.clu.entries, f.id ≠ e.id) ∧ bs.head? = some (.callRemoved e.id e.source e.cls e.plays .barred)))

/-- FAILED was set and stopped the play of `e`, which counts as done with a degraded end (R162, R163, R165): the STOP strobe runs,
the slot lines, the relays and the bells are off, and the entry is removed where its repeats are met, WAITING for its gap, or
QUEUED; `bs` is what was notified of it, in the model's order and with the plays before the raise (logs 19 and 20). -/
def FailureStops (cause : FailedCause) (e : CallEntry) (s : State) (bs : List NoticeBody) (t : State) : Prop :=
  let plays := min 255 (e.plays + 1)
  let met := 1 ≤ e.repeats ∧ e.repeats ≤ plays
  t.clu = { s.clu with
    failed := true, announcer := .stopping (some (s.now + 50)) (s.now + 500),
    entries := if met then s.clu.entries.filter (fun f => f.id ≠ e.id) else s.clu.entries.map fun f =>
      if f.id = e.id then { f with plays, state := if 0 < e.gap then .waiting (s.now + e.gap * 1000) else .queued } else f } ∧
  bs = .announcerFailed cause :: .callPlayed e.id e.plays true ::
    (if met then [.callRemoved e.id e.source e.cls plays .completed] else []) ∧
  t.lines.stop = true ∧ t.lines.play = false ∧ t.lines.slotLines = 0 ∧ t.lines.relays = 0 ∧
  t.lines.bells = List.replicate 4 false ∧ t.ilu.stalls.line = false ∧ t.ilu.circle.line = false ∧ t.ilu.gallery.line = false

/-- The records of a PLAN-PUT pass its checks of R31 and R32: the slots named are there, and each step is valid for the sector. -/
def PutFits (s : State) (l : PlanLetter) (first : Nat) (rs : List StepRecord) : Prop :=
  1 ≤ rs.length ∧ rs.length ≤ 6 ∧ first + rs.length ≤ 48 ∧
    ∀ r ∈ rs, (stepOf (s.store.sector l).acts r).isSome = true

/-- What a PLAN-READ selects is there (R35). -/
def SelectFits : PlanSelect → Prop
  | .header => True
  | .slots first count => 1 ≤ count ∧ count ≤ 6 ∧ first + count ≤ 48

/-- A slot stands as a PLAN-SEAL of `count` steps asks: WRITTEN below the count, BLANK from it on (R33). -/
def SealFits (p : PlanSector) (count i : Nat) : Prop :=
  (i < count → ∃ r, p.slots[i]? = some (.written r)) ∧ (count ≤ i → p.slots[i]? = some .blank)

/-- The key state follows a change of the down set from `d` to `e` (TABLE LXII, R184, R185), where a debounce timer started now
runs until `timer`; `bs` is what is notified of it. -/
def KeyFollows (timer : Nat) (d e : Dsu) (bs : List NoticeBody) : Prop :=
  let joined := ∃ k ∈ e.down, k ∉ d.down
  let released : KeyState := .releaseDebounce (if e.down = [] then some timer else none)
  (e.down = d.down → e.key = d.key ∧ bs = []) ∧
  (e.down ≠ d.down →
    (d.key = .idle → bs = [] ∧ (joined → e.key = .pressDebounce timer) ∧ (¬ joined → e.key = .idle)) ∧
    (∀ x, d.key = .pressDebounce x → bs = [] ∧ e.key = if e.down = [] then .idle else .pressDebounce timer) ∧
    (∀ k x, d.key = .held k x →
      (k ∉ e.down → bs = [] ∧ e.key = released) ∧
      (k ∈ e.down → joined → bs = [.rollover e.down .held] ∧ e.key = .rollover) ∧
      (k ∈ e.down → ¬ joined → bs = [] ∧ e.key = d.key)) ∧
    (d.key = .rollover → bs = [] ∧ e.key = if e.down = [] then .releaseDebounce (some timer) else .rollover) ∧
    (∀ x, d.key = .releaseDebounce x → bs = [] ∧ e.key = released))

/-- The commands that change the level of one of the part's inputs. -/
def sensed : Instr → Bool
  | .encoderCountChange _ | .topChange _ | .overtravelChange _ | .floorChange _ | .edgeTrip _ | .busyRise | .busyFall => true
  | _ => false

/-- The commands that stand for the frame of a request the part knows; the others are the events of its timers and lines, and
the frame of a request it does not know (R192). -/
def requestOf : Instr → Option RequestKind
  | .arm _ => some .arm
  | .openHouse => some .openHouse
  | .begin => some .begin
  | .interval => some .interval
  | .endShow => some .endShow
  | .showStop => some .showStop
  | .resume => some .resume
  | .evacuate => some .evacuate
  | .close => some .close
  | .disarm => some .disarm
  | .performanceRead => some .performanceRead
  | .planOpen .. => some .planOpen
  | .planPut .. => some .planPut
  | .planSeal .. => some .planSeal
  | .planErase _ => some .planErase
  | .planRead .. => some .planRead
  | .stepRead .. => some .stepRead
  | .extend _ => some .extend
  | .curtainRaise => some .curtainRaise
  | .curtainLower => some .curtainLower
  | .curtainTest => some .curtainTest
  | .curtainHalt => some .curtainHalt
  | .curtainClear => some .curtainClear
  | .curtainRead => some .curtainRead
  | .presetWrite .. => some .presetWrite
  | .lightsGo .. => some .lightsGo
  | .houseFull => some .houseFull
  | .lightsRestore => some .lightsRestore
  | .lightsRead _ => some .lightsRead
  | .deviceRead _ => some .deviceRead
  | .deviceCounts .. => some .deviceCounts
  | .zoneIsolate .. => some .zoneIsolate
  | .zoneRestore _ => some .zoneRestore
  | .fireAck => some .fireAck
  | .fireFull => some .fireFull
  | .fireSilence => some .fireSilence
  | .fireReset => some .fireReset
  | .walkTest _ => some .walkTest
  | .walkTestEnd => some .walkTestEnd
  | .fireRead _ => some .fireRead
  | .templateWrite .. => some .templateWrite
  | .call _ => some .call
  | .callTemplate _ => some .callTemplate
  | .announcerReset => some .announcerReset
  | .callCancel _ => some .callCancel
  | .queueRead .. => some .queueRead
  | .interlockRead => some .interlockRead
  | .sampleRead => some .sampleRead
  | .deskRead => some .deskRead
  | .identify => some .identify
  | .linkCounts => some .linkCounts
  | .status => some .status
  | .restart => some .restart
  | .configSet _ => some .configSet
  | .configGet _ => some .configGet
  | .configStore => some .configStore
  | .resetAssert _ | .resetRelease | .storeOperationEnd _ | .stepDue | .intervalExpired | .encoderCountChange _ | .topChange _
  | .overtravelChange _ | .floorChange _ | .edgeTrip _ | .obstructionHoldEnd | .raiseTimeout | .stopWarningEnd
  | .floorTimerExpiry | .descentWindow | .timeOnlyLate | .fadeEvaluation _ | .pollSlotStart | .pollSlotEnd .. | .continuityDue
  | .continuityResult _ | .walkIndicationExpiry _ | .isolationExpiry _ | .fireTimerExpiry | .settlingEnd | .bellSegmentEnd
  | .playStrobeEnd | .busyRise | .busyFall | .noStart | .speakingLimitExpiry | .stopStrobeEnd | .stopTimeout | .readyTime _
  | .lineConversion _ | .columnRead _ | .debounceExpiry | .longTimerExpiry | .refusedIndicationExpiry | .flashHalfPeriod
  | .frameTimeout | .frameRejected _ | .frameOverrun | .unknownKind _ | .outboundFrameSent | .frameSync
  | .stepDueWithin60S => none

/-- Sector 4 as a reset finds it: a CONFIG-STORE that the reset cut short has left it without its store mark (R199). -/
def sector4 (s : State) : ConfigSector :=
  match s.store.inFlight with
  | some { op := .storeConfig _, .. } => { s.store.config with mark := false }
  | _ => s.store.config

/-- The reset state of every block but CTC, LP and the plan store, under the configuration loaded (R2, R108, R129, R130, R134,
R172, R173, R177, R182, R185, R188, R189, R200). -/
structure Restarted (s t : State) : Prop where
  now      : t.now = 0
  held     : t.held = none
  pending  : t.pending = s.pending
  loaded   : ∀ c, (sector4 s).copy = some c → (sector4 s).valid = true → t.settings = c
  default  : (sector4 s).valid = false → t.settings = Settings.defaults
  perf     : t.pfu = Pfu.reset
  lights   : t.hlu = Hlu.reset
  fire     : t.fdu = Fdu.reset t.settings
  calls    : t.clu = Clu.reset s.clu.busy
  gates    : t.ilu = Ilu.reset
  monitor  : t.lmu = Lmu.reset
  desk     : t.dsu = Dsu.reset t.settings

/-- The fire state has become FULL with a cause, and the part has met it (R16, R64, R103, R141, R145, R167, R174). -/
structure EntersFull (s : State) (cause : FullCause) (t : State) : Prop where
  now       : t.now = s.now
  held      : t.held = s.held
  settings  : t.settings = s.settings
  store     : t.store = s.store
  lmu       : t.lmu = s.lmu
  dsu       : t.dsu = s.dsu
  pending   : t.pending = s.pending
  full      : t.fireFull = true
  cause     : t.fdu.fire.cause = some cause
  loud      : t.fdu.fire.silenced = false
  timer     : t.fdu.fire.timer = none
  entry     : t.fdu.fire.entry = s.now
  noWalk    : t.fdu.fire.walk = none
  devices   : t.fdu.devices = s.fdu.devices
  isolation : t.fdu.isolation = List.replicate 16 none
  sounders  : t.lines.sounders = List.replicate 4 true
  hoist     : t.ilu.hoist.line = false
  release   : t.ilu.release.line = false
  relay     : t.ilu.relay.line = false
  curtain   : CurtainFalls t
  /-- Every phase but DARK, EVACUATE and CLOSED becomes EVACUATE, with every PENDING step SKIPPED and no SHOW or HOUSE call left. -/
  evacuates : s.phase ≠ .dark → s.phase ≠ .evacuate → s.phase ≠ .closed →
    t.phase = .evacuate ∧ t.pfu.perf.resume = none ∧ t.pfu.perf.stopCause = .none ∧ t.pfu.perf.entry = s.now ∧
      t.pfu.table = s.pfu.table.map (fun e => if e = .pending then .skipped else e) ∧
      ∀ e ∈ t.clu.entries, e.cls = .evac ∨ e.cls = .alert
  stays     : s.phase = .dark ∨ s.phase = .evacuate ∨ s.phase = .closed → t.pfu = s.pfu

end Sys2Proof.Safety
end

