-- ==== Sys2Proof/Certificates/Slice0/Obligations.lean ====
section
/-!
DEFINITION. The statements for the provers, `Obligations.<Name>`: the frames of a step, the conditions every step keeps, and
what each family of commands does.
-/

open Sys2Proof Sys2Proof.Machine Sys2Proof.Safety

/-! ## The step -/

/-- A step runs the command at the front of the queue with the rest of the queue. No command stops the part: each
answers a next state. The queue is the model's own (log 34). -/
def Obligations.StepRunsTheFrontCommand : Prop :=
  (∀ (c : Instr) (cs : List Instr) (s : State), step { s with pending := c :: cs } = exec c { s with pending := cs }) ∧
  ∀ (c : Instr) (s : State), ∃ t, exec c s = .next t

/-- The model's choice (log 1): with no command waiting and nothing due a millisecond passes, in which the RUNNING anchor
clocks and the drop-time clock and window of a descent without a hold advance (R3, R63, R71); where events are due, one of
them joins the queue. That the drop-time clock holds at 4,294,967,295 is the model's choice too (log 43). -/
def Obligations.EmptyQueueLetsTimePass : Prop :=
  ∀ s : State, s.pending = [] → s.held = none →
    (s.dueEvents = [] → ∃ t, step s = .next t ∧ Only [.uptime, .performance, .curtain] s t ∧ t.now = s.now + 1 ∧
      t.pfu = { s.pfu with perf := { s.pfu.perf with clocks := t.pfu.perf.clocks } } ∧
      (∀ i, t.pfu.perf.clocks.get i =
        if (s.pfu.perf.clocks.get i).run = .running then
          { run := .running, value := min 86400000 ((s.pfu.perf.clocks.get i).value + 1) }
        else s.pfu.perf.clocks.get i) ∧
      t.ctc = { s.ctc with descent := t.ctc.descent } ∧
      (∀ d, s.ctc.descent = some d → ∃ e, t.ctc.descent = some e ∧ e.record = d.record ∧ e.u = d.u ∧ e.hold = d.hold ∧
        (d.hold.isSome = true → e = d) ∧
        (d.hold = none → e.sup.clock = min 4294967295 (d.sup.clock + 1) ∧ e.sup.progress = d.sup.progress + 1 ∧
          (s.ctc.faults.contains .encoder = true → e.floorTimer = d.floorTimer) ∧
          (s.ctc.faults.contains .encoder = false → e.floorTimer = d.floorTimer.map (· + 1))))) ∧
    (s.dueEvents ≠ [] → ∃ t e, step s = .next t ∧ e ∈ s.dueEvents ∧ t.pending = [e] ∧ Only [.draws, .queue] s t)

/-! ## Reset -/

/-- Reset is asserted: every output goes to its de-energised state, the RETARDER command to 500 and the dimmer outputs to code
0, and a frame received or sent is lost (R45, R101, R145, R149, R177, R183, R189, R191). While reset is held nothing happens
but that the levels of the inputs are followed (R45, R129, R149, R177, R183, R189, R191; that a second assertion changes
nothing is the model's choice, log 14). That a reset of every cause, that of a RESTART too, is held until RESET-RELEASE is the
model's choice (log 74). -/
def Obligations.ResetHoldsThePart : Prop :=
  (∀ (cause : ResetCause) (s : State), s.held = none → ∃ t, exec (.resetAssert cause) s = .next t ∧
     Only [.reset, .gates, .link, .lines] s t ∧ t.held = some cause ∧
     t.ilu.hoist.line = false ∧ t.ilu.release.line = false ∧ t.ilu.relay.line = false ∧ t.ilu.stalls.line = false ∧
     t.ilu.circle.line = false ∧ t.ilu.gallery.line = false ∧
     t.lines.brake = false ∧ t.lines.warning = false ∧ t.lines.retarder = 500 ∧ t.lines.codes = List.replicate 12 0 ∧
     t.lines.sounders = List.replicate 4 false ∧ t.lines.play = false ∧ t.lines.stop = false ∧ t.lines.slotLines = 0 ∧
     t.lines.relays = 0 ∧ t.lines.bells = List.replicate 4 false ∧ t.lines.column = none ∧
     t.lines.lamps = List.replicate 8 false ∧ t.lp = { s.lp with frame := none, line := none }) ∧
  ∀ s : State, s.held.isSome = true →
    (∀ c, sensed c = false → c ≠ .resetRelease → exec c s = .next s) ∧
    (∀ n, n < 65536 → exec (.encoderCountChange n) s = .next { s with ctc := { s.ctc with count := n } }) ∧
    (∀ b, exec (.topChange b) s = .next { s with ctc := { s.ctc with top := b } } ∧
      exec (.overtravelChange b) s = .next { s with ctc := { s.ctc with overtravel := b } } ∧
      exec (.floorChange b) s = .next { s with ctc := { s.ctc with floor := b } } ∧
      exec (.edgeTrip b) s = .next { s with ctc := { s.ctc with edge := b } }) ∧
    exec .busyRise s = .next { s with clu := { s.clu with busy := true } } ∧
    exec .busyFall s = .next { s with clu := { s.clu with busy := false } }

/-- Reset is released with FLOOR closed and p at 20 or below: every block takes its reset state, under the configuration
that sector 4 holds or the defaults, the curtain is DOWN with no fault and no history, and the RESET notice goes out first
with CONFIG-DEFAULTED behind it where the configuration is defaulted (R2, R49, R69, R108, R129, R134, R172, R177, R182,
R183, R185, R188, R189, R194, R199, R200). Reset is released with FLOOR open, or with p above 20: a RESET descent starts,
with ENCODER latched in it at once where p lies above H + 200; one that finds EDGE operated holds at once, and one that finds
FLOOR closed arrives at its start (R49, R50, R57, R63, R66, R68, R69, R74, R86). That the initial ENCODER is found in the
RESET descent, which opens in TIME-ONLY mode, that DOWN at reset sends no CURTAIN notice, that the RESET notice is on the line
at once, and the order of the notices are the model's choices (logs 22, 24, 13 and 19), and so are that a hold taken at once
comes before an arrival at the start (log 53), that the notice of a hold carries its event alone (log 52), that opening in
TIME-ONLY mode sends no TIME-ONLY notice (log 44), and that the clearing of a FAILED announcer sends no RESTORED notice (log
57). -/
def Obligations.ResetReleaseStartsThePart : Prop :=
  (∀ (cause : ResetCause) (s : State), s.held = some cause → s.ctc.floor = true →
     s.ctc.count * 100 / (sector4 s).load.curtain.counts ≤ 20 →
     ∃ t, exec .resetRelease s = .next t ∧ Restarted s t ∧
       t.ctc = { state := .down, faults := [], count := s.ctc.count, floor := true, top := s.ctc.top,
                 overtravel := s.ctc.overtravel, edge := s.ctc.edge, aboveLimit := false, raiseDeadline := none,
                 warnDeadline := none, descent := none, history := [] } ∧
       t.lp = { Lp.reset (!(sector4 s).valid) with
                line := some (.notice { cls := .unstated .reset, time := 0, body := .reset cause }),
                notices := if (sector4 s).valid then [] else [{ cls := .info, time := 0, body := .configDefaulted }] }) ∧
  ∀ (cause : ResetCause) (s : State), s.held = some cause →
    let q := (sector4 s).load.curtain
    let p := s.ctc.count * 100 / q.counts
    let faults := if q.travel + 200 < p then [CurtainFault.encoder] else []
    let holds := if s.ctc.edge then 1 else 0
    let opening := (if (sector4 s).valid then [] else [NoticeBody.configDefaulted]) ++
      [.curtainState .descending (some .reset) p q.release] ++ (if s.ctc.edge then [.curtainHold .begun] else []) ++
      (if q.travel + 200 < p then [.curtainFault .encoder .descending (some .reset) p] else [])
    (s.ctc.floor = false ∨ 20 < p) →
    ∃ t bs, exec .resetRelease s = .next t ∧ Restarted s t ∧ t.ctc.faults = faults ∧ t.ctc.count = s.ctc.count ∧
      t.lp = { Lp.reset (!(sector4 s).valid) with
               line := some (.notice { cls := .unstated .reset, time := 0, body := .reset cause }),
               notices := (opening ++ bs).map fun b => { cls := b.cls, time := 0, body := b } } ∧
      (s.ctc.floor = false → bs = [] ∧ t.ctc.state = .descending ∧ t.ctc.history = [] ∧ t.lines.warning = true ∧
        t.lines.brake = s.ctc.edge ∧ ∃ d, t.ctc.descent = some d ∧
        d.record = { startCause := .reset, cause := .reset, startTime := 0, startPos := p, dropTime := 0, maxSpeed := 0,
                     holds, ignored := 0, faults, finalU := d.record.finalU, ending := none } ∧
        d.params = q ∧ d.u = q.release ∧ d.sup.prevPos = p ∧ d.sup.clock = 0 ∧
        d.sup.timeOnly = decide (q.travel + 200 < p) ∧ d.floorTimer = (if p ≤ 20 then some 0 else none) ∧
        d.hold = if s.ctc.edge then some (q.hold * 1000) else none) ∧
      (s.ctc.floor = true → t.ctc.state = .down ∧ t.ctc.descent = none ∧ ∃ r, t.ctc.history = [r] ∧
        r = { startCause := .reset, cause := .reset, startTime := 0, startPos := p, dropTime := 0, maxSpeed := 0, holds,
              ignored := 0, faults, finalU := q.release, ending := some .arrived } ∧
        bs = [.curtainState .down none p q.release, .curtainArrival r])

/-- At a reset each plan sector is examined: an operation on the whole sector, or a seal, that was cut short leaves it BAD;
a SEALED sector whose check value no longer matches becomes BAD; of a PUT that was cut short the slots it did not name
stand, and those it named are WRITTEN, DAMAGED or as they stood by how far it had come (R26). A CONFIG-STORE that was cut
short leaves sector 4 without its store mark, and otherwise sector 4 is unchanged (R199, R200). That a PUT programs its
slots in rising order, so that one at most is DAMAGED, with those below it WRITTEN and those above it as they stood, is the
model's choice (log 4); how far it had come, and what a spoiled sector reads as, are free (logs 4 and 5). -/
def Obligations.ResetExaminesTheStore : Prop :=
  ∀ (cause : ResetCause) (s : State), s.held = some cause → ∃ t, exec .resetRelease s = .next t ∧ t.store.inFlight = none ∧
    (∀ l, (∀ f, s.store.inFlight = some f → opLetter f.op ≠ some l) →
      t.store.sector l =
        if (s.store.sector l).state = .sealed ∧ (s.store.sector l).freshCheck (s.store.sector l).count ≠
          some (s.store.sector l).check then { s.store.sector l with state := .bad } else s.store.sector l) ∧
    (∀ f l, s.store.inFlight = some f → opLetter f.op = some l →
      (∀ first rs, f.op ≠ .put l first rs) → (t.store.sector l).state = .bad) ∧
    (∀ f l first rs, s.store.inFlight = some f → f.op = .put l first rs → (s.store.sector l).state = .opened →
      (t.store.sector l).state = .opened ∧
      (∀ i, i < first ∨ first + rs.length ≤ i → (t.store.sector l).slots[i]? = (s.store.sector l).slots[i]?) ∧
      ∃ k, k ≤ rs.length ∧ ∀ i, i < rs.length → first + i < (s.store.sector l).slots.length →
        (i < k → (t.store.sector l).slots[first + i]? = rs[i]?.map Slot.written) ∧
        (i = k → (t.store.sector l).slots[first + i]? = some .damaged ∨
          (t.store.sector l).slots[first + i]? = (s.store.sector l).slots[first + i]?) ∧
        (k < i → (t.store.sector l).slots[first + i]? = (s.store.sector l).slots[first + i]?)) ∧
    (∀ f c, s.store.inFlight = some f → f.op = .storeConfig c → t.store.config = { s.store.config with mark := false }) ∧
    ((∀ f c, s.store.inFlight = some f → f.op ≠ .storeConfig c) → t.store.config = s.store.config)

/-- The state after reset meets every condition that a step keeps. Where the manual gives no value the state after reset
rests on the model's choices (logs 10, 12 and 13). -/
def Obligations.ResetStateIsSound : Prop :=
  PlanOk State.reset.pfu.perf ∧ RecordOk State.reset.pfu.perf ∧ LockOk State.reset ∧ GatesCurrent State.reset ∧
    GatesOk State.reset.ilu ∧ LineLaws State.reset ∧ LinesDriven State.reset ∧ LinkOk State.reset.lp ∧
    CurtainOk State.reset.ctc ∧ CurtainFalls State.reset ∧ OverrideFull State.reset ∧ FullPhase State.reset ∧
    QueueOk State.reset.clu ∧ EntriesOk State.reset.clu ∧ BoundsOk State.reset ∧ State.reset.fdu.watch.Nodup ∧
    SizesOk State.reset

/-! ## What every step keeps -/

/-- Every step keeps the plan field and the phase together: NONE exactly in DARK (R2, R6, R18). Every step keeps the
record's fields together: a stop cause and a resume phase stand in STOPPED and nowhere else, the stop count saturates at 15
and the anchor clocks hold at 86,400,000 ms (R1, TABLE X). -/
def Obligations.RecordHoldsTogether : Prop :=
  (∀ s t : State, PlanOk s.pfu.perf → step s = .next t → PlanOk t.pfu.perf) ∧
  ∀ s t : State, RecordOk s.pfu.perf → step s = .next t → RecordOk t.pfu.perf

/-- No step begins an operation on the armed plan's sector, and while a plan is armed no step but the release of a reset
changes its sector (R25). -/
def Obligations.ArmedSectorStands : Prop :=
  ∀ s t : State, PlanOk s.pfu.perf → LockOk s → step s = .next t → LockOk t ∧
    ∀ l, s.held = none → s.pfu.perf.plan = some l → t.store.sector l = s.store.sector l

/-- Curtain-proven is cleared by an accepted ARM or DISARM and by reset and by nothing else, and no step sets it in DARK
(R6, R18, R19, R20). -/
def Obligations.ProvenFlag : Prop :=
  ∀ (c : Instr) (s t : State), exec c s = .next t →
    (s.pfu.perf.proven = true → t.pfu.perf.proven = false →
      (∃ l, c = .arm l) ∨ c = .disarm ∨ c = .resetRelease) ∧
    (s.pfu.perf.proven = false → t.pfu.perf.proven = true → s.phase ≠ .dark)

/-- After every step the gates are as their owners demand them and the forcing conditions of the moment let them be, and no
audience relay is left denied (R168, R174, R175). After every step the ungated outputs are driven as their blocks give them
(TABLE XXII, TABLE XXIV, R48, R101, R145, R149, R183, R189). That the conditions of a forcing set are listed in the order of
TABLE LIX is the model's choice (log 71). -/
def Obligations.GatesAndLinesFollowEveryStep : Prop :=
  (∀ s t : State, GatesCurrent s → step s = .next t → GatesCurrent t) ∧
  ∀ s t : State, LinesDriven s → step s = .next t → LinesDriven t

/-- The laws of the safety outputs hold of any state whose gates are current: HOIST is de-energised under each of its
forcing conditions, RELEASE and the emergency-lighting relay while the fire state is FULL or the phase EVACUATE, and the
audience relays in RUNNING while a SHOW or HOUSE call plays; and a gate is energised exactly while demanded and not forced
(R174). -/
def Obligations.SafetyOutputLaws : Prop :=
  ∀ s : State, s.held = none → GatesCurrent s → GatesOk s.ilu ∧ LineLaws s

/-- Every step keeps the link port's bounds: two frames in the inbound buffer, sixteen notices, counters of 255 at most
(R191, R192, R194). Every step keeps the history at four records, the watch list at eight devices and the isolations at four
zones (R69, R121, R132). Every step keeps the watch list free of an address held twice (R121), and every table of the part at its
size (R88, R90, R109, R130, R145, R151, R152, R179). -/
def Obligations.BoundsHold : Prop :=
  (∀ s t : State, LinkOk s.lp → step s = .next t → LinkOk t.lp) ∧
  (∀ s t : State, BoundsOk s → step s = .next t → BoundsOk t) ∧
  (∀ s t : State, s.fdu.watch.Nodup → step s = .next t → t.fdu.watch.Nodup) ∧
  ∀ s t : State, SizesOk s → step s = .next t → SizesOk t

/-- Every step keeps the curtain's state, its descent and its timers together (R52, R57, R59, R71). Under FULL or EVACUATE
the curtain is down or comes down in a descent that no request and no edge trip can stop, and every step keeps it so (R53,
R64). -/
def Obligations.CurtainHoldsTogether : Prop :=
  (∀ s t : State, CurtainOk s.ctc → step s = .next t → CurtainOk t.ctc) ∧
  ∀ s t : State, CurtainOk s.ctc → CurtainFalls s → step s = .next t → CurtainFalls t

/-- FULL stands beside DARK, EVACUATE and CLOSED only, and every step keeps it so (R6, R16, R17). FULL is left by an
accepted FIRE-RESET and by reset, and in no other way (R144). Under the override every channel stands at full with no fade,
and every step keeps it so (R103, R104). -/
def Obligations.FullStandsUntilReset : Prop :=
  (∀ s t : State, FullPhase s → step s = .next t → FullPhase t) ∧
  (∀ (c : Instr) (s t : State), exec c s = .next t → s.fireFull = true → t.fireFull = false →
     c = .fireReset ∨ c = .resetRelease) ∧
  ∀ s t : State, OverrideFull s → step s = .next t → OverrideFull t

/-- Every step keeps the queue's bounds, its ids and the one PLAYING entry (R156, R159). Every step keeps the entries apart: no two
have one place in the order of arrival, each came before the next to come, and no two are equal in message slot, zone set and
class (R155, R156). -/
def Obligations.QueueStaysWithinBounds : Prop :=
  (∀ s t : State, QueueOk s.clu → step s = .next t → QueueOk t.clu) ∧
  ∀ s t : State, EntriesOk s.clu → step s = .next t → EntriesOk t.clu

/-! ## Chapter 1: the phases -/

/-- ARM of a SEALED plan whose check value matches and whose header and steps are valid, in DARK with the fire state not
FULL, no store operation and no walk test: the record starts afresh in PREPARE, the plan is copied, every step is PENDING,
and the lights take the header's PREPARE entry unless the override is in force (R6, R28, R36, R40, R97, R104). ARM is
refused in this order: no such plan letter, another phase than DARK, fire state FULL, a store operation in flight, a walk
test in progress, an EMPTY sector, an OPEN or BAD one, and a SEALED one whose contents fail, which becomes BAD (R6, R36).
That all the notices of one command have joined before the line takes any is the model's choice (log 70). -/
def Obligations.ArmStartsAPerformance : Prop :=
  (∀ (l : PlanLetter) (copy : RunningCopy) (s : State), Admits s → GatesCurrent s → s.phase = .dark → s.fireFull = false →
     s.store.busy = false → s.fdu.fire.walk = none → (s.store.sector l).state = .sealed →
     (s.store.sector l).runningCopy = some copy →
     ∃ t, exec (.arm (some l)) s = .next t ∧ Only [.performance, .lights, .link, .lines, .draws] s t ∧
       t.pfu = { perf := { plan := some l, phase := .prepare, act := 0, acts := copy.header.acts, intervalNo := 0,
                           intervalLen := 0, proven := false, stopCause := .none, resume := none, stops := 0,
                           clocks := Clocks.fresh, entry := s.now },
                 runningCopy := some copy, table := List.replicate copy.steps.length .pending, expirySent := false,
                 stepDueSoon := false } ∧
       t.hlu = (if s.ilu.relay.line then s.hlu.loadMap s.now s.settings copy.header.prepare else s.hlu) ∧
       Replies s .arm (.done (.phase .prepare 0 0)) [.phase .prepare 0 0 (.request .arm .link) .none 0 none] t) ∧
  ∀ s : State, Admits s →
    Refuses (.arm none) .arm .badField .none s ∧
    ∀ l, (s.phase ≠ .dark → Refuses (.arm (some l)) .arm .wrongPhase .none s) ∧
      (s.phase = .dark →
        (s.fireFull = true → Refuses (.arm (some l)) .arm .alarmActive .none s) ∧
        (s.fireFull = false →
          (s.store.busy = true → Refuses (.arm (some l)) .arm .busy .none s) ∧
          (s.store.busy = false →
            (s.fdu.fire.walk.isSome = true → Refuses (.arm (some l)) .arm .wrongState .none s) ∧
            (s.fdu.fire.walk = none →
              ((s.store.sector l).state = .empty → Refuses (.arm (some l)) .arm .noPlan .none s) ∧
              ((s.store.sector l).state = .opened ∨ (s.store.sector l).state = .bad →
                Refuses (.arm (some l)) .arm .planBad .none s) ∧
              ((s.store.sector l).state = .sealed → (s.store.sector l).runningCopy = none →
                ∃ t, exec (.arm (some l)) s = .next t ∧ Only [.store, .link, .lines, .draws] s t ∧
                  t.store = s.store.setSector l { s.store.sector l with state := .bad } ∧
                  Replies s .arm (.refused .planBad .none) [] t)))))

/-- OPEN-HOUSE is taken only in PREPARE and has no conditions: the phase becomes HOUSE-OPEN and the HOUSE-OPEN clock starts
(R7); where no step falls due at that moment, whatever steps are PENDING, the channels whose hold flag is clear start toward
the preset of the header's HOUSE-OPEN entry, unless it is 255 or the override is in force (R28, R94, R97, R104). The load of
the lighting map in any phase: the channels whose hold flag is clear start toward the preset of the phase's entry, those
whose hold flag is set stay as they are, and a phase without an entry, an entry of 255 and the override leave the lights as
they stand (R28, R94, R97, R104). That all the notices of one command have joined before the line takes any is the model's
choice (log 70). -/
def Obligations.OpenHouseOpensTheHouse : Prop :=
  (∀ s : State, Admits s →
     (s.phase = .prepare → ∃ t, exec .openHouse s = .next t ∧
       PhaseMoved s .openHouse { s.pfu with perf := { s.pfu.perf with
         phase := .houseOpen, clocks := { s.pfu.perf.clocks with houseOpen := { run := .running, value := 0 } },
         entry := s.now } } [] t ∧
       (∀ copy, s.pfu.runningCopy = some copy → GatesCurrent s →
         NoneDue { s.pfu with perf := { s.pfu.perf with
           clocks := { s.pfu.perf.clocks with houseOpen := { run := .running, value := 0 } } } } →
         let m := copy.header.houseOpen
         Only [.performance, .lights, .gates, .link, .lines, .draws] s t ∧
         (s.ilu.relay.line = false ∨ m.preset = 255 → t.hlu = s.hlu) ∧
         (s.ilu.relay.line = true → m.preset ≠ 255 → t.hlu = { s.hlu with channels := t.hlu.channels } ∧
           ∀ (i : Nat) (r : ChannelRun), s.hlu.channels[i]? = some r → t.hlu.channels[i]? = some
             (if (s.settings.channel i).hold then r
              else if m.fade = 0 then { active := s.settings.presetLevel m.preset i, fade := none }
              else { r with fade := some { start := r.active, target := s.settings.presetLevel m.preset i, started := s.now,
                                           duration := m.fade * 100, origin := .autoLoad, evals := 0 } })))) ∧
     (s.phase ≠ .prepare → Refuses .openHouse .openHouse .wrongPhase .none s)) ∧
  ∀ (copy : RunningCopy) (s : State), s.pfu.runningCopy = some copy →
    let m : Option MapEntry := match s.phase with
      | .prepare => some copy.header.prepare
      | .houseOpen => some copy.header.houseOpen
      | .running => some copy.header.running
      | .interval => some copy.header.interval
      | .closed => some copy.header.closed
      | .dark | .resuming | .stopped | .evacuate => none
    (m = none ∨ s.ilu.relay.line = false → s.loadMap = s) ∧
    ∀ e, m = some e → s.ilu.relay.line = true →
      (e.preset = 255 → s.loadMap = s) ∧
      (e.preset ≠ 255 → s.loadMap = { s with hlu := { s.hlu with channels := s.loadMap.hlu.channels } } ∧
        ∀ (i : Nat) (r : ChannelRun), s.hlu.channels[i]? = some r → s.loadMap.hlu.channels[i]? = some
          (if (s.settings.channel i).hold then r
           else if e.fade = 0 then { active := s.settings.presetLevel e.preset i, fade := none }
           else { r with fade := some { start := r.active, target := s.settings.presetLevel e.preset i, started := s.now,
                                        duration := e.fade * 100, origin := .autoLoad, evals := 0 } }))

/-- BEGIN with the curtain UP and proven, the fire state QUIET and channel 6 NORMAL: from HOUSE-OPEN act 1 starts, from
INTERVAL n act n + 1 starts, and the instance left ends with its PENDING steps SKIPPED; from RESUMING the stopped act goes
on from its value (R3, R8, R41). The conditions of BEGIN are tested in order: the phase, the curtain state, curtain-proven,
the fire state, channel 6 (R8). In each of the three phases BEGIN that finds a SHOW or HOUSE call playing, where no step
falls due at that moment, takes the audience zones out of its effective zone set, since their relays are then denied, and
ends the play with the cause CUT where no zone is left (R168, R174, R175). That the STEP notice of skipped steps comes
before the PHASE notice, and the PHASE notice before the CALL notice of the cut, is the model's choice (log 19). That all
the notices of one command have joined before the line takes any is the model's choice (log 70). -/
def Obligations.BeginRunsAnAct : Prop :=
  let entered (s : State) : Pfu × List NoticeBody :=
    let p := s.pfu.perf
    match s.phase with
    | .houseOpen =>
      ({ (s.pfu.skipInstance .houseOpen).1 with perf := { p with
           phase := .running, act := 1, entry := s.now,
           clocks := { p.clocks with houseOpen := { p.clocks.houseOpen with run := .ended }, act1 := { run := .running, value := 0 } } } },
       (s.pfu.skipInstance .houseOpen).2)
    | .interval =>
      ({ (s.pfu.skipInstance (intervalClock p.intervalNo)).1 with perf := { p with
           phase := .running, act := p.intervalNo + 1, entry := s.now,
           clocks := (p.clocks.finish (intervalClock p.intervalNo)).start (actClock (p.intervalNo + 1)) } },
       (s.pfu.skipInstance (intervalClock p.intervalNo)).2)
    | _ =>
      ({ s.pfu with perf := { p with phase := .running, entry := s.now, clocks := p.clocks.continue (actClock p.act) } }, [])
  (∀ s : State, Admits s → s.ctc.state = .up → s.pfu.perf.proven = true → s.fireQuiet = true → s.lmu.limitState 6 = .normal →
     s.phase = .houseOpen ∨ s.phase = .interval ∨ s.phase = .resuming →
     ∃ t, exec .begin s = .next t ∧ PhaseMoved s .begin (entered s).1 (entered s).2 t) ∧
  (∀ (e : CallEntry) (z : ZoneSet) (s : State), Admits s → GatesCurrent s → QueueOk s.clu → s.ctc.state = .up →
     s.pfu.perf.proven = true → s.fireQuiet = true → s.lmu.limitState 6 = .normal →
     s.phase = .houseOpen ∨ s.phase = .interval ∨ s.phase = .resuming → NoneDue (entered s).1 →
     s.clu.playing = some e → e.state = .playing z → e.cls = .showClass ∨ e.cls = .houseClass →
     let p := (entered s).1.perf
     let told : List NoticeBody := (entered s).2 ++
       [.phase .running p.act p.intervalNo (.request .begin .link) p.stopCause p.stops none]
     let done : Decision := .done (.phase .running p.act p.intervalNo)
     ∃ t, exec .begin s = .next t ∧
       t.ilu.stalls.line = false ∧ t.ilu.circle.line = false ∧ t.ilu.gallery.line = false ∧
       (z &&& 0b00011100#8 = 0 → t.clu = s.clu ∧ Replies s .begin done told t) ∧
       (z &&& 0b00011100#8 ≠ 0 → z &&& ~~~0b00011100#8 ≠ 0 →
         t.clu = { s.clu with entries := s.clu.entries.map fun f =>
           if f.id = e.id then { f with state := .playing (z &&& ~~~0b00011100#8) } else f } ∧
         Replies s .begin done told t) ∧
       (z &&& 0b00011100#8 ≠ 0 → z &&& ~~~0b00011100#8 = 0 →
         t.clu = { s.clu with
           entries := s.clu.entries.filter (fun f => f.id ≠ e.id),
           announcer := .stopping (some (s.now + 50)) (s.now + 500) } ∧
         Replies s .begin done (told ++ [.callRemoved e.id e.source e.cls e.plays .cut]) t)) ∧
  ∀ s : State, Admits s →
    (s.phase ≠ .houseOpen → s.phase ≠ .interval → s.phase ≠ .resuming → Refuses .begin .begin .wrongPhase .none s) ∧
    (s.phase = .houseOpen ∨ s.phase = .interval ∨ s.phase = .resuming →
      (s.ctc.state ≠ .up → Refuses .begin .begin .wrongState .none s) ∧
      (s.ctc.state = .up →
        (s.pfu.perf.proven = false → Refuses .begin .begin .notProven .none s) ∧
        (s.pfu.perf.proven = true →
          (s.fireQuiet = false → Refuses .begin .begin .alarmActive .none s) ∧
          (s.fireQuiet = true → s.lmu.limitState 6 ≠ .normal → Refuses .begin .begin .notReady .none s))))

/-- INTERVAL is taken in RUNNING of an act that is not the last: the act ends with its PENDING steps SKIPPED, and the
interval of its number starts with the plan's length (R3, R9, R41). END closes the performance from RUNNING of the last act,
or from STOPPED: the instance in hand or suspended ends, the stop cause and the resume phase go, the CLOSED clock starts,
and the steps of the ended instance and those never reached are SKIPPED (R3, R10, R41). That the STEP notices of skipped
steps come before the PHASE notice is the model's choice (log 19), and so is that at one END the notice of the ended
instance comes before that of the steps never reached (log 61). That all the notices of one command have joined before the
line takes any is the model's choice (log 70). -/
def Obligations.IntervalAndEnd : Prop :=
  (∀ s : State, Admits s →
     (s.phase = .running → s.pfu.perf.act < s.pfu.perf.acts → ∀ copy, s.pfu.runningCopy = some copy →
       ∃ t, exec .interval s = .next t ∧
         PhaseMoved s .interval { (s.pfu.skipInstance (actClock s.pfu.perf.act)).1 with
           expirySent := false,
           perf := { s.pfu.perf with
             phase := .interval, intervalNo := s.pfu.perf.act, intervalLen := headerInterval copy.header s.pfu.perf.act,
             entry := s.now,
             clocks := (s.pfu.perf.clocks.finish (actClock s.pfu.perf.act)).start (intervalClock s.pfu.perf.act) } }
           (s.pfu.skipInstance (actClock s.pfu.perf.act)).2 t) ∧
     (s.phase ≠ .running ∨ s.pfu.perf.acts ≤ s.pfu.perf.act → Refuses .interval .interval .wrongPhase .none s)) ∧
  ∀ s : State, Admits s →
    (∀ c, (s.phase = .running ∧ s.pfu.perf.act = s.pfu.perf.acts ∧ c = actClock s.pfu.perf.act) ∨
        (s.phase = .stopped ∧ s.pfu.perf.suspendedClock = some c) →
      let f := { (s.pfu.skipInstance c).1 with perf := { s.pfu.perf with
        phase := .closed, stopCause := .none, resume := none, entry := s.now,
        clocks := (s.pfu.perf.clocks.finish c).start .closed } }
      ∃ t, exec .endShow s = .next t ∧
        PhaseMoved s .endShow f.skipNeverReached.1 ((s.pfu.skipInstance c).2 ++ f.skipNeverReached.2) t) ∧
    (s.phase ≠ .stopped → s.phase ≠ .running ∨ s.pfu.perf.act ≠ s.pfu.perf.acts →
      Refuses .endShow .endShow .wrongPhase .none s)

/-- RESUME is taken in STOPPED with the fire state QUIET: the phase becomes the resume phase, an instance of the house or of
an interval goes on from its value, a stopped act waits in RESUMING, and the stop cause and the resume phase go (R3, R13).
CLOSE is taken in EVACUATE with the fire state QUIET and starts the CLOSED clock; DISARM is taken in PREPARE and CLOSED,
clears the plan, the acts and curtain-proven, discards the running copy, and leaves the table but for the steps of the
CLOSED instance it ends (R3, R17, R18, R36, R40, R41). That the STEP notices of skipped steps come before the PHASE notice
is the model's choice (log 19), and so is that DISARM from CLOSED skips the PENDING steps of the CLOSED instance (log 60).
That all the notices of one command have joined before the line takes any is the model's choice (log 70). -/
def Obligations.ResumeCloseAndDisarm : Prop :=
  (∀ s : State, Admits s →
     (s.phase = .stopped → s.fireQuiet = true → ∀ r, s.pfu.perf.resume = some r →
       ∃ t, exec .resume s = .next t ∧
         PhaseMoved s .resume { s.pfu with perf := { s.pfu.perf with
           resume := none, stopCause := .none, entry := s.now,
           phase := (match r with | .houseOpen => .houseOpen | .interval => .interval | .resuming => .resuming),
           clocks := (match r with
             | .houseOpen => s.pfu.perf.clocks.continue .houseOpen
             | .interval => s.pfu.perf.clocks.continue (intervalClock s.pfu.perf.intervalNo)
             | .resuming => s.pfu.perf.clocks) } } [] t) ∧
     (s.phase ≠ .stopped → Refuses .resume .resume .wrongPhase .none s) ∧
     (s.phase = .stopped → s.fireQuiet = false → Refuses .resume .resume .alarmActive .none s)) ∧
  ∀ s : State, Admits s →
    (s.phase = .evacuate → s.fireQuiet = true →
      let f := { s.pfu with perf := { s.pfu.perf with
        phase := .closed, entry := s.now, clocks := { s.pfu.perf.clocks with closed := { run := .running, value := 0 } } } }
      ∃ t, exec .close s = .next t ∧ PhaseMoved s .close f.skipNeverReached.1 f.skipNeverReached.2 t) ∧
    (s.phase ≠ .evacuate → Refuses .close .close .wrongPhase .none s) ∧
    (s.phase = .evacuate → s.fireQuiet = false → Refuses .close .close .alarmActive .none s) ∧
    (∀ clocks f bs,
      (s.phase = .prepare ∧ s.pfu.perf.clocks.closed.run ≠ .running ∧ clocks = s.pfu.perf.clocks ∧ f = s.pfu ∧ bs = []) ∨
        (s.phase = .closed ∧ s.pfu.perf.clocks.closed.run = .running ∧ clocks = s.pfu.perf.clocks.finish .closed ∧
          (f, bs) = s.pfu.skipInstance .closed) →
      ∃ t, exec .disarm s = .next t ∧ t.pfu.stepDueSoon = false ∧ t.pfu.perf.proven = false ∧
        PhaseMoved s .disarm { f with
          runningCopy := none,
          perf := { s.pfu.perf with plan := none, acts := 0, proven := false, phase := .dark, entry := s.now, clocks } }
          bs t) ∧
    (s.phase ≠ .prepare → s.phase ≠ .closed → Refuses .disarm .disarm .wrongPhase .none s)

/-- SHOW-STOP from HOUSE-OPEN, RUNNING, INTERVAL or RESUMING: the record keeps where RESUME returns to and whose stop it is,
counts it and pauses the RUNNING clocks; CLU decides the stop announcement as a SAFETY call from the stop template, unless
its number is 255, and the PHASE notice follows its notices and carries its outcome; a curtain UP, HELD or RAISING enters
PRE-DROP for the stop warning, and leaves it at once where the warning is 0; a descent of cause TEST or REQUEST becomes a
STOP descent, and a curtain that is down, in PRE-DROP or in another descent is left as it is; and the lights go to full over
the stop fade time unless the override is in force (R3, R5, R11, R12, R53, R57, R58, R59, R98). The order of the PHASE
notice and the notices of the other blocks is the model's choice (log 19), and so are what a RAISING curtain records of a
hoist overload (log 23) and that a descent which opens in TIME-ONLY mode, ENCODER being latched, sends no TIME-ONLY notice
(log 44). That all the notices of one command have joined before the line takes any is the model's choice (log 70). -/
def Obligations.ShowStopStopsTheShow : Prop :=
  ∀ s : State, Admits s → GatesCurrent s → CurtainOk s.ctc →
    s.phase = .houseOpen ∨ s.phase = .running ∨ s.phase = .interval ∨ s.phase = .resuming →
    let call := s.clu.decideCall s.now .stopped .safety (s.settings.template s.settings.stopTemplate)
    let phaseNote (o : CallOutcome) : NoticeBody :=
      .phase .stopped s.pfu.perf.act s.pfu.perf.intervalNo (.request .showStop .link) .link (min 15 (s.pfu.perf.stops + 1))
        (some o)
    let q := s.settings.curtain
    let overload := decide (s.ctc.state = .raising) && decide (s.lmu.limitState 0 = .high)
    let faults := if overload then addFault .hoistOverload s.ctc.faults else s.ctc.faults
    let entry := (if overload then [NoticeBody.curtainFault .hoistOverload .raising none (pos s)] else []) ++
      [.curtainState .preDrop none (pos s) q.release]
    ∃ t ds, exec .showStop s = .next t ∧ Untouched s t ∧
      RecordIs { s.pfu.perf with
        phase := .stopped, stopCause := .link, stops := min 15 (s.pfu.perf.stops + 1), entry := s.now,
        resume := some (if s.phase = .houseOpen then .houseOpen else if s.phase = .interval then .interval else .resuming),
        clocks := s.pfu.perf.clocks.map fun k => if k.run = .running then { k with run := .paused } else k } t.pfu.perf ∧
      t.pfu.table = s.pfu.table ∧ t.pfu.runningCopy = s.pfu.runningCopy ∧
      (s.settings.stopTemplate = 255 → t.clu = s.clu ∧
        Replies s .showStop (.done (.phase .stopped s.pfu.perf.act s.pfu.perf.intervalNo)) (phaseNote .absent :: ds) t) ∧
      (s.settings.stopTemplate ≠ 255 → t.clu = call.1.clu ∧
        Replies s .showStop (.done (.phase .stopped s.pfu.perf.act s.pfu.perf.intervalNo))
          (call.1.notes ++ phaseNote call.2.outcome :: ds) t) ∧
      (s.ctc.state = .up ∨ s.ctc.state = .held ∨ (s.ctc.state = .raising ∧ s.fireFull = false) →
        (q.warning ≠ 0 → ds = entry ∧ t.ctc = { s.ctc with
          state := .preDrop, faults, raiseDeadline := none, warnDeadline := some (s.now + q.warning * 1000) }) ∧
        (q.warning = 0 →
          (s.ctc.edge = true → ds = entry ++ [.curtainFault .obstructed .preDrop none (pos s),
              .curtainState .held none (pos s) q.release] ∧
            t.ctc = { s.ctc with state := .held, faults := addFault .obstructed faults, raiseDeadline := none,
                                 warnDeadline := none }) ∧
          (s.ctc.edge = false → s.ctc.floor = false →
            ds = entry ++ [.curtainState .descending (some .stop) (pos s) q.release] ∧ ∃ d, t.ctc.descent = some d ∧
            t.ctc = { s.ctc with state := .descending, faults, raiseDeadline := none, warnDeadline := none,
                                 descent := some d } ∧
            d.record.startCause = .stop ∧ d.record.cause = .stop ∧ d.record.startPos = pos s ∧ d.params = q ∧
            d.u = q.release ∧ d.hold = none ∧ d.sup.clock = 0 ∧ d.sup.prevPos = pos s ∧
            d.sup.timeOnly = faults.contains .encoder) ∧
          (s.ctc.edge = false → s.ctc.floor = true → ∃ r,
            ds = entry ++ [.curtainState .descending (some .stop) (pos s) q.release,
              .curtainState .down none (pos s) q.release, .curtainArrival r] ∧
            t.ctc = { s.ctc with state := .down, faults, raiseDeadline := none, warnDeadline := none,
                                 history := (r :: s.ctc.history).take 4 } ∧
            r.startCause = .stop ∧ r.cause = .stop ∧ r.startPos = pos s ∧ r.dropTime = 0 ∧ r.ending = some .arrived))) ∧
      (∀ d, s.ctc.descent = some d → d.record.cause = .test ∨ d.record.cause = .request →
        ds = [.curtainState .descending (some .stop) (pos s) d.u] ∧
        t.ctc = { s.ctc with descent := some { d with record := { d.record with cause := .stop } } }) ∧
      (s.ctc.state = .down ∨ s.ctc.state = .preDrop ∨ s.ctc.cause = some .stop ∨ s.ctc.cause = some .emergency ∨
        s.ctc.cause = some .reset → ds = [] ∧ t.ctc = s.ctc) ∧
      (s.ilu.relay.line = true → t.hlu = { s.hlu with channels := t.hlu.channels } ∧ ∀ (i : Nat) (r : ChannelRun),
        s.hlu.channels[i]? = some r → t.hlu.channels[i]? = some
          (if s.settings.lightTimes.stopFade = 0 then { active := 1000, fade := none }
           else { r with
             fade := some { start := r.active, target := 1000, started := s.now,
                            duration := s.settings.lightTimes.stopFade * 100, origin := .stopFade, evals := 0 } })) ∧
      (s.ilu.relay.line = false → t.hlu = s.hlu) ∧ t.ilu.hoist.line = false

/-- EVACUATE from every phase but DARK, EVACUATE and CLOSED: the record enters EVACUATE, the running and paused clocks end
and every PENDING step is SKIPPED; the fire state is FULL, with cause EVACUATE where it was not FULL before, and no zone is
isolated then; no SHOW or HOUSE call is left; HOIST, RELEASE and the emergency-lighting relay are de-energised; and the
curtain is down or falls (R15, R16, R41, R64, R103, R140, R141, R167, R174). SHOW-STOP and EVACUATE outside the phases in
which they are taken are refused with WRONG-PHASE and change nothing (R4, R11, R15). The order of the notices formed at that
moment is the model's choice (log 19), and so is the one STEP notice for all the skipped steps (log 37). That all the
notices of one command have joined before the line takes any is the model's choice (log 70). -/
def Obligations.EvacuateClearsTheHouse : Prop :=
  (∀ s : State, Admits s → CurtainOk s.ctc → CurtainFalls s → s.phase ≠ .dark → s.phase ≠ .evacuate → s.phase ≠ .closed →
     ∃ t, exec .evacuate s = .next t ∧
       t.now = s.now ∧ t.held = none ∧ t.settings = s.settings ∧ t.store = s.store ∧ t.lmu = s.lmu ∧ t.dsu = s.dsu ∧
       t.pending = s.pending ∧ t.pfu.runningCopy = s.pfu.runningCopy ∧
       RecordIs { s.pfu.perf with
         phase := .evacuate, resume := none, stopCause := .none, entry := s.now,
         clocks := s.pfu.perf.clocks.map fun k =>
           if k.run = .running ∨ k.run = .paused then { k with run := .ended } else k } t.pfu.perf ∧
       t.pfu.table = s.pfu.table.map (fun e => if e = .pending then .skipped else e) ∧
       (∃ cs, Replies s .evacuate (.done (.phase .evacuate s.pfu.perf.act s.pfu.perf.intervalNo))
         (s.pfu.skipAll.2 ++ .phase .evacuate s.pfu.perf.act s.pfu.perf.intervalNo (.request .evacuate .link) .none
           s.pfu.perf.stops none :: cs) t) ∧
       t.fireFull = true ∧
       (s.fireFull = false → t.fdu.fire.cause = some .evacuate ∧ t.fdu.fire.silenced = false ∧ t.fdu.fire.timer = none ∧
         t.fdu.fire.entry = s.now ∧ t.fdu.fire.walk = none ∧ t.fdu.isolation = List.replicate 16 none) ∧
       (∀ e ∈ t.clu.entries, e.cls = .evac ∨ e.cls = .alert) ∧
       t.ilu.hoist.line = false ∧ t.ilu.release.line = false ∧ t.ilu.relay.line = false ∧ CurtainFalls t) ∧
  ∀ s : State, Admits s →
    (s.phase = .dark ∨ s.phase = .prepare ∨ s.phase = .stopped ∨ s.phase = .evacuate ∨ s.phase = .closed →
      Refuses .showStop .showStop .wrongPhase .none s) ∧
    (s.phase = .dark ∨ s.phase = .evacuate ∨ s.phase = .closed → Refuses .evacuate .evacuate .wrongPhase .none s)

/-! ## Chapter 2: plans -/

/-- A store request that is accepted starts its operation and nothing else, but that PLAN-OPEN discards the sector's
contents at once; its reply waits for the operation's end (R24, R27, R29, R32, R33, R34, R199). A letter that names no plan, a
slot range and a count out of range give BAD-FIELD first; a header's first failing field is named, and the first step of a
PLAN-PUT that fails its checks by its step index, which is its slot number; then every store request is refused with BUSY while
an operation is in flight, and PLAN-OPEN, PLAN-PUT, PLAN-SEAL and PLAN-ERASE with LOCKED for the armed plan's sector; then
PLAN-PUT and PLAN-SEAL with WRONG-STATE for a sector that is not OPEN, or for the first slot that stands in the way, which they
name; PLAN-READ of an EMPTY sector is refused with NO-PLAN, and CONFIG-STORE outside DARK with WRONG-PHASE (R24, R25, R27, R29,
R31, R32, R33, R34, R35, R199). That an accepted PLAN-OPEN discards the contents at once is the model's reading (log 30), and
that the steps of a PLAN-PUT to a sector without a header are checked against four acts its choice (log 58). -/
def Obligations.StoreRequestsStartAnOperation : Prop :=
  (∀ (l : PlanLetter) (s : State), Admits s → s.store.inFlight = none →
     (s.pfu.perf.plan ≠ some l →
       (∀ h, headerFirstBad h = none → ∃ t, exec (.planOpen (some l) h) s = .next t ∧
         Only [.store, .link, .lines, .draws] s t ∧
         t.store = { s.store.setSector l { PlanSector.erased with state := (s.store.sector l).state } with
                     inFlight := some { op := .openPlan l (headerStored h), started := s.now } } ∧
         Replies s .planOpen .later [] t) ∧
       (∀ first rs h, (s.store.sector l).state = .opened → (s.store.sector l).header = some h → 1 ≤ rs.length →
         rs.length ≤ 6 → first + rs.length ≤ 48 → (∀ r ∈ rs, (stepOf h.acts r).isSome = true) →
         (∀ i, i < rs.length → (s.store.sector l).slots[first + i]? = some .blank) →
         ∃ t, exec (.planPut (some l) first rs.length rs) s = .next t ∧ Only [.store, .link, .lines, .draws] s t ∧
           t.store = { s.store with inFlight := some { op := .put l first (rs.map recordStored), started := s.now } } ∧
           Replies s .planPut .later [] t) ∧
       (∀ count h rs, (s.store.sector l).state = .opened → (s.store.sector l).header = some h → count ≤ 48 →
         (s.store.sector l).slots = rs.map Slot.written ++ List.replicate (48 - count) .blank → rs.length = count →
         ∃ t, exec (.planSeal (some l) count) s = .next t ∧ Only [.store, .link, .lines, .draws] s t ∧
           t.store = { s.store with inFlight := some { op := .seal l count (planCheck h rs), started := s.now } } ∧
           Replies s .planSeal .later [] t) ∧
       (∃ t, exec (.planErase (some l)) s = .next t ∧ Only [.store, .link, .lines, .draws] s t ∧
         t.store = { s.store with inFlight := some { op := .erase l, started := s.now } } ∧
         Replies s .planErase .later [] t)) ∧
     (s.phase = .dark → ∃ t, exec .configStore s = .next t ∧ Only [.store, .link, .lines, .draws] s t ∧
       t.store = { s.store with inFlight := some { op := .storeConfig s.settings, started := s.now } } ∧
       Replies s .configStore .later [] t)) ∧
  ∀ s : State, Admits s →
    (∀ h, h.name.length = 12 → Refuses (.planOpen none h) .planOpen .badField .none s) ∧
    Refuses (.planErase none) .planErase .badField .none s ∧
    (∀ l h f, h.name.length = 12 → headerFirstBad h = some f →
      Refuses (.planOpen (some l) h) .planOpen .badField (.headerField f) s) ∧
    (∀ l first good bad rest h, (s.store.sector l).header = some h → first + (good ++ bad :: rest).length ≤ 48 →
      (good ++ bad :: rest).length ≤ 6 → (∀ r ∈ good, (stepOf h.acts r).isSome = true) → stepOf h.acts bad = none →
      Refuses (.planPut (some l) first (good ++ bad :: rest).length (good ++ bad :: rest)) .planPut .badField
        (.index (first + good.length)) s) ∧
    (∀ first rs, Refuses (.planPut none first rs.length rs) .planPut .badField .none s) ∧
    (∀ count, Refuses (.planSeal none count) .planSeal .badField .none s) ∧
    (∀ select, Refuses (.planRead none select) .planRead .badField .none s) ∧
    (∀ l first rs, 47 < first ∨ rs = [] ∨ 6 < rs.length ∨ 48 < first + rs.length →
      Refuses (.planPut (some l) first rs.length rs) .planPut .badField .none s) ∧
    (∀ l first count, 47 < first ∨ count = 0 ∨ 6 < count ∨ 48 < first + count →
      Refuses (.planRead (some l) (.slots first count)) .planRead .badField .none s) ∧
    (∀ l count, 48 < count → Refuses (.planSeal (some l) count) .planSeal .badField .none s) ∧
    (s.store.busy = true → ∀ l,
      (∀ h, headerFirstBad h = none → Refuses (.planOpen (some l) h) .planOpen .busy .none s) ∧
      (∀ first rs, PutFits s l first rs → Refuses (.planPut (some l) first rs.length rs) .planPut .busy .none s) ∧
      (∀ count, count ≤ 48 → Refuses (.planSeal (some l) count) .planSeal .busy .none s) ∧
      Refuses (.planErase (some l)) .planErase .busy .none s ∧
      (∀ select, SelectFits select → Refuses (.planRead (some l) select) .planRead .busy .none s) ∧
      Refuses .configStore .configStore .busy .none s) ∧
    (s.store.busy = false → ∀ l,
      (s.pfu.perf.plan = some l →
        (∀ h, headerFirstBad h = none → Refuses (.planOpen (some l) h) .planOpen .locked .none s) ∧
        (∀ first rs, PutFits s l first rs → Refuses (.planPut (some l) first rs.length rs) .planPut .locked .none s) ∧
        (∀ count, count ≤ 48 → Refuses (.planSeal (some l) count) .planSeal .locked .none s) ∧
        Refuses (.planErase (some l)) .planErase .locked .none s) ∧
      (s.pfu.perf.plan ≠ some l →
        ((s.store.sector l).state ≠ .opened →
          (∀ first rs, PutFits s l first rs → Refuses (.planPut (some l) first rs.length rs) .planPut .wrongState .none s) ∧
          (∀ count, count ≤ 48 → Refuses (.planSeal (some l) count) .planSeal .wrongState .none s)) ∧
        ((s.store.sector l).state = .opened →
          (∀ first rs i, PutFits s l first rs → i < rs.length →
            (∀ j, j < i → (s.store.sector l).slots[first + j]? = some .blank) →
            (s.store.sector l).slots[first + i]? ≠ some .blank →
            Refuses (.planPut (some l) first rs.length rs) .planPut .wrongState (.index (first + i)) s) ∧
          (∀ count i, count ≤ 48 → i < 48 → (∀ j, j < i → SealFits (s.store.sector l) count j) →
            ¬ SealFits (s.store.sector l) count i →
            Refuses (.planSeal (some l) count) .planSeal .wrongState (.index i) s))) ∧
      ((s.store.sector l).state = .empty → ∀ select, SelectFits select →
        Refuses (.planRead (some l) select) .planRead .noPlan .none s)) ∧
    (s.store.busy = false → s.phase ≠ .dark → Refuses .configStore .configStore .wrongPhase .none s)

/-- A store operation ends once its time in flight has passed. With its verification passed, the sector or the stored
configuration is as the request gave it and the waiting request is answered DONE; with it failed, the sector becomes BAD, or
sector 4 loses its store mark, and the request is answered REFUSED with PLAN-BAD (R24, R29, R32, R33, R34, R199). That the
end may come later than the stated time is the model's choice (log 17); what a failed operation leaves in the sector (log 5)
and the check value of a stored configuration (log 8) are free. -/
def Obligations.StoreOperationEnds : Prop :=
  ∀ (f : InFlight) (s : State), s.held = none → s.store.inFlight = some f → f.started + f.op.leastTime ≤ s.now →
    (∃ t more, exec (.storeOperationEnd true) s = .next t ∧ Only [.store, .link, .lines, .draws] s t ∧
      t.store.inFlight = none ∧ t.lp = (s.lp.settle (.done f.op.doneBody)).pump more ∧
      (∀ l, opLetter f.op ≠ some l → t.store.sector l = s.store.sector l) ∧
      (∀ l h, f.op = .openPlan l h → t.store.sector l =
        { state := .opened, header := some h, slots := List.replicate 48 .blank, count := 0, check := 0 }) ∧
      (∀ l first rs, f.op = .put l first rs → ∀ i,
        (i < rs.length → first + i < (s.store.sector l).slots.length →
          (t.store.sector l).slots[first + i]? = rs[i]?.map Slot.written) ∧
        (i < first ∨ first + rs.length ≤ i → (t.store.sector l).slots[i]? = (s.store.sector l).slots[i]?)) ∧
      (∀ l n k, f.op = .seal l n k → t.store.sector l = { s.store.sector l with state := .sealed, count := n, check := k }) ∧
      (∀ l, f.op = .erase l → t.store.sector l = PlanSector.erased) ∧
      (∀ c, f.op = .storeConfig c → t.store.config =
        { copy := some c, check := Config.configCheck c % 65536, mark := true }) ∧
      ((∀ c, f.op ≠ .storeConfig c) → t.store.config = s.store.config)) ∧
    (∃ t more, exec (.storeOperationEnd false) s = .next t ∧ Only [.store, .link, .lines, .draws] s t ∧
      t.store.inFlight = none ∧ t.lp = (s.lp.settle (.refused .planBad .none)).pump more ∧
      (∀ l, opLetter f.op ≠ some l → t.store.sector l = s.store.sector l) ∧
      (∀ l, opLetter f.op = some l → (t.store.sector l).state = .bad) ∧
      ((∃ c, f.op = .storeConfig c) → t.store.config = { s.store.config with mark := false }) ∧
      ((∀ c, f.op ≠ .storeConfig c) → t.store.config = s.store.config))

/-- Whichever steps fall due, each is issued: none is left due and PENDING, and no other part of the record moves (R37, R38).
A step that falls due alone is decided by its owner, its entry becomes DONE or REFUSED by that decision, and the STEP notice
carries the outcome (R38, R39): a NOTE is DONE, with its notice. A CALL makes the call of its template, a BELL the bell call
of its pattern and zones, both as source PLAN: refused where the fields fail, where it is of class SHOW or HOUSE in EVACUATE,
where barring leaves it no zone, and where it merges with no entry and PLAN's reservation and the pool are used up; merged
with an equal entry; or admitted with a fresh id (R38, R39, R151, R153 to R156). LIGHTS starts every channel toward its preset
over its own fade time, at once where that is 0, and is refused with OVERRIDDEN under the override (R38, R39, R92, R94, R95,
R104). CURTAIN-LOWER, CURTAIN-RAISE and CURTAIN-TEST start their movement, or are refused by the first check that fails; a
raise that finds the top reached ends at its start, and a descent that finds FLOOR closed arrives there (R38, R39, R51, R52,
R54 to R57, R68, R71, R86); a test that arrives so under an armed plan proves the curtain (R19). An instance ends: exactly the
PENDING entries anchored to its clock become SKIPPED, and one STEP notice with their number is formed where there is one or
more; at the entry to CLOSED it is those anchored to a clock that is NOT-STARTED, with the cause NEVER-REACHED, and at the
entry to EVACUATE every PENDING entry; nothing else of the plan runner moves (R41). That the notices of a step's target, and
the NOTE notice, come before the STEP notice is the model's choice (log 19), and so is the one notice for all at the entry to
EVACUATE (log 37); that a descent which opens in TIME-ONLY mode sends no TIME-ONLY notice is its choice too (log 44). That all
the notices of one command have joined before the line takes any is the model's choice (log 70). That an event may be taken
later than its moment is the model's choice (log 17). -/
def Obligations.StepsAreIssuedAndSkipped : Prop :=
  (∀ s : State, s.held = none → s.pfu.dueSteps ≠ [] →
     (∃ t, exec .stepDue s = .next t ∧ Untouched s t ∧ RecordIs s.pfu.perf t.pfu.perf ∧ TableFollows s.pfu t.pfu ∧
       t.pfu.runningCopy = s.pfu.runningCopy ∧ t.pfu.dueSteps = [] ∧
       (∀ i, s.pfu.isDue i = false → t.pfu.table[i]? = s.pfu.table[i]?) ∧
       ∃ bs, Sends s bs t) ∧
     (∀ i st code, s.pfu.dueSteps = [i] → s.pfu.pendingStep i = some st → st.action = .note code →
       ∃ t, exec .stepDue s = .next t ∧ Only [.performance, .link, .lines, .draws] s t ∧
         t.pfu.table = s.pfu.table.set i .done ∧ t.pfu.perf = s.pfu.perf ∧
         Sends s [.note code i, .stepIssued i (.note code) .done] t)) ∧
  (∀ (i : Nat) (st : Machine.Step) (T : Template) (s : State), s.held = none → s.pfu.dueSteps = [i] →
     s.pfu.pendingStep i = some st → GatesCurrent s → QueueOk s.clu →
     (∃ n, st.action = .call n ∧ T = s.settings.template n) ∨
       (∃ p z, st.action = .bell p z ∧
         T = { cls := .showClass, slot := none, zones := z, bell := p, repeats := 1, gap := 0 }) →
     let aside : Prop := T.cls = .showClass ∨ T.cls = .houseClass
     let z := if s.phase = .running ∧ aside then withoutAudience T.zones else T.zones
     let same (e : CallEntry) : Prop := e.slot = T.slot ∧ e.zones = z ∧ e.cls = T.cls
     let room : Prop := s.clu.reservedInUse .plan < 5 ∨
       (s.clu.poolInUse < 8 ∧ (T.cls = .houseClass → s.clu.poolInUse < 6))
     let next := if s.clu.nextArrival ≤ 4294967295 then s.clu.nextArrival else s.clu.entries.length + 1
     (T.zones = 0 ∨ 7 < T.bell ∨ (T.repeats = 0 ∧ aside) ∨ (T.slot = none ∧ T.bell = 0) →
       StepRefused s i st.action .badField) ∧
     (T.zones ≠ 0 → T.bell ≤ 7 → ¬ (T.repeats = 0 ∧ aside) → ¬ (T.slot = none ∧ T.bell = 0) →
       (s.phase = .evacuate → aside → StepRefused s i st.action .wrongPhase) ∧
       (s.phase ≠ .evacuate ∨ ¬ aside →
         (z = 0 → StepRefused s i st.action .zonesBarred) ∧
         (z ≠ 0 → (∀ e ∈ s.clu.entries, ¬ same e) → ¬ room → StepRefused s i st.action .queueFull) ∧
         (z ≠ 0 → (∀ e ∈ s.clu.entries, ¬ same e) → room →
           ∃ t e bs, exec .stepDue s = .next t ∧
             Only [.performance, .fire, .calls, .gates, .link, .lines, .draws] s t ∧ Untouched s t ∧
             StepIssued s i st.action (.doneCall e.id false) s.pfu.perf.proven bs t ∧ e ∈ t.clu.entries ∧
             1 ≤ e.id ∧ e.id ≤ 255 ∧ (∀ f ∈ s.clu.entries, f.id ≠ e.id) ∧ e.source = .plan ∧ e.cls = T.cls ∧
             e.slot = T.slot ∧ e.zones = z ∧ e.bell = T.bell ∧ e.repeats = T.repeats ∧ e.gap = T.gap ∧ e.plays = 0 ∧
             e.arrival = next ∧ e.pool = !decide (s.clu.reservedInUse .plan < 5)) ∧
         (z ≠ 0 → ∀ before e after, s.clu.entries = before ++ e :: after → (∀ f ∈ before, ¬ same f) → same e →
           ∃ t f bs, exec .stepDue s = .next t ∧
             Only [.performance, .fire, .calls, .gates, .link, .lines, .draws] s t ∧ Untouched s t ∧
             StepIssued s i st.action (.doneCall e.id true) s.pfu.perf.proven bs t ∧ f ∈ t.clu.entries ∧
             f.id = e.id ∧ f.repeats = (if e.repeats = 0 ∨ T.repeats = 0 then 0 else max e.repeats T.repeats) ∧
             f.gap = T.gap ∧ f.bell = e.bell ∧ f.source = e.source ∧ f.arrival = e.arrival ∧ f.plays = e.plays ∧
             f.pool = e.pool ∧ t.clu.nextId = s.clu.nextId ∧ t.clu.nextArrival = s.clu.nextArrival)))) ∧
  (∀ (i : Nat) (st : Machine.Step) (s : State), s.held = none → s.pfu.dueSteps = [i] → s.pfu.pendingStep i = some st →
     let barred : Prop := s.phase = .running ∨ s.phase = .stopped ∨ s.phase = .evacuate
     (∀ preset fade, st.action = .lights preset fade →
       (15 < preset → StepRefused s i st.action .badField) ∧
       (preset ≤ 15 → s.ilu.relay.line = false → StepRefused s i st.action .overridden) ∧
       (preset ≤ 15 → s.ilu.relay.line = true → ∃ t, exec .stepDue s = .next t ∧
         Only [.performance, .lights, .link, .lines, .draws] s t ∧
         StepIssued s i st.action .done s.pfu.perf.proven [] t ∧ t.hlu = { s.hlu with channels := t.hlu.channels } ∧
         t.hlu.channels.length = s.hlu.channels.length ∧
         ∀ (k : Nat) (r : ChannelRun), s.hlu.channels[k]? = some r → t.hlu.channels[k]? = some
           (if fade = 0 then { active := s.settings.presetLevel preset k, fade := none }
            else { r with fade := some { start := r.active, target := s.settings.presetLevel preset k, started := s.now,
                                         duration := min 6000 fade * 100, origin := .go, evals := 0 } }))) ∧
     (st.action = .curtainLower →
       (barred → StepRefused s i st.action .wrongPhase) ∧
       (¬ barred → s.ctc.state ≠ .up → s.ctc.state ≠ .held → StepRefused s i st.action .wrongState) ∧
       (¬ barred → s.ctc.state = .up ∨ s.ctc.state = .held →
         (s.ctc.edge = true → StepRefused s i st.action .notReady) ∧
         (s.ctc.edge = false → GatesCurrent s → CurtainOk s.ctc → ∃ t bs, exec .stepDue s = .next t ∧
           Only [.performance, .curtain, .gates, .link, .lines, .draws] s t ∧ DescentStarts .request s bs t ∧
           StepIssued s i st.action .done s.pfu.perf.proven
             (.curtainState .descending (some .request) (pos s) s.settings.curtain.release :: bs) t))) ∧
     (st.action = .curtainRaise →
       let ready : Prop := s.lmu.limitState 0 ≠ .high ∧ s.ctc.faults.contains .encoder = false ∧ s.ctc.overtravel = false
       (barred → StepRefused s i st.action .wrongPhase) ∧
       (¬ barred → s.fireFull = true → StepRefused s i st.action .alarmActive) ∧
       (¬ barred → s.fireFull = false → ¬ ready → StepRefused s i st.action .notReady) ∧
       (¬ barred → s.fireFull = false → ready → s.ctc.state ≠ .down → s.ctc.state ≠ .held →
         StepRefused s i st.action .wrongState) ∧
       (¬ barred → s.fireFull = false → ready → s.ctc.state = .down ∨ s.ctc.state = .held → GatesCurrent s →
         CurtainOk s.ctc → ∃ t bs, exec .stepDue s = .next t ∧
           Only [.performance, .curtain, .gates, .link, .lines, .draws] s t ∧
           StepIssued s i st.action .done s.pfu.perf.proven
             (.curtainState .raising none (pos s) s.settings.curtain.release :: bs) t ∧ t.ilu.release.line = true ∧
           (s.ctc.top = false → pos s + 20 < s.settings.curtain.travel → bs = [] ∧ t.ilu.hoist.line = true ∧
             t.lines.brake = false ∧ t.lines.warning = false ∧ t.ctc = { s.ctc with
               state := .raising, raiseDeadline := some (s.now + s.settings.curtain.raiseLimit * 1000) }) ∧
           (s.ctc.top = true ∨ s.settings.curtain.travel ≤ pos s + 20 → t.ilu.hoist.line = false ∧
             (s.settings.curtain.travel ≤ pos s + 100 → t.ctc = { s.ctc with state := .up } ∧
               bs = [.curtainState .up none (pos s) s.settings.curtain.release]) ∧
             (pos s + 100 < s.settings.curtain.travel → t.lines.brake = true ∧
               t.ctc = { s.ctc with state := .held, faults := addFault .creep s.ctc.faults })))) ∧
     (st.action = .curtainTest →
       let ready : Prop := s.lmu.limitState 1 ≠ .low ∧ s.ctc.faults.contains .encoder = false
       (barred ∨ s.phase = .resuming ∨ s.phase = .closed → StepRefused s i st.action .wrongPhase) ∧
       (s.phase = .dark ∨ s.phase = .prepare ∨ s.phase = .houseOpen ∨ s.phase = .interval →
         (¬ ready → StepRefused s i st.action .notReady) ∧
         (ready → s.ctc.state ≠ .up → StepRefused s i st.action .wrongState) ∧
         (ready → s.ctc.state = .up → s.ctc.edge = true → StepRefused s i st.action .notReady) ∧
         (ready → s.ctc.state = .up → s.ctc.edge = false → GatesCurrent s → CurtainOk s.ctc →
           ∃ t bs, exec .stepDue s = .next t ∧ Only [.performance, .curtain, .gates, .link, .lines, .draws] s t ∧
             DescentStarts .test s bs t ∧
             StepIssued s i st.action .done (s.pfu.perf.proven || (s.ctc.floor && decide (s.phase ≠ .dark)))
               (.curtainState .descending (some .test) (pos s) s.settings.curtain.release :: bs) t)))) ∧
  ∀ (c : ClockId) (f : Pfu),
    (∀ (i : Nat) (e : StepStatus), f.table[i]? = some e → (f.skipInstance c).1.table[i]? = some
      (if e = .pending ∧ (f.steps[i]?.map (·.anchor.clock)) = some c then .skipped else e)) ∧
    (let n := ((List.range f.table.length).filter fun i =>
        decide (f.table[i]? = some .pending) && decide ((f.steps[i]?.map (·.anchor.clock)) = some c)).length
     (f.skipInstance c).2 = if n = 0 then [] else [.stepsSkipped n (.instanceEnded c)]) ∧
    ((f.skipInstance c).2 = [] ↔ (f.skipInstance c).1.table = f.table) ∧
    (∀ (i : Nat) (e : StepStatus), f.table[i]? = some e → f.skipNeverReached.1.table[i]? = some
      (if e = .pending ∧ (f.steps[i]?.map fun st => (f.perf.clocks.get st.anchor.clock).run) = some .notStarted then .skipped
       else e)) ∧
    (let n := ((List.range f.table.length).filter fun i => decide (f.table[i]? = some .pending) &&
        decide ((f.steps[i]?.map fun st => (f.perf.clocks.get st.anchor.clock).run) = some .notStarted)).length
     f.skipNeverReached.2 = if n = 0 then [] else [.stepsSkipped n .neverReached]) ∧
    (f.skipInstance c).1 = { f with table := (f.skipInstance c).1.table } ∧
    f.skipNeverReached.1 = { f with table := f.skipNeverReached.1.table } ∧
    f.skipAll.1 = { f with table := f.skipAll.1.table } ∧
    (f.skipAll.1.table = f.table.map fun e => if e = .pending then .skipped else e) ∧
    (f.skipAll.2 = if f.table.count .pending = 0 then [] else [.stepsSkipped (f.table.count .pending) .evacuated])

/-- EXTEND, of 10 to 600 s in INTERVAL, lengthens the interval in hand, to 3600 s at most, and re-evaluates the condition
"step due within 60 s"; an interval that had expired and now has time left can expire again (R42, R43, R44). The interval's
clock has reached the interval's length: one INTERVAL-EXPIRED notice goes out, after the steps due at the same moment, and
the phase stays; and the condition "step due within 60 s" comes true when a PENDING step's due time has come so near (R43,
R44). That EXTEND tests its field before the phase is the model's reading (log 38). That all the notices of one command have
joined before the line takes any is the model's choice (log 70). That an event may be taken later than its moment is the
model's choice (log 17). -/
def Obligations.IntervalLength : Prop :=
  (∀ (seconds : Nat) (s : State), Admits s →
     (seconds < 10 ∨ 600 < seconds → Refuses (.extend seconds) .extend .badField .none s) ∧
     (10 ≤ seconds → seconds ≤ 600 →
       (s.phase ≠ .interval → Refuses (.extend seconds) .extend .wrongPhase .none s) ∧
       (s.phase = .interval → ∃ t, exec (.extend seconds) s = .next t ∧
         Only [.performance, .link, .lines, .draws] s t ∧
         t.pfu.perf = { s.pfu.perf with intervalLen := min 3600 (s.pfu.perf.intervalLen + seconds) } ∧
         t.pfu.runningCopy = s.pfu.runningCopy ∧ t.pfu.table = s.pfu.table ∧
         (t.pfu.expirySent = true ↔ s.pfu.expirySent = true ∧ t.pfu.perf.remaining = 0) ∧
         t.pfu.stepDueSoon = t.pfu.dueSoon ∧
         Replies s .extend (.done (.extended (t.pfu.perf.intervalLen - s.pfu.perf.intervalLen) t.pfu.perf.intervalLen
           (t.pfu.perf.intervalLen - (s.pfu.perf.clocks.get (intervalClock s.pfu.perf.intervalNo)).value / 1000))) [] t))) ∧
  ∀ s : State, s.held = none →
    (s.phase = .interval → s.pfu.expirySent = false →
      s.pfu.perf.intervalLen * 1000 ≤ (s.pfu.perf.clocks.get (intervalClock s.pfu.perf.intervalNo)).value →
      (∃ t, exec .intervalExpired s = .next t ∧ Untouched s t ∧ RecordIs s.pfu.perf t.pfu.perf ∧
        TableFollows s.pfu t.pfu ∧ t.pfu.expirySent = true ∧
        ∃ bs, Sends s (bs ++ [.intervalExpired s.pfu.perf.intervalNo s.pfu.perf.intervalLen]) t) ∧
      (s.pfu.dueSteps = [] → ∃ t, exec .intervalExpired s = .next t ∧ Only [.performance, .link, .lines, .draws] s t ∧
        t.pfu = { s.pfu with expirySent := true } ∧
        Sends s [.intervalExpired s.pfu.perf.intervalNo s.pfu.perf.intervalLen] t)) ∧
    (∀ i st, s.pfu.pendingStep i = some st → (s.pfu.perf.clocks.get st.anchor.clock).run = .running →
      s.pfu.perf.dueTime st ≤ (s.pfu.perf.clocks.get st.anchor.clock).value + 60000 → s.pfu.stepDueSoon = false →
      ∃ t, exec .stepDueWithin60S s = .next t ∧ Only [.performance, .link, .lines, .draws] s t ∧
        t.pfu = { s.pfu with stepDueSoon := true })

/-! ## Chapters 3 and 4: the curtain -/

/-- CURTAIN-RAISE is decided in order by the phase, the fire state, the readiness of the hoist and the curtain state.
Accepted with TOP open and the curtain below H − 20, it enters RAISING with the raise timer started, and RELEASE and HOIST
are energised with the brake off; where the top is reached already, the raise ends at that entry in UP, or in HELD with
CREEP where p lies below H − 100, and HOIST was energised and de-energised at that moment (R51, R52, R54, R174). That all
the notices of one command have joined before the line takes any is the model's choice (log 70). -/
def Obligations.CurtainRaise : Prop :=
  ∀ s : State, Admits s →
    (s.phase = .running ∨ s.phase = .stopped ∨ s.phase = .evacuate → Refuses .curtainRaise .curtainRaise .wrongPhase .none s) ∧
    (s.phase ≠ .running → s.phase ≠ .stopped → s.phase ≠ .evacuate →
      (s.fireFull = true → Refuses .curtainRaise .curtainRaise .alarmActive .none s) ∧
      (s.fireFull = false →
        (s.lmu.limitState 0 = .high ∨ s.ctc.faults.contains .encoder = true ∨ s.ctc.overtravel = true →
          Refuses .curtainRaise .curtainRaise .notReady .none s) ∧
        (s.lmu.limitState 0 ≠ .high → s.ctc.faults.contains .encoder = false → s.ctc.overtravel = false →
          (s.ctc.state ≠ .down → s.ctc.state ≠ .held → Refuses .curtainRaise .curtainRaise .wrongState .none s) ∧
          (s.ctc.state = .down ∨ s.ctc.state = .held → GatesCurrent s → CurtainOk s.ctc →
            ∃ t bs, exec .curtainRaise s = .next t ∧ Only [.curtain, .gates, .link, .lines, .draws] s t ∧
              Replies s .curtainRaise (.done .empty)
                (.curtainState .raising none (pos s) s.settings.curtain.release :: bs) t ∧
              t.ilu.release.line = true ∧
              (s.ctc.top = false → pos s + 20 < s.settings.curtain.travel → bs = [] ∧ t.ilu.hoist.line = true ∧
                t.lines.brake = false ∧ t.lines.warning = false ∧
                t.ctc = { s.ctc with
                  state := .raising, raiseDeadline := some (s.now + s.settings.curtain.raiseLimit * 1000) }) ∧
              (s.ctc.top = true ∨ s.settings.curtain.travel ≤ pos s + 20 →
                t.ilu.hoist.line = false ∧ t.ilu.hoist.lastChange = s.now ∧
                (s.settings.curtain.travel ≤ pos s + 100 → t.ctc = { s.ctc with state := .up } ∧
                  bs = [.curtainState .up none (pos s) s.settings.curtain.release]) ∧
                (pos s + 100 < s.settings.curtain.travel → t.lines.brake = true ∧
                  t.ctc = { s.ctc with state := .held, faults := addFault .creep s.ctc.faults }))))))

/-- CURTAIN-LOWER is decided in order by the phase, the curtain state and the edge; accepted, CTC enters DESCENDING with
cause REQUEST from the current position, RELEASE and the brake come off and WARNING goes on. One that finds FLOOR closed
arrives at its start (R55, R57, R68, R71, R86). CURTAIN-TEST is decided in order by the phase, the readiness, the curtain
state and the edge; accepted, CTC enters DESCENDING with cause TEST from the current position. One that finds FLOOR closed
arrives at its start, and proves the curtain under an armed plan (R19, R56, R57, R68, R71, R86). That the open record's
final u reads 0 (log 42), and that a descent which opens in TIME-ONLY mode, ENCODER being latched, sends no TIME-ONLY notice
(log 44), are the model's choices. That all the notices of one command have joined before the line takes any is the model's
choice (log 70). -/
def Obligations.CurtainLowerAndTest : Prop :=
  (∀ s : State, Admits s →
     (s.phase = .running ∨ s.phase = .stopped ∨ s.phase = .evacuate → Refuses .curtainLower .curtainLower .wrongPhase .none s) ∧
     (s.phase ≠ .running → s.phase ≠ .stopped → s.phase ≠ .evacuate →
       (s.ctc.state ≠ .up → s.ctc.state ≠ .held → Refuses .curtainLower .curtainLower .wrongState .none s) ∧
       (s.ctc.state = .up ∨ s.ctc.state = .held →
         (s.ctc.edge = true → Refuses .curtainLower .curtainLower .notReady .none s) ∧
         (s.ctc.edge = false → GatesCurrent s → CurtainOk s.ctc →
           ∃ t bs, exec .curtainLower s = .next t ∧ Only [.curtain, .gates, .link, .lines, .draws] s t ∧
             Replies s .curtainLower (.done .empty)
               (.curtainState .descending (some .request) (pos s) s.settings.curtain.release :: bs) t ∧
             t.ilu.release.line = false ∧ t.lines.brake = false ∧
             (s.ctc.floor = false → bs = [] ∧ t.lines.warning = true ∧
               t.ctc = { s.ctc with
                 state := .descending,
                 descent := some
                   { record := { startCause := .request, cause := .request, startTime := s.now / 100 % 4294967296,
                                 startPos := pos s, dropTime := 0, maxSpeed := 0, holds := 0, ignored := 0, faults := [],
                                 finalU := 0, ending := none },
                     params := s.settings.curtain,
                     sup := { clock := 0, windowNo := 0, progress := 0, prevPos := pos s,
                              timeOnly := s.ctc.faults.contains .encoder, overspeedRun := 0, overspeedForce := false,
                              predictionRun := 0, lateForce := false, stallRun := 0, stallTaken := false,
                              lastTarget := none, lastPrediction := none },
                     u := s.settings.curtain.release, hold := none,
                     floorTimer := if pos s ≤ 20 then some 0 else none, last := none } }) ∧
             (s.ctc.floor = true → t.ctc.state = .down ∧ t.ctc.descent = none ∧ t.ctc.faults = s.ctc.faults ∧
               ∃ r, t.ctc.history = (r :: s.ctc.history).take 4 ∧ r.startCause = .request ∧ r.cause = .request ∧
                 r.startPos = pos s ∧ r.dropTime = 0 ∧ r.maxSpeed = 0 ∧ r.finalU = s.settings.curtain.release ∧
                 r.ending = some .arrived))))) ∧
  ∀ s : State, Admits s →
    (s.phase = .running ∨ s.phase = .resuming ∨ s.phase = .stopped ∨ s.phase = .evacuate ∨ s.phase = .closed →
      Refuses .curtainTest .curtainTest .wrongPhase .none s) ∧
    (s.phase = .dark ∨ s.phase = .prepare ∨ s.phase = .houseOpen ∨ s.phase = .interval →
      (s.lmu.limitState 1 = .low ∨ s.ctc.faults.contains .encoder = true →
        Refuses .curtainTest .curtainTest .notReady .none s) ∧
      (s.lmu.limitState 1 ≠ .low → s.ctc.faults.contains .encoder = false →
        (s.ctc.state ≠ .up → Refuses .curtainTest .curtainTest .wrongState .none s) ∧
        (s.ctc.state = .up →
          (s.ctc.edge = true → Refuses .curtainTest .curtainTest .notReady .none s) ∧
          (s.ctc.edge = false → GatesCurrent s → CurtainOk s.ctc →
            ∃ t bs, exec .curtainTest s = .next t ∧ Only [.performance, .curtain, .gates, .link, .lines, .draws] s t ∧
              Replies s .curtainTest (.done .empty)
                (.curtainState .descending (some .test) (pos s) s.settings.curtain.release :: bs) t ∧
              t.ilu.release.line = false ∧
              (s.ctc.floor = false → bs = [] ∧ t.pfu = s.pfu ∧ t.ctc.state = .descending ∧ t.lines.warning = true ∧
                t.ctc.faults = s.ctc.faults ∧ t.ctc.history = s.ctc.history ∧ ∃ d, t.ctc.descent = some d ∧
                d.record.startCause = .test ∧ d.record.cause = .test ∧ d.record.startPos = pos s ∧
                d.record.faults = [] ∧ d.params = s.settings.curtain ∧ d.u = s.settings.curtain.release ∧ d.hold = none ∧
                d.sup.clock = 0 ∧ d.sup.windowNo = 0 ∧ d.sup.prevPos = pos s ∧ d.sup.timeOnly = false) ∧
              (s.ctc.floor = true → t.ctc.state = .down ∧
                t.pfu = { s.pfu with perf := { s.pfu.perf with
                  proven := s.pfu.perf.proven || decide (s.phase ≠ .dark) } })))))

/-- CURTAIN-HALT holds a RAISING curtain, and a descent of cause TEST or REQUEST above its slow zone with ENCODER not
latched, whose record is closed with the ending HALTED; anything else it refuses with WRONG-STATE (R61, R69). CURTAIN-CLEAR
in DOWN, UP and HELD empties the fault set and finds again ENCODER, RETARDER and LIMIT where their conditions stand; a
curtain on the move refuses it with WRONG-STATE. In RUNNING, ENCODER or RETARDER found again brings a show stop (R14, R66,
R67). That all the notices of one command have joined before the line takes any is the model's choice (log 70). That the
faults found again are listed in the order of their table is the model's choice (log 71). -/
def Obligations.CurtainHaltAndClear : Prop :=
  (∀ s : State, Admits s → GatesCurrent s → CurtainOk s.ctc →
     (s.ctc.state = .raising → ∃ t, exec .curtainHalt s = .next t ∧ Only [.curtain, .gates, .link, .lines, .draws] s t ∧
       t.ctc = { s.ctc with state := .held, raiseDeadline := none } ∧ t.lines.brake = true ∧ t.ilu.hoist.line = false ∧
       Replies s .curtainHalt (.done .empty) [.curtainState .held none (pos s) s.settings.curtain.release] t) ∧
     (∀ d, s.ctc.descent = some d →
       ((d.record.cause = .test ∨ d.record.cause = .request) ∧ d.params.slowZone < pos s ∧
         s.ctc.faults.contains .encoder = false →
         ∃ t, exec .curtainHalt s = .next t ∧ Only [.curtain, .gates, .link, .lines, .draws] s t ∧
           t.ctc = { s.ctc with
             state := .held, descent := none,
             history := ({ d.record with dropTime := d.sup.clock, finalU := d.u, ending := some .halted } ::
               s.ctc.history).take 4 } ∧
           t.lines.brake = true ∧ Replies s .curtainHalt (.done .empty)
             [.curtainState .held none (s.ctc.count * 100 / s.settings.curtain.counts) s.settings.curtain.release] t) ∧
       (d.record.cause = .stop ∨ d.record.cause = .emergency ∨ d.record.cause = .reset ∨ pos s ≤ d.params.slowZone ∨
         s.ctc.faults.contains .encoder = true → Refuses .curtainHalt .curtainHalt .wrongState .none s)) ∧
     (s.ctc.state = .down ∨ s.ctc.state = .up ∨ s.ctc.state = .preDrop ∨ s.ctc.state = .held →
       Refuses .curtainHalt .curtainHalt .wrongState .none s)) ∧
  ∀ s : State, Admits s → GatesCurrent s → CurtainOk s.ctc →
    let fs := (if s.settings.curtain.travel + 200 < pos s then [CurtainFault.encoder] else []) ++
      (if s.ctc.overtravel then [CurtainFault.limit] else []) ++
      (if s.lmu.limitState 1 = .low then [CurtainFault.retarder] else [])
    (s.ctc.state = .down ∨ s.ctc.state = .up ∨ s.ctc.state = .held →
      ∃ t, exec .curtainClear s = .next t ∧
        (∃ bs, Replies s .curtainClear (.done (.faults fs)) bs t) ∧
        (s.phase ≠ .running ∨ fs = [] ∨ fs = [.limit] → Only [.curtain, .link, .lines, .draws] s t ∧
          t.ctc = { s.ctc with faults := fs, aboveLimit := decide (s.settings.curtain.travel + 200 < pos s) }) ∧
        (s.phase = .running → fs.contains .encoder = true ∨ fs.contains .retarder = true →
          t.phase = .stopped ∧ t.pfu.perf.stopCause = .curtain ∧ t.pfu.perf.resume = some .resuming)) ∧
    (s.ctc.state = .raising ∨ s.ctc.state = .preDrop ∨ s.ctc.state = .descending →
      Refuses .curtainClear .curtainClear .wrongState .none s)

/-- A change of the encoder count. At rest it is recorded; a rise above H + 200 latches ENCODER; a RAISING curtain that
reaches H − 20 is UP, and one that comes above H + 200 is HELD, or UP where reaching the top is taken first; a curtain UP
that falls below H − 100 is HELD with CREEP; in a descent the floor timer follows it, and a rise above H + 200 latches
ENCODER in the record too, makes the supervision TIME-ONLY and tells of it; and in RUNNING an arising of ENCODER stops the
show (R14, R46, R52, R54, R60, R66, R74, R87). That a count which does not change is no command is the model's choice (log
16), and so are that ENCODER and CREEP are judged at each change of the count and at none of H or C, so that in UP a p which
a rise leaves below H − 100 is CREEP too (logs 39 and 40), and the order of the notices of one moment (log 19). That all the
notices of one command have joined before the line takes any is the model's choice (log 70). -/
def Obligations.EncoderCountChange : Prop :=
  ∀ (n : Nat) (s : State), s.held = none → GatesCurrent s → CurtainOk s.ctc → n < 65536 → n ≠ s.ctc.count →
    let q := s.ctc.paramsUsed s.settings.curtain
    let p := n * 100 / q.counts
    (p ≤ q.travel + 200 → s.ctc.state = .down ∨ s.ctc.state = .preDrop ∨ s.ctc.state = .held →
      ∃ t, exec (.encoderCountChange n) s = .next t ∧ Only [.curtain, .link, .lines, .draws] s t ∧
        t.ctc = { s.ctc with count := n, aboveLimit := false } ∧ Sends s [] t) ∧
    (q.travel + 200 < p → s.ctc.aboveLimit = false → s.phase ≠ .running →
      s.ctc.state = .down ∨ s.ctc.state = .preDrop ∨ s.ctc.state = .held ∨ s.ctc.state = .up →
      ∃ t, exec (.encoderCountChange n) s = .next t ∧ Only [.curtain, .link, .lines, .draws] s t ∧
        t.ctc = { s.ctc with count := n, aboveLimit := true, faults := addFault .encoder s.ctc.faults } ∧
        Sends s [.curtainFault .encoder s.ctc.state none p] t) ∧
    (q.travel + 200 < p → s.ctc.aboveLimit = false → s.phase = .running →
      ∃ t, exec (.encoderCountChange n) s = .next t ∧ t.phase = .stopped ∧ t.pfu.perf.stopCause = .curtain ∧
        t.pfu.perf.resume = some .resuming ∧ t.ctc.count = n ∧ t.ctc.faults.contains .encoder = true ∧ Untouched s t) ∧
    (s.ctc.state = .raising → p ≤ q.travel + 200 → q.travel ≤ p + 20 → s.ctc.faults.contains .encoder = false →
      ∃ t, exec (.encoderCountChange n) s = .next t ∧ Only [.curtain, .gates, .link, .lines, .draws] s t ∧
        t.ctc = { s.ctc with count := n, aboveLimit := false, state := .up, raiseDeadline := none } ∧
        t.ilu.hoist.line = false ∧ Sends s [.curtainState .up none p q.release] t) ∧
    (s.ctc.state = .raising → p + 20 < q.travel ∨ (s.ctc.faults.contains .encoder = true ∧ p ≤ q.travel + 200) →
      ∃ t, exec (.encoderCountChange n) s = .next t ∧ Only [.curtain, .link, .lines, .draws] s t ∧
        t.ctc = { s.ctc with count := n, aboveLimit := false }) ∧
    (s.ctc.state = .raising → q.travel + 200 < p → s.ctc.aboveLimit = false → s.phase ≠ .running →
      ∃ t, exec (.encoderCountChange n) s = .next t ∧ Only [.curtain, .gates, .link, .lines, .draws] s t ∧
        t.ilu.hoist.line = false ∧
        (t.ctc = { s.ctc with count := n, aboveLimit := true, faults := addFault .encoder s.ctc.faults, state := .held,
                              raiseDeadline := none } ∧ t.lines.brake = true ∨
          s.ctc.faults.contains .encoder = false ∧
            t.ctc = { s.ctc with count := n, aboveLimit := true, faults := addFault .encoder s.ctc.faults, state := .up,
                                 raiseDeadline := none })) ∧
    (s.ctc.state = .up → p + 100 < q.travel → s.ctc.faults.contains .encoder = false →
      ∃ t bs, exec (.encoderCountChange n) s = .next t ∧ Only [.curtain, .gates, .link, .lines, .draws] s t ∧
        t.ctc = { s.ctc with count := n, aboveLimit := false, faults := addFault .creep s.ctc.faults, state := .held } ∧
        t.lines.brake = true ∧
        Sends s ([.curtainFault .creep .up none p, .curtainState .held none p q.release] ++ bs) t ∧
        (s.phase = .running → bs = [.phaseCreep .running s.pfu.perf.act .none]) ∧ (s.phase ≠ .running → bs = [])) ∧
    (s.ctc.state = .up → q.travel ≤ p + 100 → p ≤ q.travel + 200 →
      ∃ t, exec (.encoderCountChange n) s = .next t ∧ Only [.curtain, .link, .lines, .draws] s t ∧
        t.ctc = { s.ctc with count := n, aboveLimit := false }) ∧
    (∀ d, s.ctc.descent = some d → q.travel + 200 < p → s.ctc.aboveLimit = false → s.phase ≠ .running →
      ∃ t, exec (.encoderCountChange n) s = .next t ∧ Only [.curtain, .link, .lines, .draws] s t ∧
        t.ctc = { s.ctc with
          count := n, aboveLimit := true, faults := addFault .encoder s.ctc.faults,
          descent := some { d with
            record := { d.record with faults := addFault .encoder d.record.faults },
            sup := { d.sup with timeOnly := true }, floorTimer := none } } ∧
        Sends s (.curtainFault .encoder .descending (some d.record.cause) p ::
          if d.sup.timeOnly then [] else [.timeOnly d.sup.clock d.sup.windowNo]) t) ∧
    (∀ d, s.ctc.descent = some d → p ≤ q.travel + 200 →
      ∃ t, exec (.encoderCountChange n) s = .next t ∧ Only [.curtain, .link, .lines, .draws] s t ∧
        t.ctc = { s.ctc with
          count := n, aboveLimit := false,
          descent := some { d with
            floorTimer := if p ≤ 20 ∧ s.ctc.floor = false then some (d.floorTimer.getD 0) else none } })

/-- Changes of TOP and OVERTRAVEL: TOP closing ends a raise in UP, OVERTRAVEL closing holds a curtain RAISING or UP with
LIMIT, and any other change is only recorded (R52, R54). FLOOR closing ends a descent: the record is closed with the ending
ARRIVED, with LATE where the drop time exceeds Tmax, and heads the history; the curtain is DOWN; and a TEST descent under an
armed plan that gained none of LATE, OVERSPEED, STALL and ENCODER proves the curtain. A HELD curtain is DOWN by it without a
record (R19, R60, R65, R69, R85). That the notice of a fault comes before that of the state is the model's choice (log 19).
That all the notices of one command have joined before the line takes any is the model's choice (log 70). -/
def Obligations.LimitInputs : Prop :=
  (∀ s : State, s.held = none → GatesCurrent s → CurtainOk s.ctc →
     (s.ctc.top = false → s.ctc.state = .raising → s.settings.curtain.travel ≤ pos s + 100 →
       ∃ t, exec (.topChange true) s = .next t ∧ Only [.curtain, .gates, .link, .lines, .draws] s t ∧
         t.ctc = { s.ctc with top := true, state := .up, raiseDeadline := none } ∧ t.ilu.hoist.line = false ∧
         Sends s [.curtainState .up none (pos s) s.settings.curtain.release] t) ∧
     (∀ b, s.ctc.top ≠ b → b = false ∨ s.ctc.state ≠ .raising →
       ∃ t, exec (.topChange b) s = .next t ∧ Only [.curtain, .link, .lines, .draws] s t ∧ t.ctc = { s.ctc with top := b }) ∧
     (s.ctc.overtravel = false → s.ctc.state = .raising ∨ s.ctc.state = .up →
       ∃ t, exec (.overtravelChange true) s = .next t ∧ Only [.curtain, .gates, .link, .lines, .draws] s t ∧
         t.ctc = { s.ctc with
           overtravel := true, state := .held, raiseDeadline := none, faults := addFault .limit s.ctc.faults } ∧
         t.lines.brake = true ∧ t.ilu.hoist.line = false ∧
         Sends s [.curtainFault .limit s.ctc.state none (pos s),
           .curtainState .held none (pos s) s.settings.curtain.release] t) ∧
     (∀ b, s.ctc.overtravel ≠ b → b = false ∨ (s.ctc.state ≠ .raising ∧ s.ctc.state ≠ .up) →
       ∃ t, exec (.overtravelChange b) s = .next t ∧ Only [.curtain, .link, .lines, .draws] s t ∧
         t.ctc = { s.ctc with overtravel := b })) ∧
  ∀ s : State, s.held = none → GatesCurrent s → CurtainOk s.ctc →
    (∀ d, s.ctc.floor = false → s.ctc.descent = some d →
      let late := decide (d.params.maxDrop * 100 < d.sup.clock) && !d.record.faults.contains .late
      let faults := if late then addFault .late d.record.faults else d.record.faults
      ∃ t, exec (.floorChange true) s = .next t ∧ Only [.performance, .curtain, .gates, .link, .lines, .draws] s t ∧
        t.ctc = { s.ctc with
          state := .down, floor := true, descent := none,
          faults := if late then addFault .late s.ctc.faults else s.ctc.faults,
          history := ({ d.record with faults, dropTime := d.sup.clock, finalU := d.u, ending := some .arrived } ::
            s.ctc.history).take 4 } ∧
        t.pfu = { s.pfu with perf := { s.pfu.perf with
          proven := s.pfu.perf.proven || (decide (s.phase ≠ .dark) && decide (d.record.cause = .test) &&
            !faults.any fun f => f = .late || f = .overspeed || f = .stall || f = .encoder) } } ∧
        t.ilu.release.line = false ∧ t.lines.brake = false ∧ t.lines.warning = false ∧
        t.lines.retarder = s.settings.curtain.release) ∧
    (s.ctc.floor = false → s.ctc.state = .held →
      ∃ t, exec (.floorChange true) s = .next t ∧ Only [.curtain, .gates, .link, .lines, .draws] s t ∧
        t.ctc = { s.ctc with floor := true, state := .down } ∧ t.lines.brake = false ∧ t.ilu.release.line = false ∧
        Sends s [.curtainState .down none (pos s) s.settings.curtain.release] t) ∧
    (s.ctc.floor = false → s.ctc.state ≠ .descending → s.ctc.state ≠ .held →
      ∃ t, exec (.floorChange true) s = .next t ∧ Only [.curtain, .link, .lines, .draws] s t ∧
        t.ctc = { s.ctc with floor := true }) ∧
    (s.ctc.floor = true → ∃ t, exec (.floorChange false) s = .next t ∧ Only [.curtain, .link, .lines, .draws] s t ∧
      t.ctc = { s.ctc with floor := false, descent := s.ctc.descent.map fun d =>
        { d with floorTimer := if pos s ≤ 20 then some (d.floorTimer.getD 0) else none } })

/-- An edge trip stops a descent of cause TEST, REQUEST or STOP in HELD with OBSTRUCTED; one of cause EMERGENCY or RESET it
holds, three times at most, restarts a hold in progress and is ignored after the third; in every other state it moves
nothing (R62, R63, R84). That the notice of a hold carries its event alone is the model's choice (log 52), and so is that
the window progress reads 0 from the start of the hold (log 63). That all the notices of one command have joined before the
line takes any is the model's choice (log 70). -/
def Obligations.EdgeTrip : Prop :=
  ∀ s : State, s.held = none → GatesCurrent s → CurtainOk s.ctc → s.ctc.edge = false →
    (∀ d, s.ctc.descent = some d →
      (d.record.cause = .test ∨ d.record.cause = .request ∨ d.record.cause = .stop →
        ∃ t, exec (.edgeTrip true) s = .next t ∧ Only [.curtain, .gates, .link, .lines, .draws] s t ∧
          t.ctc = { s.ctc with
            edge := true, state := .held, descent := none, faults := addFault .obstructed s.ctc.faults,
            history := ({ d.record with
              faults := addFault .obstructed d.record.faults, dropTime := d.sup.clock, finalU := d.u,
              ending := some .obstructed } :: s.ctc.history).take 4 } ∧
          t.lines.brake = true) ∧
      (d.record.cause = .emergency ∨ d.record.cause = .reset →
        (d.hold = none → d.record.holds < 3 →
          ∃ t, exec (.edgeTrip true) s = .next t ∧ Only [.curtain, .link, .lines, .draws] s t ∧
            t.ctc = { s.ctc with
              edge := true,
              descent := some { d with
                hold := some (s.now + s.settings.curtain.hold * 1000),
                record := { d.record with holds := d.record.holds + 1 },
                sup := { d.sup with progress := 0, overspeedRun := 0, predictionRun := 0, stallRun := 0 } } } ∧
            t.lines.brake = true ∧ t.lines.warning = true ∧ Sends s [.curtainHold .begun] t) ∧
        (d.hold.isSome = true →
          ∃ t, exec (.edgeTrip true) s = .next t ∧ Only [.curtain, .link, .lines, .draws] s t ∧
            t.ctc = { s.ctc with
              edge := true, descent := some { d with hold := some (s.now + s.settings.curtain.hold * 1000) } } ∧
            Sends s [.curtainHold .restarted] t) ∧
        (d.hold = none → 3 ≤ d.record.holds →
          ∃ t, exec (.edgeTrip true) s = .next t ∧ Only [.curtain, .link, .lines, .draws] s t ∧
            t.ctc = { s.ctc with
              edge := true,
              descent := some { d with record := { d.record with ignored := min 255 (d.record.ignored + 1) } } } ∧
            Sends s [.curtainHold .ignored] t))) ∧
    (s.ctc.state ≠ .descending → ∃ t, exec (.edgeTrip true) s = .next t ∧ Only [.curtain, .link, .lines, .draws] s t ∧
      t.ctc = { s.ctc with edge := true } ∧ Sends s [] t)

/-- The curtain's timers run out: a hold ends and a window begins afresh from the position then read; a raise ends in HELD
with RAISE-TIMEOUT; a stop warning ends in a STOP descent, or in HELD with OBSTRUCTED where EDGE is operated; the floor
timer ends a descent with LIMIT as an arrival; and TIME-ONLY supervision finds the descent LATE (R52, R59, R60, R63, R75,
R84). That a timer may be taken later than its moment is the model's choice (log 17), and so is that the notice of a hold's
end carries that event alone (log 52). That all the notices of one command have joined before the line takes any is the
model's choice (log 70). -/
def Obligations.CurtainTimers : Prop :=
  ∀ s : State, s.held = none → GatesCurrent s → CurtainOk s.ctc →
    (∀ d x, s.ctc.descent = some d → d.hold = some x → x ≤ s.now →
      ∃ t, exec .obstructionHoldEnd s = .next t ∧ Only [.curtain, .link, .lines, .draws] s t ∧
        t.ctc = { s.ctc with
          descent := some { d with hold := none, sup := { d.sup with progress := 0, prevPos := pos s } } } ∧
        t.lines.brake = false ∧ Sends s [.curtainHold .ended] t) ∧
    (∀ x, s.ctc.raiseDeadline = some x → x ≤ s.now →
      ∃ t, exec .raiseTimeout s = .next t ∧ Only [.curtain, .gates, .link, .lines, .draws] s t ∧
        t.ctc = { s.ctc with state := .held, raiseDeadline := none, faults := addFault .raiseTimeout s.ctc.faults } ∧
        t.ilu.hoist.line = false ∧ t.lines.brake = true) ∧
    (∀ x, s.ctc.warnDeadline = some x → x ≤ s.now →
      (s.ctc.edge = true → ∃ t, exec .stopWarningEnd s = .next t ∧
        Only [.curtain, .gates, .link, .lines, .draws] s t ∧
        t.ctc = { s.ctc with state := .held, warnDeadline := none, faults := addFault .obstructed s.ctc.faults } ∧
        t.lines.brake = true) ∧
      (s.ctc.edge = false → s.ctc.floor = false → ∃ t, exec .stopWarningEnd s = .next t ∧
        Only [.curtain, .gates, .link, .lines, .draws] s t ∧ t.ctc.state = .descending ∧ t.ctc.cause = some .stop ∧
        t.ctc.warnDeadline = none ∧ t.ctc.faults = s.ctc.faults ∧ t.lines.brake = false ∧ t.ilu.release.line = false)) ∧
    (∀ d x, s.ctc.descent = some d → d.hold = none → s.ctc.faults.contains .encoder = false → d.floorTimer = some x →
      2000 ≤ x → ∃ t r, exec .floorTimerExpiry s = .next t ∧
        Only [.performance, .curtain, .gates, .link, .lines, .draws] s t ∧ t.ctc.state = .down ∧ t.ctc.descent = none ∧
        t.ctc.faults.contains .limit = true ∧ t.ctc.history = (r :: s.ctc.history).take 4 ∧
        r.ending = some .arrived ∧ r.faults.contains .limit = true ∧ r.dropTime = d.sup.clock ∧ r.finalU = d.u) ∧
    (∀ d, s.ctc.descent = some d → d.sup.timeOnly = true → d.params.maxDrop * 100 < d.sup.clock →
      d.record.faults.contains .late = false →
      ∃ t, exec .timeOnlyLate s = .next t ∧ Only [.curtain, .link, .lines, .draws] s t ∧
        t.ctc = { s.ctc with
          faults := addFault .late s.ctc.faults,
          descent := some { d with record := { d.record with faults := addFault .late d.record.faults } } } ∧
        Sends s [.curtainFault .late .descending (some d.record.cause) (pos s)] t)

/-- A window of 100 ms ends: it is counted and its progress starts again. In TIME-ONLY mode p is read and reported and
nothing more is evaluated; a displacement above 200 mm latches ENCODER, makes the supervision TIME-ONLY and leaves the
command; otherwise the descent is evaluated with the speed 10 × (p before − p), and a command unchanged by forcing is that
of the retarder law. The figures that CURTAIN-READ gives are those of the window that has ended (R72 to R77, R87). That a
TIME-ONLY window reports no speed is the model's reading (log 44), and the order of the ENCODER and TIME-ONLY notices its
choice (log 19). That all the notices of one command have joined before the line takes any is the model's choice (log 70).
That an event may be taken later than its moment is the model's choice (log 17). -/
def Obligations.DescentWindow : Prop :=
  ∀ (d : Descent) (s : State), s.held = none → GatesCurrent s → CurtainOk s.ctc → s.ctc.descent = some d → d.hold = none →
    100 ≤ d.sup.progress →
    let p := pos s
    let counted := { d with sup := { d.sup with windowNo := min 65535 (d.sup.windowNo + 1), progress := 0 } }
    let v : Int := 10 * ((d.sup.prevPos : Int) - p)
    (d.sup.timeOnly = true → ∃ t, exec .descentWindow s = .next t ∧ Only [.curtain, .link, .lines, .draws] s t ∧
      t.ctc = { s.ctc with descent := some { counted with
        sup := { counted.sup with prevPos := p },
        last := some { position := p, speed := none, target := d.sup.lastTarget, prediction := d.sup.lastPrediction,
                       command := d.u } } } ∧ Sends s [] t) ∧
    (d.sup.timeOnly = false → 2000 < v.natAbs → s.phase ≠ .running →
      ∃ t, exec .descentWindow s = .next t ∧ Only [.curtain, .link, .lines, .draws] s t ∧
        t.ctc = { s.ctc with
          faults := addFault .encoder s.ctc.faults,
          descent := some { counted with
            record := { d.record with faults := addFault .encoder d.record.faults },
            sup := { counted.sup with prevPos := p, timeOnly := true },
            last := some { position := p, speed := some v, target := d.sup.lastTarget, prediction := d.sup.lastPrediction,
                           command := d.u } } } ∧
        Sends s [.curtainFault .encoder .descending (some d.record.cause) p,
          .timeOnly d.sup.clock (min 65535 (d.sup.windowNo + 1))] t) ∧
    (d.sup.timeOnly = false → v.natAbs ≤ 2000 →
      ∃ t e, exec .descentWindow s = .next t ∧ Only [.curtain, .link, .lines, .draws] s t ∧
        t.ctc = { s.ctc with faults := t.ctc.faults, descent := some e } ∧
        e.sup = (counted.evaluate p v).1.sup ∧ e.u = (counted.evaluate p v).1.u ∧
        e.last = (counted.evaluate p v).1.last ∧ e.record.maxSpeed = max d.record.maxSpeed v ∧
        e.params = d.params ∧ e.record.cause = d.record.cause ∧ t.lines.retarder = e.u ∧
        (∀ f, t.ctc.faults.contains f = (s.ctc.faults.contains f || (counted.evaluate p v).2.1.contains f)) ∧
        (∀ f, e.record.faults.contains f = (d.record.faults.contains f || (counted.evaluate p v).2.1.contains f)))

/-- The target speed of a window (TABLE XXIX): Vs at or below S, Vm at or above S + L, and on the ramp Vs and the truncated
part of the way to Vm; an evaluated window keeps it as the last target (R76). -/
def Obligations.TargetSpeed : Prop :=
  ∀ (q : CurtainParams) (p : Nat),
    (p ≤ q.slowZone → targetSpeed q p = q.slowSpeed) ∧
    (q.slowZone < p → q.slowZone + q.ramp ≤ p → targetSpeed q p = q.mainSpeed) ∧
    (q.slowZone < p → p < q.slowZone + q.ramp → q.slowSpeed ≤ q.mainSpeed →
      targetSpeed q p = ((q.slowSpeed + (q.mainSpeed - q.slowSpeed) * (p - q.slowZone) / q.ramp : Nat) : Int) ∧
      (q.slowSpeed : Int) ≤ targetSpeed q p ∧ targetSpeed q p ≤ q.mainSpeed) ∧
    ∀ (d : Descent) (v : Int), (d.evaluate p v).1.sup.lastTarget = some (targetSpeed d.params p)

/-- The command of an evaluated window (R77, R78, R79, R80, R81, R82): overspeed forcing gives 1000; otherwise LATE forcing
gives 0; otherwise it is the last command, taken as 1000 where overspeed forcing has just ended, and the correction of the
speed's error × G / 16 truncated toward zero, within 0 to 1000. Overspeed forcing begins with the second window in succession
above its threshold, 3/2 of Vm above S and twice Vs below, and OVERSPEED arises with it; it ends with the first at or below
Vm, or Vs, which is told of with p, the speed and the command. The prediction, formed until LATE forcing begins, is the clock
and the way to the floor at the present speed, at 50 mm/s at least: the way to S at that speed and S at Vs where the curtain
is above S. LATE forcing begins with the third prediction in succession above Tmax, formed from 2000 ms on, and ends with the
descent; LATE arises with it where the descent has not had it. The stall test (R83): ten windows in succession below 20 mm/s
latch STALL, once in a descent, and change neither the command nor the curtain state. No other fault arises. -/
def Obligations.WindowCommand : Prop :=
  (∀ (d : Descent) (p : Nat) (v : Int),
     let q := d.params
     let e := (d.evaluate p v).1
     let faults := (d.evaluate p v).2.1
     let exceeds := decide (((if q.slowZone < p then q.mainSpeed * 3 / 2 else 2 * q.slowSpeed : Nat) : Int) < v)
     let ends := d.sup.overspeedForce && decide (v ≤ ((if q.slowZone < p then q.mainSpeed else q.slowSpeed : Nat) : Int))
     let previous : Int := if ends then 1000 else d.u
     let w : Int := max v 50
     let predicted : Int := if q.slowZone < p
       then d.sup.clock + ((p : Int) - q.slowZone) * 1000 / w + (q.slowZone : Int) * 1000 / q.slowSpeed
       else d.sup.clock + (p : Int) * 1000 / w
     (e.sup.overspeedForce = true → e.u = 1000) ∧
     (e.sup.overspeedForce = false → e.sup.lateForce = true → e.u = 0) ∧
     (e.sup.overspeedForce = false → e.sup.lateForce = false →
       (e.u : Int) = min 1000 (max 0 (previous + ((v - targetSpeed q p) * q.gain).tdiv 16))) ∧
     (d.sup.overspeedForce = true → e.sup.overspeedForce = !ends) ∧
     (d.sup.overspeedForce = false → (e.sup.overspeedForce = true ↔ exceeds = true ∧ d.sup.overspeedRun = 1) ∧
       (exceeds = false → e.sup.overspeedRun = 0) ∧
       (exceeds = true → e.sup.overspeedRun = if d.sup.overspeedRun = 1 then 0 else d.sup.overspeedRun + 1)) ∧
     (.overspeed ∈ faults ↔ d.sup.overspeedForce = false ∧ exceeds = true ∧ d.sup.overspeedRun = 1) ∧
     (d.evaluate p v).2.2 = (if ends then [.overspeedEnded p v e.u] else []) ∧
     (d.sup.lateForce = true → e.sup.lateForce = true ∧ e.sup.lastPrediction = d.sup.lastPrediction) ∧
     (d.sup.lateForce = false → e.sup.lastPrediction = some predicted ∧
       (d.sup.clock < 2000 → e.sup.predictionRun = d.sup.predictionRun) ∧
       (2000 ≤ d.sup.clock → (q.maxDrop : Int) * 100 < predicted → e.sup.predictionRun = d.sup.predictionRun + 1) ∧
       (2000 ≤ d.sup.clock → predicted ≤ (q.maxDrop : Int) * 100 → e.sup.predictionRun = 0) ∧
       (e.sup.lateForce = true ↔ e.sup.predictionRun = 3)) ∧
     (.late ∈ faults ↔ d.sup.lateForce = false ∧ e.sup.predictionRun = 3 ∧ d.record.faults.contains .late = false) ∧
     (∀ f ∈ faults, f = .overspeed ∨ f = .late ∨ f = .stall)) ∧
  ∀ (d : Descent) (p : Nat) (v : Int), d.sup.stallRun ≤ 10 →
    let e := (d.evaluate p v).1
    (20 ≤ v → e.sup.stallRun = 0) ∧ (v < 20 → e.sup.stallRun = min 10 (d.sup.stallRun + 1)) ∧
    ((d.evaluate p v).2.1.contains .stall = true ↔ v < 20 ∧ 9 ≤ d.sup.stallRun ∧ d.sup.stallTaken = false) ∧
    (e.sup.stallTaken = true ↔ d.sup.stallTaken = true ∨ (v < 20 ∧ 9 ≤ d.sup.stallRun))

/-! ## Chapter 5: the house lights -/

/-- PRESET-WRITE replaces the twelve levels of a preset, each clamped at 1000, in every phase but EVACUATE, and moves no
light (R91). LIGHTS-GO and HOUSE-FULL start every channel toward its target, from its active level over the fade time, or at
once where the time is 0; under the override both are refused with OVERRIDDEN (R92, R94, R95, R96, R104). -/
def Obligations.PresetWriteAndGo : Prop :=
  (∀ (n : Nat) (levels : List Nat) (s : State), Admits s → levels.length = 12 →
     (15 ≤ n → Refuses (.presetWrite n levels) .presetWrite .badField .none s) ∧
     (n < 15 → s.phase = .evacuate → Refuses (.presetWrite n levels) .presetWrite .wrongPhase .none s) ∧
     (n < 15 → s.phase ≠ .evacuate → ∃ t, exec (.presetWrite n levels) s = .next t ∧
       Only [.settings, .link, .lines, .draws] s t ∧
       t.settings = { s.settings with presets := s.settings.presets.set n (levels.map (min 1000)) } ∧
       t.lines.levels = (s.hlu.levels s.phase s.settings) ∧
       Replies s .presetWrite (.done (.levels (levels.map (min 1000)))) [] t)) ∧
  ∀ (preset fade : Nat) (s : State), Admits s →
    (15 < preset → Refuses (.lightsGo preset fade) .lightsGo .badField .none s) ∧
    (s.ilu.relay.line = false → (preset ≤ 15 → Refuses (.lightsGo preset fade) .lightsGo .overridden .none s) ∧
      Refuses .houseFull .houseFull .overridden .none s) ∧
    (s.ilu.relay.line = true →
      (preset ≤ 15 → ∃ t, exec (.lightsGo preset fade) s = .next t ∧ Only [.lights, .link, .lines, .draws] s t ∧
        t.hlu = { s.hlu with channels := t.hlu.channels } ∧ t.hlu.channels.length = s.hlu.channels.length ∧
        (∀ (i : Nat) (r : ChannelRun), s.hlu.channels[i]? = some r → t.hlu.channels[i]? = some
          (if fade = 0 then { active := s.settings.presetLevel preset i, fade := none }
           else { r with fade := some { start := r.active, target := s.settings.presetLevel preset i, started := s.now,
                                        duration := min 6000 fade * 100, origin := .go, evals := 0 } })) ∧
        Replies s .lightsGo (.done (.lightsGo preset (min 6000 fade))) [] t) ∧
      ∃ t, exec .houseFull s = .next t ∧ Only [.lights, .link, .lines, .draws] s t ∧
        t.hlu = { s.hlu with channels := t.hlu.channels } ∧ t.hlu.channels.length = s.hlu.channels.length ∧
        (∀ (i : Nat) (r : ChannelRun), s.hlu.channels[i]? = some r → t.hlu.channels[i]? = some
          (if s.settings.lightTimes.houseFull = 0 then { active := 1000, fade := none }
           else { r with fade := some { start := r.active, target := 1000, started := s.now,
                                        duration := s.settings.lightTimes.houseFull * 100, origin := .houseFull,
                                        evals := 0 } })) ∧
        Replies s .houseFull (.done (.fadeTime s.settings.lightTimes.houseFull)) [] t)

/-- LIGHTS-RESTORE withdraws the emergency demand and energises the relay, and no level moves; while the fire state is
FULL or the phase EVACUATE it is refused with OVERRIDDEN. LIGHTS-READ that asks for it clears the EMERGENCY-SUPPLY fault
while channel 6 is NORMAL, and shows the fault as it stood (R102, R105, R106, R107). An evaluation of a fade on its 20
ms grid: the active level moves toward the target by the part of the time that has run, truncated, never passes it, and
at the fade's duration is the target, where the fade ends (R92, R93). That a fade's evaluation may be taken later than
its moment is the model's choice (log 17). -/
def Obligations.RestoreAndFades : Prop :=
  (∀ s : State, Admits s →
     (s.fireFull = true ∨ s.phase = .evacuate → Refuses .lightsRestore .lightsRestore .overridden .none s) ∧
     (s.fireFull = false → s.phase ≠ .evacuate → GatesCurrent s → ∃ t, exec .lightsRestore s = .next t ∧
       Only [.lights, .gates, .link, .lines, .draws] s t ∧ t.hlu = { s.hlu with emergencyDemand := false } ∧
       t.ilu.relay.line = true ∧ t.override = false ∧
       Replies s .lightsRestore (.done (.restored s.hlu.emergencyDemand)) [] t) ∧
     (∃ t, exec (.lightsRead true) s = .next t ∧ Only [.lights, .link, .lines, .draws] s t ∧
       t.hlu = { s.hlu with supplyFault := s.hlu.supplyFault && !decide (s.lmu.limitState 6 = .normal) } ∧
       Replies s .lightsRead (.done (.lights s.readLights)) [] t)) ∧
  ∀ (i : Nat) (r : ChannelRun) (f : Fade) (s : State), s.held = none → s.hlu.channels[i]? = some r → r.fade = some f →
    f.started + 20 * (f.evals + 1) ≤ s.now →
    ∃ t c, exec (.fadeEvaluation i) s = .next t ∧ Only [.lights, .link, .lines, .draws] s t ∧
      t.hlu = { s.hlu with channels := s.hlu.channels.set i c } ∧
      (f.duration ≤ 20 * (f.evals + 1) → c = { active := f.target, fade := none }) ∧
      (20 * (f.evals + 1) < f.duration → c.fade = some { f with evals := f.evals + 1 } ∧
        (f.start ≤ f.target → c.active = f.start + (f.target - f.start) * (20 * (f.evals + 1)) / f.duration ∧
          c.active ≤ f.target) ∧
        (f.target ≤ f.start → c.active = f.start - (f.start - f.target) * (20 * (f.evals + 1)) / f.duration ∧
          f.target ≤ c.active))

/-- The output code of an output level (R100): the ceiling of the trim, the level scaled by it, and the curve, each division
truncated; it reaches 4095 only at level 1000 and trim 31. -/
def Obligations.OutputCode : Prop :=
  ∀ (c : ChannelConfig) (level : Nat), level ≤ 1000 → c.trim ≤ 31 →
    let ceiling := 1000 * (c.trim + 1) / 32
    let scaled := level * ceiling / 1000
    (c.curve = .linear → outputCode c level = scaled * 4095 / 1000) ∧
    (c.curve = .square → outputCode c level = scaled * scaled * 4095 / 1000000) ∧
    outputCode c level ≤ 4095 ∧ (outputCode c level = 4095 ↔ level = 1000 ∧ c.trim = 31) ∧
    31 ≤ ceiling ∧ ceiling ≤ 1000

/-! ## Chapter 6: the detection loop -/

/-- A slot begins and is given to the first poll that waits: the lowest retry, the continuity test, on a watch opportunity
the first device of the watch list after the one that the watch pointer names, in list order and from the end back to the
head, and otherwise the first enabled address of the scan list at or after the scan pointer, from the end back to the head;
where none waits it passes without a poll. The LED command of the device polled follows its state and walk indication, and
the next slot begins 25 ms later (R113, R114, R122, R124). That a device with a retry pending or on the watch list which the
scan list no longer names is passed over, and keeps its retry and its place, is the model's choice (log 49), and so are that
of several retries the lowest address comes first (log 54), that a walk indication lights the LED in every state (log 55)
and that a retry is no longer pending once it is sent (log 65). That an event may be taken later than its moment is the
model's choice (log 17). -/
def Obligations.PollSlotStart : Prop :=
  ∀ s : State, s.held = none → s.fdu.poll = none → s.fdu.slotDue ≤ s.now →
    ∃ t, exec .pollSlotStart s = .next t ∧ Only [.fire, .link, .lines, .draws] s t ∧ t.fdu.fire = s.fdu.fire ∧
      t.fdu.slotDue = s.fdu.slotDue + 25 ∧ t.fdu.watch = s.fdu.watch ∧ t.fdu.isolation = s.fdu.isolation ∧
      (∀ a, 1 ≤ a → a ≤ 64 → (s.fdu.device a).retry = true → a ∈ s.settings.scanList →
        (∀ b, 1 ≤ b → b < a → (s.fdu.device b).retry = false ∨ b ∉ s.settings.scanList) →
        t.fdu.poll = some { kind := .retry, address := a, started := s.fdu.slotDue } ∧
        t.fdu.interleave = s.fdu.interleave ∧ t.fdu.contDue = s.fdu.contDue ∧ t.fdu.scanPtr = s.fdu.scanPtr ∧
        t.fdu.devices = s.fdu.devices.modify (a - 1) fun d =>
          { d with retry := false, led := d.state = .alarm || d.walk.isSome }) ∧
      ((∀ a, 1 ≤ a → a ≤ 64 → (s.fdu.device a).retry = false ∨ a ∉ s.settings.scanList) →
        (s.fdu.contDue = true →
          t.fdu.poll = some { kind := .continuity, address := 0, started := s.fdu.slotDue } ∧ t.fdu.contDue = false ∧
          t.fdu.interleave = s.fdu.interleave ∧ t.fdu.devices = s.fdu.devices ∧ t.fdu.scanPtr = s.fdu.scanPtr) ∧
        (s.fdu.contDue = false →
          (∀ (order before after : List Nat) (a : Nat), s.fdu.interleave = 3 →
            ((∀ p, s.fdu.watchPtr = some p → p ∉ s.fdu.watch) ∧ order = s.fdu.watch) ∨
              (∃ p polled rest, s.fdu.watchPtr = some p ∧ s.fdu.watch = polled ++ p :: rest ∧ p ∉ polled ∧
                order = rest ++ s.fdu.watch) →
            order = before ++ a :: after → (∀ b ∈ before, b ∉ s.settings.scanList) → a ∈ s.settings.scanList →
            t.fdu.poll = some { kind := .watch, address := a, started := s.fdu.slotDue } ∧ t.fdu.interleave = 0 ∧
            t.fdu.watchPtr = some a ∧ t.fdu.scanPtr = s.fdu.scanPtr ∧
            t.fdu.devices = s.fdu.devices.modify (a - 1) fun d => { d with led := d.state = .alarm || d.walk.isSome }) ∧
          (s.fdu.interleave ≠ 3 ∨ (∀ a ∈ s.fdu.watch, a ∉ s.settings.scanList) → t.fdu.watchPtr = s.fdu.watchPtr ∧
            (let n := s.settings.scanList.length
             let place (j : Nat) := (s.fdu.scanPtr + j) % n
             let address (j : Nat) := s.settings.scanList.getD (place j) 0
             ∀ k, k < n → (s.settings.device (address k)).enabled = true →
              (∀ j, j < k → (s.settings.device (address j)).enabled = false) →
              t.fdu.poll = some { kind := .scan, address := address k, started := s.fdu.slotDue } ∧
              t.fdu.devices = s.fdu.devices.modify (address k - 1) (fun d =>
                { d with led := d.state = .alarm || d.walk.isSome }) ∧
              t.fdu.scanPtr = (place k + 1) % n ∧
              t.fdu.interleave = (if s.fdu.interleave = 3 then 0 else s.fdu.interleave) + 1) ∧
            ((∀ a ∈ s.settings.scanList, (s.settings.device a).enabled = false) → t.fdu.poll = none ∧ t.fdu.devices = s.fdu.devices ∧
              t.fdu.scanPtr = s.fdu.scanPtr))))

/-- A reply is good at an end where its first byte began within 8 ms, its four bytes (type code, value, status, sum) were
complete within 20 ms with none after, and the four total 0 modulo 256; the value byte is the reading (R111, R112). In ONE-END
that at end A is evaluated; in TWO-END the first to complete, or that at end A where both complete together; without one the
poll is in error if an end listened at received a byte, else not answered (R112). A device poll that is not answered, or
answered in error, is a miss: the miss count rises to 3 at most, an error is counted, a retry is set unless the poll was one,
and the third miss makes a device that is not in ALARM MISSING, with its counts at 0 and off the watch list, while one in
ALARM stays and is told of with the marker NOT-ANSWERING (R112, R115, R127). A good reply of a device in NORMAL or MISSING of
the right type, with no fault and no test, below its pre-alarm threshold and not operated, in a zone not isolated or of a
HEAT, CALLPOINT or INPUT device in any zone: the reading is recorded, the miss and confirm counts return to 0 and the retry
goes; a MISSING device is NORMAL again (R112, R115, R116, R118, R119, R123). A good reply in another such case: the pre-alarm
threshold passed upward enters PRE-ALARM and joins the watch list, and two replies running below it leave it; one reply of an
operated CALLPOINT or INPUT is counted and joins the watch list; the fault bit enters FAULT, and two replies running without
it recover the device; and a wrong type enters FAULT with the mismatch latched, or latches it alone in ALARM, where a reply of
the right type is only recorded; each change of state sends its DEVICE notice first (R116, R117, R118, R119, R121, R123,
R127). A good reply that is not judged: of a device whose mismatch is latched, or of a wrong type, it is recorded and ends at
the type step; and with the test flag set, or of a SMOKE or BEAM device in an isolated zone, it is recorded and neither raises
nor resets a confirm or clear count, and gives no PRE-ALARM, no FAULT and no ALARM, whatever its value and its flags; in FAULT
without the latch it counts for recovery where it has neither the fault nor the test flag, and a MISSING device is NORMAL
again in each case, but for a wrong type, which puts it in FAULT (R115, R116, R117, R123). These are the model's choices: the
type and the flags given beside the bytes (log 64), the DEVICE notice before the ZONE notices (log 19), that a MISSING device
with its mismatch latched returns to NORMAL at its first good reply of the right type (log 25), the offer to the watch list at
the end of every evaluation (log 26), ALARM as both states of a NOT-ANSWERING body (log 50), that a poll is judged though its
device has left the scan list or taken a new entry while it was out (log 73), a slot's end taken later than its moment (log
17), and that all the notices of one command have joined before the line takes any (log 70). -/
def Obligations.PollReplies : Prop :=
  (∀ a b : Reception,
    let good (r : Reception) (e : Nat) : Prop := (∃ t, r.firstByte = some t ∧ t ≤ 8000) ∧ r.complete = some e ∧ e ≤ 20000 ∧
      r.lateByte = false ∧ (r.bytes.typeCode + r.bytes.value + r.bytes.status + r.bytes.sum) % 256 = 0
    let silent (r : Reception) : Prop := r.firstByte = none ∧ r.complete = none ∧ r.lateByte = false
    (∀ t, a.names = some t → a.reply =
      { type := .known t, value := a.bytes.value, operated := a.operated, fault := a.fault, test := a.test }) ∧
    (a.names = none → a.reply =
      { type := .other a.bytes.typeCode, value := a.bytes.value, operated := a.operated, fault := a.fault, test := a.test }) ∧
    (∀ e, good a e → judgeSlot .oneEnd a b = .good a.reply) ∧
    ((∀ e, ¬ good a e) → (silent a → judgeSlot .oneEnd a b = .noReply) ∧
      (¬ silent a → judgeSlot .oneEnd a b = .error)) ∧
    (∀ e, good a e → (∀ e', good b e' → e ≤ e') → judgeSlot .twoEnd a b = .good a.reply) ∧
    (∀ e, good b e → (∀ e', good a e' → e < e') → judgeSlot .twoEnd a b = .good b.reply) ∧
    ((∀ e, ¬ good a e ∧ ¬ good b e) → (silent a ∧ silent b → judgeSlot .twoEnd a b = .noReply) ∧
      (¬ (silent a ∧ silent b) → judgeSlot .twoEnd a b = .error))) ∧
  (∀ (p : Poll) (d : DeviceRecord) (ra rb : Reception) (s : State), s.held = none → s.fdu.poll = some p →
     p.kind ≠ .continuity → p.started + 25 ≤ s.now → 1 ≤ p.address → p.address ≤ 64 →
     s.fdu.devices[p.address - 1]? = some d → d.state ≠ .disabled →
     judgeSlot s.fdu.mode ra rb = .noReply ∨ judgeSlot s.fdu.mode ra rb = .error →
     let errors := if judgeSlot s.fdu.mode ra rb = .error then min 255 (d.errors + 1) else d.errors
     ∃ t, exec (.pollSlotEnd ra rb) s = .next t ∧ Only [.fire, .link, .lines, .draws] s t ∧ t.fdu.poll = none ∧
       t.fdu.fire = s.fdu.fire ∧ t.fdu.isolation = s.fdu.isolation ∧ t.fdu.slotDue = s.fdu.slotDue ∧
       (d.miss ≠ 2 → t.fdu.devices = s.fdu.devices.set (p.address - 1)
           { d with miss := min 3 (d.miss + 1), errors, retry := d.retry || (p.kind ≠ .retry && d.state ≠ .missing) } ∧
         t.fdu.watch = s.fdu.watch ∧ Sends s [] t) ∧
       (d.miss = 2 → d.state = .alarm → t.fdu.devices = s.fdu.devices.set (p.address - 1)
           { d with miss := 3, errors, retry := d.retry || p.kind ≠ .retry } ∧ t.fdu.watch = s.fdu.watch ∧
         Sends s [.deviceMarker p.address (.notAnswering (s.settings.device p.address).zone (s.settings.device p.address).type
           .alarm .alarm d.value d.operated d.fault d.test)] t) ∧
       (d.miss = 2 → d.state ≠ .alarm → d.state ≠ .missing → t.fdu.devices = s.fdu.devices.set (p.address - 1)
           { d with miss := 3, errors, state := .missing, confirm := 0, clear := 0, recovery := 0 } ∧
         t.fdu.watch = s.fdu.watch.erase p.address ∧
         ∃ bs, Sends s (.device p.address (s.settings.device p.address).zone (s.settings.device p.address).type d.state
           .missing d.value d.operated d.fault d.test .threeMisses :: bs) t)) ∧
  (∀ (p : Poll) (d : DeviceRecord) (ra rb : Reception) (r : LoopReply) (s : State), s.held = none → s.fdu.poll = some p →
     p.kind ≠ .continuity → p.started + 25 ≤ s.now → 1 ≤ p.address → p.address ≤ 64 →
     s.fdu.devices[p.address - 1]? = some d → d.state = .normal ∨ d.state = .missing → d.mismatch = false →
     judgeSlot s.fdu.mode ra rb = .good r → r.type = .known (s.settings.device p.address).type → r.test = false →
     r.fault = false → r.operated = false → r.value < (s.settings.device p.address).preAlarm →
     (s.settings.device p.address).preAlarm ≤ (s.settings.device p.address).alarm →
     s.fdu.isolated (s.settings.device p.address).zone = false ∨
       ((s.settings.device p.address).type ≠ .smoke ∧ (s.settings.device p.address).type ≠ .beam) →
     ∃ t, exec (.pollSlotEnd ra rb) s = .next t ∧ Only [.fire, .link, .lines, .draws] s t ∧ t.fdu.poll = none ∧
       t.fdu.fire = s.fdu.fire ∧ t.fdu.isolation = s.fdu.isolation ∧
       (d.state = .normal → t.fdu.devices = s.fdu.devices.set (p.address - 1)
         { d with value := r.value, operated := false, fault := false, test := false, miss := 0, retry := false,
                  confirm := 0 }) ∧
       (d.state = .missing → t.fdu.devices = s.fdu.devices.set (p.address - 1)
         { d with state := .normal, value := r.value, operated := false, fault := false, test := false, miss := 0,
                  retry := false, confirm := 0, clear := 0, recovery := 0 })) ∧
  (∀ (p : Poll) (d : DeviceRecord) (ra rb : Reception) (r : LoopReply) (s : State), s.held = none → s.fdu.poll = some p →
     p.kind ≠ .continuity → p.started + 25 ≤ s.now → 1 ≤ p.address → p.address ≤ 64 →
     s.fdu.devices[p.address - 1]? = some d → d.mismatch = false → judgeSlot s.fdu.mode ra rb = .good r → r.test = false →
     s.fdu.watch.Nodup →
     s.fdu.isolated (s.settings.device p.address).zone = false ∨
       ((s.settings.device p.address).type ≠ .smoke ∧ (s.settings.device p.address).type ≠ .beam) →
     let a := p.address
     let e := s.settings.device a
     let read : DeviceRecord :=
       { d with value := r.value, operated := r.operated, fault := r.fault, test := false, miss := 0, retry := false }
     let byValue := decide (e.type = .smoke) || decide (e.type = .heat) || decide (e.type = .beam)
     let alarms := if byValue then decide (e.alarm ≤ r.value) else r.operated
     let joined := if a ∈ s.fdu.watch ∨ 8 ≤ s.fdu.watch.length then s.fdu.watch else s.fdu.watch ++ [a]
     let note (entered : DeviceState) (cause : DeviceCause) : NoticeBody :=
       .device a e.zone e.type d.state entered r.value r.operated r.fault false cause
     ∃ t bs, exec (.pollSlotEnd ra rb) s = .next t ∧ (d.state = .alarm ∨ alarms = false →
         Only [.fire, .link, .lines, .draws] s t ∧ Sends s bs t ∧ t.fdu = { s.fdu with
           poll := none, devices := t.fdu.devices, watch := t.fdu.watch, watchPtr := t.fdu.watchPtr, status := t.fdu.status }) ∧
       (r.type = .known e.type → d.state = .normal → byValue = true → r.fault = false → alarms = false →
         e.preAlarm ≤ r.value →
         t.fdu.devices = s.fdu.devices.set (a - 1) { read with state := .preAlarm, confirm := 0, clear := 0 } ∧
         t.fdu.watch = joined ∧ bs.head? = some (note .preAlarm .thresholdUp)) ∧
       (r.type = .known e.type → d.state = .preAlarm → byValue = true → r.fault = false → alarms = false →
         r.value < e.preAlarm →
         (d.clear = 0 → t.fdu.devices = s.fdu.devices.set (a - 1) { read with confirm := 0, clear := 1 } ∧
           t.fdu.watch = joined ∧ bs = []) ∧
         (d.clear ≠ 0 → t.fdu.devices = s.fdu.devices.set (a - 1) { read with state := .normal, confirm := 0, clear := 0 } ∧
           t.fdu.watch = s.fdu.watch.erase a ∧ bs.head? = some (note .normal .thresholdDown))) ∧
       (r.type = .known e.type → d.state = .normal → byValue = false → r.fault = false → r.operated = true → d.confirm = 0 →
         Only [.fire, .link, .lines, .draws] s t ∧ Sends s [] t ∧
         t.fdu.devices = s.fdu.devices.set (a - 1) { read with confirm := 1 } ∧ t.fdu.watch = joined) ∧
       (r.type = .known e.type → d.state = .normal ∨ d.state = .preAlarm → r.fault = true → alarms = false →
         t.fdu.devices = s.fdu.devices.set (a - 1) { read with state := .fault, confirm := 0, clear := 0, recovery := 0 } ∧
         t.fdu.watch = s.fdu.watch.erase a ∧ bs.head? = some (note .fault .deviceFault)) ∧
       (r.type = .known e.type → d.state = .fault → alarms = false →
         (r.fault = true → t.fdu.devices = s.fdu.devices.set (a - 1) { read with recovery := 0 } ∧ bs = []) ∧
         (r.fault = false → d.recovery = 0 → t.fdu.devices = s.fdu.devices.set (a - 1) { read with recovery := 1 } ∧ bs = []) ∧
         (r.fault = false → d.recovery ≠ 0 → byValue = false ∨ r.value < e.preAlarm →
           t.fdu.devices = s.fdu.devices.set (a - 1)
             { read with state := .normal, confirm := 0, clear := 0, recovery := 0 } ∧
           bs.head? = some (note .normal .recovered))) ∧
       (r.type ≠ .known e.type →
         (d.state = .normal ∨ d.state = .preAlarm → alarms = false →
           t.fdu.devices = s.fdu.devices.set (a - 1)
             { read with state := .fault, confirm := 0, clear := 0, recovery := 0, mismatch := true } ∧
           t.fdu.watch = s.fdu.watch.erase a ∧ bs.head? = some (note .fault (.typeMismatch r.type))) ∧
         (d.state = .alarm → t.fdu.devices = s.fdu.devices.set (a - 1) { read with mismatch := true } ∧ bs = [])) ∧
       (r.type = .known e.type → d.state = .alarm → t.fdu.devices = s.fdu.devices.set (a - 1) read ∧ bs = [])) ∧
  ∀ (p : Poll) (d : DeviceRecord) (ra rb : Reception) (r : LoopReply) (s : State), s.held = none → s.fdu.poll = some p →
    p.kind ≠ .continuity → p.started + 25 ≤ s.now → 1 ≤ p.address → p.address ≤ 64 →
    s.fdu.devices[p.address - 1]? = some d → d.state ≠ .disabled → judgeSlot s.fdu.mode ra rb = .good r →
    s.fdu.watch.Nodup →
    let a := p.address
    let e := s.settings.device a
    let shielded : Prop := s.fdu.isolated e.zone = true ∧ (e.type = .smoke ∨ e.type = .beam)
    let mistyped : Prop := d.mismatch = true ∨ r.type ≠ .known e.type
    let read : DeviceRecord :=
      { d with value := r.value, operated := r.operated, fault := r.fault, test := r.test, miss := 0, retry := false }
    let recovered : DeviceRecord := { read with state := .normal, confirm := 0, clear := 0, recovery := 0 }
    let returned : NoticeBody := .device a e.zone e.type .missing .normal d.value d.operated d.fault d.test .firstReply
    let note (entered : DeviceState) (cause : DeviceCause) : NoticeBody :=
      .device a e.zone e.type d.state entered r.value r.operated r.fault r.test cause
    let becomes (f : DeviceRecord) (t : State) : Prop := t.fdu.devices = s.fdu.devices.set (a - 1) f ∧
      t.fdu.watch = if f.state = .preAlarm ∨ (f.state = .normal ∧ 0 < f.confirm) then
          (if a ∈ s.fdu.watch ∨ 8 ≤ s.fdu.watch.length then s.fdu.watch else s.fdu.watch ++ [a])
        else s.fdu.watch.erase a
    mistyped ∨ r.test = true ∨ shielded →
    ∃ t bs, exec (.pollSlotEnd ra rb) s = .next t ∧ Only [.fire, .link, .lines, .draws] s t ∧ Sends s bs t ∧
      t.fdu = { s.fdu with
        poll := none, devices := t.fdu.devices, watch := t.fdu.watch, watchPtr := t.fdu.watchPtr, status := t.fdu.status } ∧
      (r.type = .known e.type → d.state = .missing → becomes recovered t ∧ bs.head? = some returned) ∧
      (r.type = .known e.type → d.state = .normal ∨ d.state = .preAlarm ∨ d.state = .alarm → becomes read t ∧ bs = []) ∧
      (r.type = .known e.type → d.state = .fault →
        (d.mismatch = true → becomes read t ∧ bs = []) ∧
        (d.mismatch = false → r.fault = true ∨ r.test = true → becomes { read with recovery := 0 } t ∧ bs = []) ∧
        (d.mismatch = false → r.fault = false → r.test = false →
          (d.recovery = 0 → becomes { read with recovery := 1 } t ∧ bs = []) ∧
          (d.recovery ≠ 0 → becomes recovered t ∧ bs.head? = some (note .normal .recovered)))) ∧
      (r.type ≠ .known e.type →
        (d.state = .alarm → becomes { read with mismatch := true } t ∧ bs = []) ∧
        (d.state ≠ .alarm → becomes { recovered with state := .fault, mismatch := true } t) ∧
        (d.state = .normal ∨ d.state = .preAlarm → bs.head? = some (note .fault (.typeMismatch r.type))) ∧
        (d.state = .missing → bs.head? = some returned))

/-- The reply that brings a device's confirm count to its confirming number (3 for SMOKE and BEAM, 2 for HEAT, CALLPOINT and
INPUT) puts it in ALARM, with its counts at 0 and off the watch list, in a zone not isolated, and in an isolated one too where
it is no SMOKE or BEAM device (R116, R118, R120, R123). In QUIET and outside a walk test it becomes the first alarm, and the
fire state is STAFF-ALERT for a SMOKE, BEAM or INPUT device of a delayed zone with the public in, and FULL otherwise (R135).
In STAFF-ALERT it raises the alarm count, and the fire state is FULL with the cause SECOND-ALARM (R138). In FULL it raises the
alarm count and re-sounds the alarm: SILENCED is clear, the sounders are driven, and the evacuation call is issued afresh,
whose id is kept; where the entry of the kept call still stands the call merges with it and its id stays (R143). That the id
of a re-sounding takes the place of the kept one is the model's choice (log 56). That an event may be taken later than its
moment is the model's choice (log 17). That a poll is judged though its device has left the scan list or taken a new entry
while it was out is the model's choice (log 73). -/
def Obligations.ConfirmedAlarm : Prop :=
  ∀ (p : Poll) (d : DeviceRecord) (ra rb : Reception) (r : LoopReply) (s : State), s.held = none → s.fdu.poll = some p →
    p.kind ≠ .continuity → p.started + 25 ≤ s.now → 1 ≤ p.address → p.address ≤ 64 →
    s.fdu.devices[p.address - 1]? = some d → d.state = .normal ∨ d.state = .preAlarm → d.mismatch = false →
    judgeSlot s.fdu.mode ra rb = .good r → r.type = .known (s.settings.device p.address).type → r.test = false →
    let e := s.settings.device p.address
    (match e.type with
      | .smoke | .beam => e.alarm ≤ r.value ∧ d.confirm = 2
      | .heat => e.alarm ≤ r.value ∧ d.confirm = 1
      | .callpoint | .input => r.operated = true ∧ d.confirm = 1) →
    s.fdu.isolated e.zone = false ∨ (e.type ≠ .smoke ∧ e.type ≠ .beam) → s.fdu.fire.walk = none → s.fdu.watch.Nodup →
    let alert := (e.type = .smoke ∨ e.type = .beam ∨ e.type = .input) ∧ (s.settings.zone e.zone).delay = true ∧
      (s.phase = .houseOpen ∨ s.phase = .running ∨ s.phase = .interval ∨ s.phase = .resuming ∨ s.phase = .stopped)
    let number := s.settings.fireTimes.evacTemplate
    let T : Template := { s.settings.template number with cls := .evac, repeats := 0 }
    ∃ t, exec (.pollSlotEnd ra rb) s = .next t ∧
      t.fdu.device p.address = { d with
        state := .alarm, value := r.value, operated := r.operated, fault := r.fault, test := false, miss := 0,
        retry := false, confirm := 0, clear := 0, recovery := 0 } ∧
      t.fdu.watch = s.fdu.watch.erase p.address ∧ t.settings = s.settings ∧ t.store = s.store ∧ t.dsu = s.dsu ∧
      (s.fdu.fire.state = .quiet →
        t.fdu.fire.first = some { address := p.address, type := e.type, zone := e.zone, time := s.now } ∧
        t.fdu.fire.count = 1 ∧ t.fdu.fire.entry = s.now ∧
        (alert → t.fdu.fire.state = .staffAlert .awaitingAck ∧ Untouched { s with fdu := t.fdu } t ∧ t.pfu = s.pfu ∧
          t.fdu.fire.timer = some (s.now + s.settings.fireTimes.acknowledge * 1000)) ∧
        (¬ alert → t.fdu.fire.state = .full ∧ t.fdu.fire.cause = some .direct ∧ t.fdu.fire.timer = none ∧
          (CurtainOk s.ctc → CurtainFalls s →
            EntersFull { s with fdu := { s.fdu with devices := t.fdu.devices } } .direct t))) ∧
      (∀ x, s.fdu.fire.state = .staffAlert x →
        t.fdu.fire.first = s.fdu.fire.first ∧ t.fdu.fire.count = min 255 (s.fdu.fire.count + 1) ∧
        t.fdu.fire.state = .full ∧ t.fdu.fire.cause = some .secondAlarm ∧ t.fdu.fire.timer = none ∧
        t.fdu.fire.entry = s.now ∧
        (CurtainOk s.ctc → CurtainFalls s →
          EntersFull { s with fdu := { s.fdu with devices := t.fdu.devices } } .secondAlarm t)) ∧
      (s.fdu.fire.state = .full →
        t.fdu.fire = { s.fdu.fire with
          silenced := false, count := min 255 (s.fdu.fire.count + 1), staffCall := t.fdu.fire.staffCall,
          evacCall := t.fdu.fire.evacCall } ∧
        t.lines.sounders = List.replicate 4 true ∧ Untouched { s with fdu := t.fdu } t ∧ t.pfu = s.pfu ∧ t.ctc = s.ctc ∧
        (GatesCurrent s → QueueOk s.clu →
          (number = 255 → t.clu = s.clu ∧ t.fdu.fire.evacCall = s.fdu.fire.evacCall) ∧
          (number ≠ 255 → ∀ o id merged zones,
            s.clu.decideCall s.now s.phase .safety T = (o, .admitted id merged zones) →
            t.clu = o.clu ∧ t.fdu.fire.evacCall = some id) ∧
          (number ≠ 255 → templateOk T = true → ∀ e ∈ s.clu.entries, s.fdu.fire.evacCall = some e.id →
            e.slot = T.slot → e.zones = T.zones → e.cls = .evac →
            (∀ f ∈ s.clu.entries, f.slot = T.slot → f.zones = T.zones → f.cls = .evac → f = e) →
            t.fdu.fire.evacCall = some e.id ∧ ∃ f ∈ t.clu.entries, f.id = e.id ∧ f.repeats = 0 ∧ f.gap = T.gap)))

/-- The continuity timer expires every 30 s; two failures running put the loop in TWO-END with LOOP-BROKEN, two passes
running return it to ONE-END; and a walk indication runs out (R124, R125, R126). That the notice of the loop's change names
no address is the model's choice (log 59). That all the notices of one command have joined before the line takes any is the
model's choice (log 70). That an event may be taken later than its moment is the model's choice (log 17). -/
def Obligations.ContinuityAndIndications : Prop :=
  ∀ s : State, s.held = none →
    (s.fdu.contNext ≤ s.now → ∃ t, exec .continuityDue s = .next t ∧ Only [.fire, .link, .lines, .draws] s t ∧
      t.fdu = { s.fdu with contDue := true, contNext := s.fdu.contNext + 30000 }) ∧
    (∀ p, s.fdu.poll = some p → p.kind = .continuity →
      (p.started + 10 ≤ s.now → ∃ t bs, exec (.continuityResult false) s = .next t ∧
        Only [.fire, .link, .lines, .draws] s t ∧ Sends s bs t ∧
        (s.fdu.mode = .oneEnd → s.fdu.failRun = 1 → bs = [.deviceMarker 0 .loopBroken] ∧ t.fdu = { s.fdu with
          poll := none, passRun := 0, failRun := 2, mode := .twoEnd, loopBroken := true }) ∧
        (s.fdu.mode = .twoEnd ∨ s.fdu.failRun = 0 → bs = [] ∧ t.fdu = { s.fdu with
          poll := none, passRun := 0, failRun := min 2 (s.fdu.failRun + 1) })) ∧
      (s.now ≤ p.started + 10 → ∃ t bs, exec (.continuityResult true) s = .next t ∧
        Only [.fire, .link, .lines, .draws] s t ∧ Sends s bs t ∧
        (s.fdu.mode = .twoEnd → s.fdu.passRun = 1 → bs = [.deviceMarker 0 .loopRestored] ∧ t.fdu = { s.fdu with
          poll := none, failRun := 0, passRun := 2, mode := .oneEnd, loopBroken := false }) ∧
        (s.fdu.mode = .oneEnd ∨ s.fdu.passRun = 0 → bs = [] ∧ t.fdu = { s.fdu with
          poll := none, failRun := 0, passRun := min 2 (s.fdu.passRun + 1) }))) ∧
    (∀ a d x, 1 ≤ a → s.fdu.devices[a - 1]? = some d → d.walk = some x → x ≤ s.now →
      ∃ t, exec (.walkIndicationExpiry a) s = .next t ∧ Only [.fire, .link, .lines, .draws] s t ∧
        t.fdu = { s.fdu with devices := s.fdu.devices.set (a - 1) { d with walk := none } })

/-! ## Chapter 7: zones and the fire state -/

/-- ZONE-ISOLATE is decided in order by its fields, the class, the alarm, the walk test and the limit of four; accepted, the
zone's lease of at most 3600 s runs from the acceptance, and at the start of an isolation no SMOKE or BEAM device of the
zone is left in PRE-ALARM or counting toward alarm and the zones' statuses are rederived, while a renewal moves nothing else
(R123, R131, R132). An isolation ends by ZONE-RESTORE and by its expiry: the expiry is absent, the zones' statuses are
rederived and no device moves (R131, R133). That all the notices of one command have joined before the line takes any is the
model's choice (log 70). That an event may be taken later than its moment is the model's choice (log 17). -/
def Obligations.ZoneIsolation : Prop :=
  (∀ (z seconds : Nat) (s : State), Admits s →
     (z = 0 ∨ 16 < z ∨ seconds = 0 → Refuses (.zoneIsolate z seconds) .zoneIsolate .badField .none s) ∧
     (1 ≤ z → z ≤ 16 → seconds ≠ 0 →
       ((s.settings.zone z).cls = .auditorium ∨ (s.settings.zone z).cls = .front →
         Refuses (.zoneIsolate z seconds) .zoneIsolate .badField .none s) ∧
       ((s.settings.zone z).cls = .stage ∨ (s.settings.zone z).cls = .backstage →
         (s.fireFull = true ∨ s.fdu.zoneStatus z = .alarm →
           Refuses (.zoneIsolate z seconds) .zoneIsolate .alarmActive .none s) ∧
         (s.fireFull = false → s.fdu.zoneStatus z ≠ .alarm →
           (s.fdu.underWalk z = true → Refuses (.zoneIsolate z seconds) .zoneIsolate .wrongState .none s) ∧
           (s.fdu.underWalk z = false →
             (s.fdu.isolated z = false → 4 ≤ s.fdu.isolatedCount →
               Refuses (.zoneIsolate z seconds) .zoneIsolate .limit .none s) ∧
             (s.fdu.isolated z = true ∨ s.fdu.isolatedCount < 4 →
               ∃ t, exec (.zoneIsolate z seconds) s = .next t ∧ Only [.fire, .link, .lines, .draws] s t ∧
                 t.fdu.isolation = s.fdu.isolation.set (z - 1) (some (s.now + min 3600 seconds * 1000)) ∧
                 t.fdu.fire = s.fdu.fire ∧
                 (s.fdu.isolated z = true → t.fdu.devices = s.fdu.devices ∧ t.fdu.status = s.fdu.status ∧
                   t.fdu.watch = s.fdu.watch) ∧
                 (s.fdu.isolated z = false → ∀ x, 1 ≤ x → x ≤ 16 → t.fdu.zoneStatus x = t.fdu.derive s.settings x) ∧
                 (s.fdu.isolated z = false → ∀ (i : Nat) (d : DeviceRecord), i < 64 → t.fdu.devices[i]? = some d →
                   (s.settings.device (i + 1)).zone = z →
                   (s.settings.device (i + 1)).type = .smoke ∨ (s.settings.device (i + 1)).type = .beam →
                   d.state ≠ .preAlarm ∧ (d.state = .normal → d.confirm = 0)) ∧
                 ∃ bs, Replies s .zoneIsolate (.done (.isolated z (min 3600 seconds)
                   (s.now + min 3600 seconds * 1000) t.fdu.isolatedCount)) bs t)))))) ∧
  ∀ (z : Nat) (s : State),
    (Admits s →
      (z = 0 ∨ 16 < z → Refuses (.zoneRestore z) .zoneRestore .badField .none s) ∧
      (1 ≤ z → z ≤ 16 → s.fdu.isolated z = false → Refuses (.zoneRestore z) .zoneRestore .wrongState .none s) ∧
      (1 ≤ z → z ≤ 16 → s.fdu.isolated z = true → ∃ t bs, exec (.zoneRestore z) s = .next t ∧
        Only [.fire, .link, .lines, .draws] s t ∧
        t.fdu = { s.fdu with isolation := s.fdu.isolation.set (z - 1) none, status := t.fdu.status } ∧
        (∀ x, 1 ≤ x → x ≤ 16 → t.fdu.zoneStatus x = t.fdu.derive s.settings x) ∧
        Replies s .zoneRestore (.done .empty) bs t)) ∧
    (∀ x, s.held = none → 1 ≤ z → z ≤ 16 → s.fdu.expiry z = some x → x ≤ s.now →
      ∃ t bs, exec (.isolationExpiry z) s = .next t ∧ Only [.fire, .link, .lines, .draws] s t ∧
        t.fdu = { s.fdu with isolation := s.fdu.isolation.set (z - 1) none, status := t.fdu.status } ∧
        (∀ x, 1 ≤ x → x ≤ 16 → t.fdu.zoneStatus x = t.fdu.derive s.settings x) ∧ Sends s bs t)

/-- FIRE-ACK in AWAITING-ACK starts the investigation with its timer; the timers of the staff alert end in FULL with their
causes (R137, R138). FIRE-FULL in QUIET and STAFF-ALERT enters FULL with the cause MANUAL; in FULL with SILENCED set it
sounds the alarm again; in FULL with SILENCED clear it is refused with WRONG-STATE (R140, R141, R143, R145). That all the
notices of one command have joined before the line takes any is the model's choice (log 70). That an event may be taken
later than its moment is the model's choice (log 17). -/
def Obligations.StaffAlertAndFull : Prop :=
  (∀ s : State,
     (Admits s →
       (s.fdu.fire.state = .staffAlert .awaitingAck → ∃ t, exec .fireAck s = .next t ∧
         Only [.fire, .link, .lines, .draws] s t ∧
         t.fdu = { s.fdu with fire := { s.fdu.fire with
           state := .staffAlert .investigating, entry := s.now,
           timer := some (s.now + s.settings.fireTimes.investigation * 1000) } } ∧
         ∃ b, Replies s .fireAck (.done .empty) [b] t ∧ b.cls = .alarm) ∧
       (s.fdu.fire.state ≠ .staffAlert .awaitingAck → Refuses .fireAck .fireAck .wrongState .none s)) ∧
     (∀ x, s.held = none → CurtainOk s.ctc → CurtainFalls s → s.fdu.fire.timer = some x → x ≤ s.now →
       (s.fdu.fire.state = .staffAlert .awaitingAck →
         ∃ t, exec .fireTimerExpiry s = .next t ∧ EntersFull s .ackExpired t) ∧
       (s.fdu.fire.state = .staffAlert .investigating →
         ∃ t, exec .fireTimerExpiry s = .next t ∧ EntersFull s .investigationExpired t))) ∧
  ∀ s : State, Admits s →
    (s.fireFull = false → CurtainOk s.ctc → CurtainFalls s → ∃ t, exec .fireFull s = .next t ∧ EntersFull s .manual t ∧
      t.fdu.fire.first = s.fdu.fire.first ∧ t.fdu.fire.count = s.fdu.fire.count ∧
      ∃ bs, Replies s .fireFull (.done .empty) bs t) ∧
    (s.fireFull = true → s.fdu.fire.silenced = true → ∃ t, exec .fireFull s = .next t ∧
      Untouched { s with fdu := { s.fdu with fire := { s.fdu.fire with silenced := false } } } t ∧ t.pfu = s.pfu ∧
      t.ctc = s.ctc ∧ t.lines.sounders = List.replicate 4 true ∧ ∃ bs, Replies s .fireFull (.done .empty) bs t) ∧
    (s.fireFull = true → s.fdu.fire.silenced = false → Refuses .fireFull .fireFull .wrongState .none s)

/-- FIRE-SILENCE in FULL with SILENCED clear sets it, stops the sounders and cancels the evacuation call that is kept; the
fire state, the phase, the safety outputs and the devices stand. Anywhere else it is refused with WRONG-STATE (R142, R145,
R169). FIRE-RESET in STAFF-ALERT, and in FULL once silenced, with every device in ALARM reading clear: those devices return
to NORMAL, or to FAULT where the type was wrong, and the fire state is QUIET with no first alarm, no alarms counted and no
timer; the phase and the isolations stand. In QUIET, and in FULL that still sounds, it is refused with WRONG-STATE, and
while a device in ALARM does not read clear with CONDITION-PRESENT (R120, R139, R144). That a device's counts set to 0
include its miss count is the model's reading (log 28). That all the notices of one command have joined before the line
takes any is the model's choice (log 70). -/
def Obligations.FireSilenceAndReset : Prop :=
  (∀ s : State, Admits s →
     (s.fireFull = true → s.fdu.fire.silenced = false → GatesCurrent s → QueueOk s.clu → ∃ t, exec .fireSilence s = .next t ∧
       Only [.fire, .calls, .gates, .link, .lines, .draws] s t ∧ t.fireFull = true ∧ t.fdu.fire.silenced = true ∧
       t.fdu.devices = s.fdu.devices ∧ t.fdu.isolation = s.fdu.isolation ∧ t.fdu.fire.first = s.fdu.fire.first ∧
       t.fdu.fire.count = s.fdu.fire.count ∧ t.lines.sounders = List.replicate 4 false ∧
       t.ilu.hoist = s.ilu.hoist ∧ t.ilu.release = s.ilu.release ∧ t.ilu.relay = s.ilu.relay ∧
       (s.fdu.fire.evacCall = none → t.clu = s.clu) ∧
       (∀ i, s.fdu.fire.evacCall = some i → (∀ e ∈ t.clu.entries, e.id ≠ i) ∧
         ∀ e ∈ s.clu.entries, e.id ≠ i → ∃ f ∈ t.clu.entries, f.id = e.id ∧ f.cls = e.cls) ∧
       ∃ bs, Replies s .fireSilence (.done .empty) bs t) ∧
     (s.fireFull = false ∨ s.fdu.fire.silenced = true → Refuses .fireSilence .fireSilence .wrongState .none s)) ∧
  ∀ s : State, Admits s →
    (s.fdu.fire.state = .quiet ∨ (s.fireFull = true ∧ s.fdu.fire.silenced = false) →
      Refuses .fireReset .fireReset .wrongState .none s) ∧
    (s.fdu.fire.state ≠ .quiet → s.fireFull = false ∨ s.fdu.fire.silenced = true →
      ((∃ a, 1 ≤ a ∧ a ≤ 64 ∧ (s.fdu.device a).state = .alarm ∧ ((s.fdu.device a).operated = true ∨
          (((s.settings.device a).type = .smoke ∨ (s.settings.device a).type = .heat ∨ (s.settings.device a).type = .beam) ∧
            (s.settings.device a).preAlarm ≤ (s.fdu.device a).value))) →
        Refuses .fireReset .fireReset .conditionPresent .none s) ∧
      ((∀ a, 1 ≤ a → a ≤ 64 → (s.fdu.device a).state = .alarm → (s.fdu.device a).operated = false ∧
          ((s.settings.device a).type = .smoke ∨ (s.settings.device a).type = .heat ∨
            (s.settings.device a).type = .beam → (s.fdu.device a).value < (s.settings.device a).preAlarm)) →
        s.fdu.devices.length = 64 →
        ∃ t, exec .fireReset s = .next t ∧ t.settings = s.settings ∧ t.store = s.store ∧ t.pfu = s.pfu ∧ t.ctc = s.ctc ∧
          t.dsu = s.dsu ∧ t.lmu = s.lmu ∧ t.fdu.isolation = s.fdu.isolation ∧
          t.fdu.fire.state = .quiet ∧ t.fdu.fire.silenced = false ∧ t.fdu.fire.first = none ∧ t.fdu.fire.count = 0 ∧
          t.fdu.fire.cause = none ∧ t.fdu.fire.timer = none ∧ t.fdu.fire.entry = s.now ∧
          t.fdu.devices = s.fdu.devices.map (fun d => if d.state = .alarm then
            { d with state := if d.mismatch then .fault else .normal, confirm := 0, clear := 0, recovery := 0, miss := 0 }
            else d) ∧
          ∃ bs, Replies s .fireReset (.done .empty) bs t))

/-- WALK-TEST is decided in order by its zone, the phase, the fire state and what stands in the zone; accepted, the test of
the zone begins, and WALK-TEST-END ends it with a WALK notice of its confirmations. FIRE-READ that asks for it clears the
fault of each sounder circuit whose channel is NORMAL, and shows the faults as they stood (R145, R146, R148). The reply that
brings a device of the zone under test to its confirming number is a confirmation of the test: the device returns to NORMAL
without a DEVICE notice and takes its walk indication of 5 s, the test's count rises, and a WALK notice tells of it; the fire
state does not change (R118, R123, R147). That the WALK notice comes before the ZONE notices of the same moment is the model's
choice (log 19). That all the notices of one command have joined before the line takes any is the model's choice (log 70).
That an event may be taken later than its moment is the model's choice (log 17). That a poll is judged though its device has
left the scan list or taken a new entry while it was out is the model's choice (log 73). -/
def Obligations.WalkTestAndFaultClear : Prop :=
  (∀ (z : Nat) (s : State), Admits s →
     (z = 0 ∨ 16 < z → Refuses (.walkTest z) .walkTest .badField .none s) ∧
     (1 ≤ z → z ≤ 16 →
       (s.phase ≠ .dark → Refuses (.walkTest z) .walkTest .wrongPhase .none s) ∧
       (s.phase = .dark → s.fdu.fire.state ≠ .quiet → Refuses (.walkTest z) .walkTest .alarmActive .none s) ∧
       (s.phase = .dark → s.fdu.fire.state = .quiet →
         (s.fdu.fire.walk.isSome = true ∨ s.fdu.isolated z = true → Refuses (.walkTest z) .walkTest .wrongState .none s) ∧
         (s.fdu.fire.walk = none → s.fdu.isolated z = false → ∃ t, exec (.walkTest z) s = .next t ∧
           Only [.fire, .link, .lines, .draws] s t ∧
           t.fdu = { s.fdu with fire := { s.fdu.fire with walk := some { zone := z, started := s.now, count := 0 } } } ∧
           Replies s .walkTest (.done .empty) [] t))) ∧
     (s.fdu.fire.walk = none → Refuses .walkTestEnd .walkTestEnd .wrongState .none s) ∧
     (∀ w, s.fdu.fire.walk = some w → ∃ t, exec .walkTestEnd s = .next t ∧ Only [.fire, .link, .lines, .draws] s t ∧
       t.fdu = { s.fdu with fire := { s.fdu.fire with walk := none } } ∧
       Replies s .walkTestEnd (.done .empty) [.walkEnded w.zone w.count .request] t) ∧
     (∃ t, exec (.fireRead true) s = .next t ∧ Only [.fire, .link, .lines, .draws] s t ∧
       t.fdu = { s.fdu with sounderFaults := t.fdu.sounderFaults } ∧
       (∀ (i : Nat) (b : Bool), s.fdu.sounderFaults[i]? = some b →
         t.fdu.sounderFaults[i]? = some (b && !decide (s.lmu.limitState (i + 2) = .normal))) ∧
       Replies s .fireRead (.done (.fire s.readFire)) [] t)) ∧
  ∀ (p : Poll) (d : DeviceRecord) (w : WalkTest) (ra rb : Reception) (r : LoopReply) (s : State), s.held = none →
    s.fdu.poll = some p → p.kind ≠ .continuity → p.started + 25 ≤ s.now → 1 ≤ p.address → p.address ≤ 64 →
    s.fdu.devices[p.address - 1]? = some d → d.state = .normal ∨ d.state = .preAlarm → d.mismatch = false →
    judgeSlot s.fdu.mode ra rb = .good r → r.type = .known (s.settings.device p.address).type → r.test = false →
    let e := s.settings.device p.address
    (match e.type with
      | .smoke | .beam => e.alarm ≤ r.value ∧ d.confirm = 2
      | .heat => e.alarm ≤ r.value ∧ d.confirm = 1
      | .callpoint | .input => r.operated = true ∧ d.confirm = 1) →
    s.fdu.isolated e.zone = false → s.fdu.fire.walk = some w → w.zone = e.zone → s.fdu.watch.Nodup →
    ∃ t bs, exec (.pollSlotEnd ra rb) s = .next t ∧ Only [.fire, .link, .lines, .draws] s t ∧
      t.fdu.devices = s.fdu.devices.set (p.address - 1)
        { d with state := .normal, value := r.value, operated := r.operated, fault := r.fault, test := false, miss := 0,
                 retry := false, confirm := 0, clear := 0, recovery := 0, walk := some (s.now + 5000) } ∧
      t.fdu.watch = s.fdu.watch.erase p.address ∧
      t.fdu.fire = { s.fdu.fire with walk := some { w with count := min 255 (w.count + 1) } } ∧
      (∀ b ∈ bs, ∃ z c x y o, b = .zone z c x y o) ∧
      Sends s (.walkConfirmed p.address e.type (d.confirm + 1) r.value :: bs) t

/-! ## Chapter 8: calls -/

/-- A call of the host that is not refused and merges with no entry takes its reservation, or else the pool, and a fresh id
counting on from next-id: its entry stands in the queue with the barred zones taken out (R153, R154, R156). A call whose
message slot, zones and class are those of an entry, with the barred zones taken out, merges with it: the larger number of
repeats, endless counting largest, and the new gap; it takes no entry and no id (R154, R155). A call of the host is refused
where its fields fail, those of a body that is no call at all and a template number above 15 among them, where it is of
class SHOW or HOUSE in EVACUATE, where barring in RUNNING leaves it no zone, and where it merges with no entry and its
reservation and the pool are used up (R151, R153, R154, R156). Where the arrival numbers have come to their end the entries
are first renumbered from 1 in their order (R156). A call of class EVAC or ALERT, admitted or merged, stops a SHOW or HOUSE
play and removes its entry with the cause PREEMPTED; an EVAC call stops an ALERT play, whose entry is QUEUED again; and any
other play goes on (R155, R162, R166, R170). A SAFETY call that finds its reservation and the pool used up evicts the newest
HOUSE entry of the pool that is not PLAYING, or else the newest SHOW entry, with the cause EVICTED, and takes its place in
the pool; where none qualifies it is refused with QUEUE-FULL and nothing is evicted (R157). That the notice marked REQUEUED
carries the id is the model's choice (log 59). That all the notices of one command have joined before the line takes any is
the model's choice (log 70). -/
def Obligations.CallsAreTaken : Prop :=
  (∀ (c : Instr) (kind : RequestKind) (T : Template) (s : State), Admits s → GatesCurrent s → QueueOk s.clu →
     (∃ n, n ≤ 15 ∧ c = .callTemplate n ∧ kind = .callTemplate ∧ T = s.settings.template n) ∨
       (∃ b, c = .call b ∧ kind = .call ∧ checkedBody b = some T) →
     let next := if s.clu.nextArrival ≤ 4294967295 then s.clu.nextArrival else s.clu.entries.length + 1
     let z := if s.phase = .running ∧ (T.cls = .showClass ∨ T.cls = .houseClass) then withoutAudience T.zones else T.zones
     templateOk T = true → s.phase ≠ .evacuate ∨ T.cls = .evac ∨ T.cls = .alert → z ≠ 0 →
     (∀ e ∈ s.clu.entries, ¬ (e.slot = T.slot ∧ e.zones = z ∧ e.cls = T.cls)) →
     s.clu.reservedInUse .link < 5 ∨ (s.clu.poolInUse < 8 ∧ (T.cls = .houseClass → s.clu.poolInUse < 6)) →
     ∃ t e bs, exec c s = .next t ∧ Only [.fire, .calls, .gates, .link, .lines, .draws] s t ∧ Untouched s t ∧
       Replies s kind (.done (.call e.id false z)) bs t ∧ e ∈ t.clu.entries ∧
       1 ≤ e.id ∧ e.id ≤ 255 ∧ (∀ f ∈ s.clu.entries, f.id ≠ e.id) ∧
       ((∀ f ∈ s.clu.entries, f.id ≠ s.clu.nextId) → e.id = s.clu.nextId) ∧
       t.clu.nextId = (if e.id = 255 then 1 else e.id + 1) ∧ t.clu.nextArrival = next + 1 ∧
       (∀ f ∈ t.clu.entries, f.id ≠ e.id → ∃ g ∈ s.clu.entries, g.id = f.id ∧ f.arrival =
         if s.clu.nextArrival ≤ 4294967295 then g.arrival
         else (s.clu.entries.filter fun h => h.arrival ≤ g.arrival).length) ∧
       e.source = .link ∧ e.cls = T.cls ∧ e.slot = T.slot ∧ e.zones = z ∧ e.bell = T.bell ∧ e.repeats = T.repeats ∧
       e.gap = T.gap ∧ e.plays = 0 ∧ e.arrival = next ∧
       e.pool = !decide (s.clu.reservedInUse .link < 5)) ∧
  (∀ (c : Instr) (kind : RequestKind) (T : Template) (e : CallEntry) (s : State), Admits s → GatesCurrent s → QueueOk s.clu →
     (∃ n, n ≤ 15 ∧ c = .callTemplate n ∧ kind = .callTemplate ∧ T = s.settings.template n) ∨
       (∃ b, c = .call b ∧ kind = .call ∧ checkedBody b = some T) →
     let z := if s.phase = .running ∧ (T.cls = .showClass ∨ T.cls = .houseClass) then withoutAudience T.zones else T.zones
     templateOk T = true → s.phase ≠ .evacuate ∨ T.cls = .evac ∨ T.cls = .alert → z ≠ 0 →
     (∃ before after, s.clu.entries = before ++ e :: after ∧
       ∀ f ∈ before, ¬ (f.slot = T.slot ∧ f.zones = z ∧ f.cls = T.cls)) →
     e.slot = T.slot → e.zones = z → e.cls = T.cls →
     ∃ t f bs, exec c s = .next t ∧ Only [.fire, .calls, .gates, .link, .lines, .draws] s t ∧ Untouched s t ∧
       Replies s kind (.done (.call e.id true e.zones)) bs t ∧ f ∈ t.clu.entries ∧ f.id = e.id ∧
       f.repeats = (if e.repeats = 0 ∨ T.repeats = 0 then 0 else max e.repeats T.repeats) ∧ f.gap = T.gap ∧
       f.bell = e.bell ∧ f.source = e.source ∧ f.arrival = e.arrival ∧ f.plays = e.plays ∧ f.pool = e.pool ∧
       t.clu.nextId = s.clu.nextId ∧ t.clu.nextArrival = s.clu.nextArrival) ∧
  (∀ (c : Instr) (kind : RequestKind) (T : Template) (e : CallEntry) (s : State), Admits s → GatesCurrent s →
     QueueOk s.clu →
     (∃ n, n ≤ 15 ∧ c = .callTemplate n ∧ kind = .callTemplate ∧ T = s.settings.template n) ∨
       (∃ b, c = .call b ∧ kind = .call ∧ checkedBody b = some T) →
     templateOk T = true → T.cls = .evac ∨ T.cls = .alert →
     (∀ g ∈ s.clu.entries, ¬ (g.slot = T.slot ∧ g.zones = T.zones ∧ g.cls = T.cls)) →
     s.clu.reservedInUse .link < 5 ∨ s.clu.poolInUse < 8 → s.clu.playing = some e →
     let held := if s.clu.nextArrival ≤ 4294967295 then s.clu.entries else s.clu.entries.map fun g =>
       { g with arrival := (s.clu.entries.filter fun h => h.arrival ≤ g.arrival).length }
     ∃ t f, exec c s = .next t ∧ Only [.fire, .calls, .gates, .link, .lines, .draws] s t ∧ Untouched s t ∧
       f.cls = T.cls ∧ f.slot = T.slot ∧ f.zones = T.zones ∧ f.source = .link ∧ f.state = .queued ∧
       (e.cls = .showClass ∨ e.cls = .houseClass →
         t.clu.entries = held.filter (fun g => g.id ≠ e.id) ++ [f] ∧
         t.clu.announcer = .stopping (some (s.now + 50)) (s.now + 500) ∧ t.lines.stop = true ∧ t.lines.relays = 0 ∧
         Replies s kind (.done (.call f.id false T.zones)) [.callRemoved e.id e.source e.cls e.plays .preempted] t) ∧
       (e.cls = .alert → T.cls = .evac →
         t.clu.entries = (held.map fun g => if g.id = e.id then { g with state := .queued } else g) ++ [f] ∧
         t.clu.announcer = .stopping (some (s.now + 50)) (s.now + 500) ∧ t.lines.stop = true ∧ t.lines.relays = 0 ∧
         Replies s kind (.done (.call f.id false T.zones)) [.callRequeued e.id] t) ∧
       (e.cls = .evac ∨ (e.cls = .alert ∧ T.cls = .alert) →
         t.clu.entries = held ++ [f] ∧ t.clu.announcer = s.clu.announcer ∧
         Replies s kind (.done (.call f.id false T.zones)) [] t)) ∧
  (∀ (c : Instr) (kind : RequestKind) (T : Template) (e m : CallEntry) (s : State), Admits s → GatesCurrent s →
     QueueOk s.clu →
     (∃ n, n ≤ 15 ∧ c = .callTemplate n ∧ kind = .callTemplate ∧ T = s.settings.template n) ∨
       (∃ b, c = .call b ∧ kind = .call ∧ checkedBody b = some T) →
     templateOk T = true → T.cls = .evac ∨ T.cls = .alert →
     (∃ before after, s.clu.entries = before ++ m :: after ∧
       ∀ g ∈ before, ¬ (g.slot = T.slot ∧ g.zones = T.zones ∧ g.cls = T.cls)) →
     m.slot = T.slot → m.zones = T.zones → m.cls = T.cls → s.clu.playing = some e →
     let merged := s.clu.entries.map fun g => if g.id = m.id then
       { g with repeats := if m.repeats = 0 ∨ T.repeats = 0 then 0 else max m.repeats T.repeats, gap := T.gap } else g
     let done : Decision := .done (.call m.id true m.zones)
     ∃ t, exec c s = .next t ∧ Only [.fire, .calls, .gates, .link, .lines, .draws] s t ∧ Untouched s t ∧
       (e.cls = .showClass ∨ e.cls = .houseClass →
         t.clu.entries = merged.filter (fun g => g.id ≠ e.id) ∧
         t.clu.announcer = .stopping (some (s.now + 50)) (s.now + 500) ∧ t.lines.stop = true ∧ t.lines.relays = 0 ∧
         Replies s kind done [.callRemoved e.id e.source e.cls e.plays .preempted] t) ∧
       (e.cls = .alert → T.cls = .evac →
         t.clu.entries = (merged.map fun g => if g.id = e.id then { g with state := .queued } else g) ∧
         t.clu.announcer = .stopping (some (s.now + 50)) (s.now + 500) ∧ t.lines.stop = true ∧ t.lines.relays = 0 ∧
         Replies s kind done [.callRequeued e.id] t) ∧
       (e.cls = .evac ∨ (e.cls = .alert ∧ T.cls = .alert) →
         t.clu.entries = merged ∧ t.clu.announcer = s.clu.announcer ∧ Replies s kind done [] t)) ∧
  (∀ (now : Nat) (phase : Phase) (T : Template) (c : Clu), QueueOk c → templateOk T = true →
     T.cls = .evac ∨ T.cls = .alert → (∀ g ∈ c.entries, ¬ (g.slot = T.slot ∧ g.zones = T.zones ∧ g.cls = T.cls)) →
     3 ≤ c.reservedInUse .safety → 8 ≤ c.poolInUse →
     ((∀ e ∈ c.entries, e.pool = true → e.state.effective = none → e.cls ≠ .showClass ∧ e.cls ≠ .houseClass) →
       c.decideCall now phase .safety T = (CluOut.of c, .refused .queueFull)) ∧
     (∀ e ∈ c.entries, EntriesOk c → e.pool = true → e.state.effective = none →
       (e.cls = .houseClass ∧ (∀ f ∈ c.entries, f.pool = true → f.state.effective = none → f.cls = .houseClass →
         f.arrival ≤ e.arrival)) ∨
       (e.cls = .showClass ∧ (∀ f ∈ c.entries, f.pool = true → f.state.effective = none → f.cls ≠ .houseClass) ∧
         (∀ f ∈ c.entries, f.pool = true → f.state.effective = none → f.cls = .showClass → f.arrival ≤ e.arrival)) →
       ∃ o id f, c.decideCall now phase .safety T = (o, .admitted id false T.zones) ∧ f ∈ o.clu.entries ∧ f.id = id ∧
         f.source = .safety ∧ f.cls = T.cls ∧ f.pool = true ∧
         (c.nextArrival ≤ 4294967295 → f.arrival = c.nextArrival ∧ ∀ g ∈ o.clu.entries, g.arrival ≠ e.arrival) ∧
         (4294967295 < c.nextArrival → f.arrival = c.entries.length ∧ o.clu.nextArrival = c.entries.length + 1 ∧
           ∀ g ∈ o.clu.entries, g = f ∨ ∃ h ∈ c.entries, h.arrival ≠ e.arrival ∧ h.id = g.id ∧ g.arrival =
             (c.entries.filter fun x => x.arrival ≤ h.arrival ∧ x.arrival ≠ e.arrival).length) ∧ o.removed.head? = some e.id ∧
         o.notes.head? = some (.callRemoved e.id e.source e.cls e.plays .evicted))) ∧
  (∀ s : State, Admits s →
     (∀ b : CallBody,
       (checkedBody b = none ↔ 3 < b.cls ∨ (63 < b.slot ∧ b.slot ≠ 255) ∨ b.zones = 0 ∨ 7 < b.bell ∨
         (b.repeats = 0 ∧ (b.cls = 2 ∨ b.cls = 3)) ∨ (b.slot = 255 ∧ b.bell = 0)) ∧
       (checkedBody b = none → Refuses (.call b) .call .badField .none s)) ∧
     ∀ n, 15 < n → Refuses (.callTemplate n) .callTemplate .badField .none s) ∧
  ∀ (c : Instr) (kind : RequestKind) (T : Template) (s : State), Admits s → GatesCurrent s →
    (∃ n, n ≤ 15 ∧ c = .callTemplate n ∧ kind = .callTemplate ∧ T = s.settings.template n) ∨
      (∃ b, c = .call b ∧ kind = .call ∧ checkedBody b = some T) →
    let z := if s.phase = .running ∧ (T.cls = .showClass ∨ T.cls = .houseClass) then withoutAudience T.zones else T.zones
    (T.zones = 0 ∨ 7 < T.bell ∨ (T.repeats = 0 ∧ (T.cls = .showClass ∨ T.cls = .houseClass)) ∨ (T.slot = none ∧ T.bell = 0) →
      Refuses c kind .badField .none s) ∧
    (templateOk T = true →
      (s.phase = .evacuate → T.cls = .showClass ∨ T.cls = .houseClass → Refuses c kind .wrongPhase .none s) ∧
      (s.phase ≠ .evacuate ∨ T.cls = .evac ∨ T.cls = .alert →
        (z = 0 → Refuses c kind .zonesBarred .none s) ∧
        (z ≠ 0 → (∀ e ∈ s.clu.entries, ¬ (e.slot = T.slot ∧ e.zones = z ∧ e.cls = T.cls)) →
          5 ≤ s.clu.reservedInUse .link → 8 ≤ s.clu.poolInUse ∨ (T.cls = .houseClass ∧ 6 ≤ s.clu.poolInUse) →
          Refuses c kind .queueFull .none s)))

/-- CALL-CANCEL removes the entry of its id with the cause CANCELLED, and stops its play with a STOP strobe of 50 ms where
it was PLAYING; an id of 0 gives BAD-FIELD and one that no entry holds UNKNOWN-ID. ANNOUNCER-RESET clears FAILED and the
NO-START count, and keeps a play that has not come to its speaking stage bell-only, unless the announcer is not FAILED or
channel 7 is LOW (R162, R163, R164, R169, R170). That all the notices of one command have joined before the line takes any
is the model's choice (log 70). -/
def Obligations.CallCancelAndAnnouncerReset : Prop :=
  ∀ s : State, Admits s → GatesCurrent s →
    Refuses (.callCancel 0) .callCancel .badField .none s ∧
    (∀ id, id ≠ 0 → (∀ e ∈ s.clu.entries, e.id ≠ id) → Refuses (.callCancel id) .callCancel .unknownId .none s) ∧
    (∀ e, QueueOk s.clu → e.id ≠ 0 → s.clu.find e.id = some e →
      ∃ t, exec (.callCancel e.id) s = .next t ∧ Only [.fire, .calls, .gates, .link, .lines, .draws] s t ∧ Untouched s t ∧
        t.clu.entries = s.clu.entries.filter (fun f => f.id ≠ e.id) ∧
        t.clu.announcer = (if e.state.effective.isSome then .stopping (some (s.now + 50)) (s.now + 500)
          else s.clu.announcer) ∧
        (e.state.effective.isSome = true → t.lines.stop = true ∧ t.lines.play = false ∧ t.lines.relays = 0 ∧
          t.ilu.stalls.line = false ∧ t.ilu.circle.line = false ∧ t.ilu.gallery.line = false) ∧
        (s.fdu.fire.staffCall = some e.id → t.fdu.fire.staffCall = none) ∧
        (s.fdu.fire.evacCall = some e.id → t.fdu.fire.evacCall = none) ∧
        Replies s .callCancel (.done .empty) [.callRemoved e.id e.source e.cls e.plays .cancelled] t) ∧
    (s.clu.failed = false → Refuses .announcerReset .announcerReset .wrongState .none s) ∧
    (s.clu.failed = true → s.lmu.limitState 7 = .low → Refuses .announcerReset .announcerReset .conditionPresent .none s) ∧
    (s.clu.failed = true → s.lmu.limitState 7 ≠ .low → ∃ t, exec .announcerReset s = .next t ∧
      Only [.calls, .link, .lines, .draws] s t ∧
      t.clu = { s.clu with failed := false, noStarts := 0, bellOnly := t.clu.bellOnly } ∧
      (∀ x, s.clu.announcer = .settling x → t.clu.bellOnly = true) ∧
      (∀ g r x, s.clu.announcer = .bell g r x → t.clu.bellOnly = true) ∧
      Replies s .announcerReset (.done .empty) [.announcerRestored .announcerReset] t)

/-- Selection takes the first QUEUED entry in the order of class and arrival, and only from IDLE: the entry is PLAYING in
its zones, without the audience zones for SHOW and HOUSE in RUNNING, and the announcer is SETTLING for 200 ms; the play
selected is not bell-only (R158, R159, R164). An entry that this leaves without a zone is removed with the cause BARRED, and
selection goes on (R158, R170). The stages of a play: the settling time ends in BELL, or for a call without a bell in
SPEAKING with a PLAY strobe of 50 ms and a start window of 500 ms; each on time of the bell is followed by its off time, and
the last off time by SPEAKING; a call without a message ends there, and so does, with a degraded end, one made while FAILED
or kept bell-only; BUSY already high at the PLAY strobe counts as the start; the PLAY strobe ends; and BUSY rising in the
start window starts the speaking limit of 90 s, and is only recorded elsewhere (R152, R159, R160, R163, R164). That the
notice of the end carries the plays before the raise is the model's choice (log 20). That all the notices of one command
have joined before the line takes any is the model's choice (log 70). That an event may be taken later than its moment is
the model's choice (log 17). -/
def Obligations.PlaysAreMade : Prop :=
  (∀ (now : Nat) (phase : Phase) (c : Clu), QueueOk c →
     (c.announcer ≠ .idle → c.select now phase = CluOut.of c) ∧
     (∀ e ∈ c.entries, c.announcer = .idle → e.state = .queued → (c.entries.map (·.arrival)).Nodup →
       (∀ f ∈ c.entries, f.state = .queued → f ≠ e →
         classRank e.cls < classRank f.cls ∨ (f.cls = e.cls ∧ e.arrival < f.arrival)) →
       playZones phase e.cls e.zones ≠ 0 ∨ phase ≠ .running ∨ e.cls = .evac ∨ e.cls = .alert →
       c.select now phase = CluOut.of { c with
         announcer := .settling (now + 200), bellOnly := false,
         entries := c.entries.map fun f =>
           if f.id = e.id then { f with state := .playing (playZones phase e.cls e.zones) } else f })) ∧
  (∀ (now : Nat) (c : Clu), QueueOk c → c.announcer = .idle →
     ∀ e ∈ c.entries, e.state = .queued → (c.entries.map (·.arrival)).Nodup →
       (∀ f ∈ c.entries, f.state = .queued → f ≠ e →
         classRank e.cls < classRank f.cls ∨ (f.cls = e.cls ∧ e.arrival < f.arrival)) →
       e.cls = .showClass ∨ e.cls = .houseClass → e.zones &&& ~~~0b00011100#8 = 0 →
       ∀ rest : Clu, rest = { c with entries := c.entries.filter fun f => f.id ≠ e.id } →
         c.select now .running = {
           clu := (rest.select now .running).clu,
           notes := .callRemoved e.id e.source e.cls e.plays .barred :: (rest.select now .running).notes,
           removed := e.id :: (rest.select now .running).removed }) ∧
  (∀ s : State, s.held = none → GatesCurrent s → s.clu.busy = false →
     s.clu.announcer ≠ .idle ∨ (∀ f ∈ s.clu.entries, f.state ≠ .queued) →
     (∀ strobe y, s.clu.announcer ≠ .speaking strobe false y) →
     ∃ t, exec .busyRise s = .next t ∧ Only [.calls, .link, .lines, .draws] s t ∧ t.clu = { s.clu with busy := true } ∧
       Sends s [] t) ∧
  ∀ (e : CallEntry) (s : State), s.held = none → GatesCurrent s → s.clu.playing = some e →
    (∀ c x, (c = .settlingEnd ∧ s.clu.announcer = .settling x ∧ e.bell = 0) ∨
        (c = .bellSegmentEnd ∧ ∃ g, s.clu.announcer = .bell [g] false x) → x ≤ s.now →
      (e.slot ≠ none → s.clu.failed = false → s.clu.bellOnly = false → s.clu.busy = true →
        ∃ t, exec c s = .next t ∧ Only [.calls, .link, .lines, .draws] s t ∧ t.lines.play = true ∧ t.clu = { s.clu with
          announcer := .speaking (some (s.now + 50)) true (s.now + 90000), noStarts := 0 }) ∧
      (e.slot = none ∨ s.clu.failed = true ∨ s.clu.bellOnly = true →
        ∃ t bs, exec c s = .next t ∧ Only [.fire, .calls, .gates, .link, .lines, .draws] s t ∧ Untouched s t ∧
          Sends s (.callPlayed e.id e.plays (decide (e.slot ≠ none)) :: bs) t ∧ t.lines.play = false ∧
          t.clu.failed = s.clu.failed ∧ t.clu.noStarts = s.clu.noStarts ∧
          (1 ≤ e.repeats → e.repeats ≤ min 255 (e.plays + 1) → ∀ f ∈ t.clu.entries, f.id ≠ e.id) ∧
          (e.repeats = 0 ∨ min 255 (e.plays + 1) < e.repeats → 0 < e.gap →
            { e with plays := min 255 (e.plays + 1), state := .waiting (s.now + e.gap * 1000) } ∈ t.clu.entries))) ∧
    (∀ x, s.clu.announcer = .settling x → x ≤ s.now →
      (∀ on off rest, e.bell ≠ 0 → s.settings.bell e.bell = (on, off) :: rest →
        ∃ t, exec .settlingEnd s = .next t ∧ Only [.calls, .link, .lines, .draws] s t ∧
          t.clu = { s.clu with announcer := .bell ((on, off) :: rest) true (s.now + on * 50) }) ∧
      (e.bell = 0 → e.slot ≠ none → s.clu.failed = false → s.clu.bellOnly = false → s.clu.busy = false →
        ∃ t, exec .settlingEnd s = .next t ∧ Only [.calls, .link, .lines, .draws] s t ∧
          t.clu = { s.clu with announcer := .speaking (some (s.now + 50)) false (s.now + 500) } ∧ t.lines.play = true)) ∧
    (∀ on off rest x, s.clu.announcer = .bell ((on, off) :: rest) true x → x ≤ s.now →
      ∃ t, exec .bellSegmentEnd s = .next t ∧ Only [.calls, .link, .lines, .draws] s t ∧
        t.clu = { s.clu with announcer := .bell ((on, off) :: rest) false (s.now + off * 50) } ∧
        t.lines.bells = List.replicate 4 false) ∧
    (∀ g on off rest x, s.clu.announcer = .bell (g :: (on, off) :: rest) false x → x ≤ s.now →
      ∃ t, exec .bellSegmentEnd s = .next t ∧ Only [.calls, .link, .lines, .draws] s t ∧
        t.clu = { s.clu with announcer := .bell ((on, off) :: rest) true (s.now + on * 50) }) ∧
    (∀ g x, s.clu.announcer = .bell [g] false x → x ≤ s.now → e.slot ≠ none → s.clu.failed = false →
      s.clu.bellOnly = false → s.clu.busy = false → ∃ t, exec .bellSegmentEnd s = .next t ∧ Only [.calls, .link, .lines, .draws] s t ∧
        t.clu = { s.clu with announcer := .speaking (some (s.now + 50)) false (s.now + 500) }) ∧
    (∀ started x y, s.clu.announcer = .speaking (some x) started y → x ≤ s.now →
      ∃ t, exec .playStrobeEnd s = .next t ∧ Only [.calls, .link, .lines, .draws] s t ∧
        t.clu = { s.clu with announcer := .speaking none started y } ∧ t.lines.play = false) ∧
    (∀ strobe y, s.clu.announcer = .speaking strobe false y → s.clu.busy = false →
      ∃ t, exec .busyRise s = .next t ∧ Only [.calls, .link, .lines, .draws] s t ∧
        t.clu = { s.clu with announcer := .speaking strobe true (s.now + 90000), noStarts := 0, busy := true })

/-- BUSY falling after the start ends the play: the PLAYED notice, one more play counted, and the entry removed where its
repeats are met, WAITING for its gap, or QUEUED again (R160, R165); and a WAITING entry whose ready time is reached is QUEUED
(R165): one of class EVAC or ALERT preempts a play of lower rank as a call of its class does (R166), and one that finds the
announcer IDLE is selected at once, or removed as BARRED where it is left without a zone (R158). The announcer's troubles: a
first NO-START returns the entry to the queue with its plays as they were, and selection follows, a second in succession sets
FAILED; a speaking limit that runs out sets FAILED and stops the play, which counts as done with a degraded end; the end of a
STOP strobe ends STOPPING where BUSY is low or the announcer FAILED, and selection follows; otherwise BUSY falling after the
strobe ends STOPPING, and selection follows, while BUSY falling elsewhere is only recorded; and BUSY still high 500 ms after
the strobe's start sets FAILED and ends STOPPING, and selection follows (R158, R161, R162, R163). An entry selected is played,
or removed as BARRED where it is left without a zone (R158). That the PLAYED notice carries the plays before the raise, that
the FAILED notice goes out only when FAILED becomes set, and before the PLAYED notice, and that the notice marked NO-START
carries the id, are the model's choices (logs 20, 21, 19 and 59). That all the notices of one command have joined before the
line takes any is the model's choice (log 70). That an event may be taken later than its moment is the model's choice (log
17). -/
def Obligations.PlaysEnd : Prop :=
  (∀ (e : CallEntry) (s : State), s.held = none → GatesCurrent s → QueueOk s.clu →
     (∀ strobe y, s.clu.announcer = .speaking strobe true y → s.clu.playing = some e → s.clu.busy = true →
       ∃ t bs, exec .busyFall s = .next t ∧ Only [.fire, .calls, .gates, .link, .lines, .draws] s t ∧ Untouched s t ∧
         Sends s (.callPlayed e.id e.plays false :: bs) t ∧ t.clu.busy = false ∧ t.clu.failed = s.clu.failed ∧
         (1 ≤ e.repeats → e.repeats ≤ min 255 (e.plays + 1) → ∀ f ∈ t.clu.entries, f.id ≠ e.id) ∧
         (e.repeats = 0 ∨ min 255 (e.plays + 1) < e.repeats → 0 < e.gap →
           { e with plays := min 255 (e.plays + 1), state := .waiting (s.now + e.gap * 1000) } ∈ t.clu.entries) ∧
         (e.repeats = 0 ∨ min 255 (e.plays + 1) < e.repeats → e.gap = 0 →
           s.phase ≠ .running ∨ e.cls = .evac ∨ e.cls = .alert → (∃ x, t.clu.announcer = .settling x) ∧
           ∃ f ∈ t.clu.entries, f = { e with plays := min 255 (e.plays + 1), state := f.state } ∧
             (f.state = .queued ∨ f.state = .playing (playZones s.phase e.cls e.zones)))) ∧
     (∀ x, e ∈ s.clu.entries → e.state = .waiting x → x ≤ s.now → s.clu.announcer ≠ .idle →
       e.cls = .showClass ∨ e.cls = .houseClass →
       ∃ t, exec (.readyTime e.id) s = .next t ∧ Only [.calls, .link, .lines, .draws] s t ∧
         t.clu = { s.clu with entries := s.clu.entries.map fun f => if f.id = e.id then { f with state := .queued } else f } ∧
         Sends s [] t)) ∧
  (∀ (e : CallEntry) (x : Nat) (s : State), s.held = none → GatesCurrent s → QueueOk s.clu → e ∈ s.clu.entries →
     e.state = .waiting x → x ≤ s.now →
     let back := s.clu.entries.map fun f => if f.id = e.id then { f with state := .queued } else f
     ∃ t, exec (.readyTime e.id) s = .next t ∧ Only [.fire, .calls, .gates, .link, .lines, .draws] s t ∧ Untouched s t ∧
       (e.cls = .evac ∨ e.cls = .alert →
         (∀ y z, s.clu.announcer = .stopping y z → t.clu = { s.clu with entries := back } ∧ Sends s [] t) ∧
         (∀ p, s.clu.playing = some p →
           (p.cls = .showClass ∨ p.cls = .houseClass →
             t.clu = { s.clu with entries := back.filter (fun f => f.id ≠ p.id),
                                  announcer := .stopping (some (s.now + 50)) (s.now + 500) } ∧
             t.lines.stop = true ∧ t.lines.relays = 0 ∧
             Sends s [.callRemoved p.id p.source p.cls p.plays .preempted] t) ∧
           (p.cls = .alert → e.cls = .evac →
             t.clu = { s.clu with entries := back.map (fun f => if f.id = p.id then { f with state := .queued } else f),
                                  announcer := .stopping (some (s.now + 50)) (s.now + 500) } ∧
             t.lines.stop = true ∧ t.lines.relays = 0 ∧ Sends s [.callRequeued p.id] t) ∧
           (p.cls = .evac ∨ (p.cls = .alert ∧ e.cls = .alert) → t.clu = { s.clu with entries := back } ∧ Sends s [] t))) ∧
       (s.clu.announcer = .idle → (∀ f ∈ s.clu.entries, f.state ≠ .queued) →
         (s.phase ≠ .running ∨ e.cls = .evac ∨ e.cls = .alert ∨ e.zones &&& ~~~0b00011100#8 ≠ 0 →
           t.clu = { s.clu with announcer := .settling (s.now + 200), bellOnly := false, entries := s.clu.entries.map fun f =>
             if f.id = e.id then { f with state := .playing (playZones s.phase e.cls e.zones) } else f } ∧ Sends s [] t) ∧
         (s.phase = .running → e.cls = .showClass ∨ e.cls = .houseClass → e.zones &&& ~~~0b00011100#8 = 0 →
           t.clu = { s.clu with entries := s.clu.entries.filter fun f => f.id ≠ e.id } ∧
           Sends s [.callRemoved e.id e.source e.cls e.plays .barred] t))) ∧
  (∀ s : State, s.held = none → GatesCurrent s → QueueOk s.clu → s.clu.busy = true →
     ((∀ strobe y, s.clu.announcer ≠ .speaking strobe true y) → (∀ y, s.clu.announcer ≠ .stopping none y) →
       s.clu.announcer ≠ .idle ∨ (∀ f ∈ s.clu.entries, f.state ≠ .queued) →
       ∃ t, exec .busyFall s = .next t ∧ Only [.calls, .link, .lines, .draws] s t ∧ t.clu = { s.clu with busy := false } ∧
         Sends s [] t) ∧
     (∀ y, s.clu.announcer = .stopping none y →
       ∃ t bs, exec .busyFall s = .next t ∧ Only [.fire, .calls, .gates, .link, .lines, .draws] s t ∧ Untouched s t ∧
         Sends s bs t ∧ SelectsFrom { s.clu with announcer := .idle, busy := false } s bs t)) ∧
  ∀ (e : CallEntry) (s : State), s.held = none → GatesCurrent s → QueueOk s.clu →
    (∀ strobe x, s.clu.announcer = .speaking strobe false x → x ≤ s.now → s.clu.playing = some e →
      (s.clu.noStarts = 0 → ∃ t bs, exec .noStart s = .next t ∧
        Only [.fire, .calls, .gates, .link, .lines, .draws] s t ∧ Untouched s t ∧ Sends s (.callNoStart e.id :: bs) t ∧
        t.clu.noStarts = 1 ∧ t.clu.failed = s.clu.failed ∧
        (s.phase ≠ .running ∨ e.cls = .evac ∨ e.cls = .alert → t.clu.announcer = .settling (s.now + 200) ∧
          ∃ f ∈ t.clu.entries, f = { e with state := f.state } ∧
            (f.state = .queued ∨ f.state = .playing (playZones s.phase e.cls e.zones)))) ∧
      (s.clu.noStarts = 1 → s.clu.failed = false → ∃ t bs, exec .noStart s = .next t ∧
        Only [.fire, .calls, .gates, .link, .lines, .draws] s t ∧ Untouched s t ∧
        Sends s (.announcerFailed .secondNoStart :: .callPlayed e.id e.plays true :: bs) t ∧
        t.clu.noStarts = 2 ∧ t.clu.failed = true)) ∧
    (∀ strobe x, s.clu.announcer = .speaking strobe true x → x ≤ s.now → s.clu.playing = some e → s.clu.failed = false →
      ∃ t bs, exec .speakingLimitExpiry s = .next t ∧ Only [.fire, .calls, .gates, .link, .lines, .draws] s t ∧
        Untouched s t ∧ Sends s bs t ∧ FailureStops .speakingLimit e s bs t) ∧
    (∀ x y, s.clu.announcer = .stopping (some x) y → x ≤ s.now →
      (s.clu.busy = true → s.clu.failed = false → ∃ t, exec .stopStrobeEnd s = .next t ∧
        Only [.calls, .link, .lines, .draws] s t ∧ t.clu = { s.clu with announcer := .stopping none y } ∧
        t.lines.stop = false) ∧
      (s.clu.busy = false ∨ s.clu.failed = true →
        ∃ t bs, exec .stopStrobeEnd s = .next t ∧ Only [.fire, .calls, .gates, .link, .lines, .draws] s t ∧ Untouched s t ∧
          Sends s bs t ∧ t.lines.stop = false ∧ SelectsFrom { s.clu with announcer := .idle } s bs t ∧
          ((∀ f ∈ s.clu.entries, f.state ≠ .queued) → Only [.calls, .link, .lines, .draws] s t))) ∧
    (∀ y, s.clu.announcer = .stopping none y → y ≤ s.now → s.clu.failed = false →
      ∃ t bs, exec .stopTimeout s = .next t ∧ Only [.fire, .calls, .gates, .link, .lines, .draws] s t ∧ Untouched s t ∧
        Sends s (.announcerFailed .stopTimeout :: bs) t ∧
        SelectsFrom { s.clu with announcer := .idle, failed := true } s bs t)

/-! ## Chapter 9: the line monitor -/

/-- A conversion joins the last four of its channel; from the fourth on their truncated mean is the filtered value, which is
judged by the channel's limits: a value on the side of the state clears the candidate, and three in succession on one other
side change the state (R179, R180). The next conversion, of the channels in turn: where no limit state changes nothing else
moves; a change is notified and delivered: channel 1 LOW latches RETARDER, channels 2 to 5 out of range latch the fault of
their sounder circuit, channel 6 LOW latches EMERGENCY-SUPPLY, channel 7 LOW sets the announcer FAILED, and channel 0 HIGH
with the curtain RAISING and no other forcing holds it with HOIST-OVERLOAD (R53, R106, R145, R163, R174, R179, R181). Channel
7 LOW in SPEAKING stops the play, which counts as done with a degraded end; in STOPPING after the STOP strobe it ends
STOPPING, and selection follows; and elsewhere it sets FAILED alone, and the play goes on (R158, R162, R163, R165). That a
conversion may be taken later than its moment, that the SAMPLE notice comes before its owner's reaction, that the FAILED
notice goes out only when FAILED becomes set, and before the PLAYED notice, and that the PLAYED notice carries the plays
before the raise, are the model's choices (logs 17, 19, 20 and 21). That all the notices of one command have joined before the
line takes any is the model's choice (log 70). -/
def Obligations.Conversions : Prop :=
  (∀ (now code : Nat) (l : Limits) (c : LineChannel),
     let side (v : Nat) : LimitState := if v < l.low then .low else if l.high < v then .high else .normal
     (∀ xs : List Nat, c.held = xs → xs.length < 3 → c.convert now l code = { c with held := xs ++ [code] }) ∧
     (∀ w x y z, (c.held = [w, x, y] ∧ z = code) ∨ (∃ v, c.held = [v, w, x, y] ∧ z = code) →
       let v := (w + x + y + z) / 4
       (side v = c.state → c.convert now l code =
         { c with held := [w, x, y, z], filtered := some v, candidate := none, run := 0 }) ∧
       (side v ≠ c.state → c.candidate ≠ some (side v) → c.convert now l code =
         { c with held := [w, x, y, z], filtered := some v, candidate := some (side v), run := 1 }) ∧
       (side v ≠ c.state → c.candidate = some (side v) → c.run ≠ 2 → c.convert now l code =
         { c with held := [w, x, y, z], filtered := some v, run := c.run + 1 }) ∧
       (side v ≠ c.state → c.candidate = some (side v) → c.run = 2 → c.convert now l code =
         { held := [w, x, y, z], filtered := some v, state := side v, candidate := none, run := 0, lastChange := now }))) ∧
  ∀ (code : Nat) (s : State), s.held = none → GatesCurrent s → CurtainOk s.ctc → code < 1024 →
    (s.lmu.conversions + 1) * 5 ≤ s.now → s.lmu.channels.length = 8 →
    let n := s.lmu.conversions % 8
    let c := (s.lmu.channel n).convert s.now (s.settings.limit n) code
    ∃ t bs, exec (.lineConversion code) s = .next t ∧
      t.lmu = { channels := s.lmu.channels.set n c, conversions := s.lmu.conversions + 1 } ∧ Sends s bs t ∧
      (c.state = s.lmu.limitState n → bs = [] ∧ Only [.monitor, .link, .lines, .draws] s t) ∧
      (c.state ≠ s.lmu.limitState n →
        bs.head? = some (.sample n (s.lmu.limitState n) c.state (c.filtered.getD 0)) ∧
        (n = 0 → c.state = .high → s.ctc.state = .raising → s.fireFull = false → s.phase ≠ .evacuate → s.phase ≠ .stopped →
          t.ctc = { s.ctc with
            state := .held, raiseDeadline := none, faults := addFault .hoistOverload s.ctc.faults } ∧
          t.ilu.hoist.line = false ∧ t.lines.brake = true) ∧
        (n = 0 → s.ctc.state ≠ .raising → Only [.monitor, .gates, .link, .lines, .draws] s t ∧
          (c.state = .high → t.ilu.hoist.line = false)) ∧
        (n = 1 → c.state = .low → t.ctc.faults.contains .retarder = true ∧ (s.phase = .running → t.phase = .stopped)) ∧
        (∀ k, n = k + 1 → 1 ≤ k → k ≤ 4 → Only [.monitor, .fire, .link, .lines, .draws] s t ∧
          t.fdu = { s.fdu with
            sounderFaults := if c.state = .normal then s.fdu.sounderFaults else s.fdu.sounderFaults.set (k - 1) true }) ∧
        (n = 6 → Only [.monitor, .lights, .link, .lines, .draws] s t ∧
          t.hlu = { s.hlu with supplyFault := s.hlu.supplyFault || decide (c.state = .low) }) ∧
        (n = 7 → c.state = .low → t.clu.failed = true ∧
          let sample : NoticeBody := .sample n (s.lmu.limitState n) c.state (c.filtered.getD 0)
          ((∃ g r y, s.clu.announcer = .bell g r y) ∨ (∃ x, s.clu.announcer = .settling x) ∨
              (∃ x y, s.clu.announcer = .stopping (some x) y) ∨
              (s.clu.announcer = .idle ∧ ∀ f ∈ s.clu.entries, f.state ≠ .queued) →
            Only [.monitor, .calls, .link, .lines, .draws] s t ∧ t.clu = { s.clu with failed := true } ∧
            bs = sample :: if s.clu.failed then [] else [.announcerFailed .channel7Low]) ∧
          (QueueOk s.clu → s.clu.failed = false →
            (∀ e strobe started y, s.clu.announcer = .speaking strobe started y → s.clu.playing = some e →
              Only [.monitor, .fire, .calls, .gates, .link, .lines, .draws] s t ∧
              ∃ cs, bs = sample :: cs ∧ FailureStops .channel7Low e s cs t) ∧
            (∀ y, s.clu.announcer = .stopping none y →
              Only [.monitor, .fire, .calls, .gates, .link, .lines, .draws] s t ∧
              ∃ cs, bs = sample :: .announcerFailed .channel7Low :: cs ∧
                SelectsFrom { s.clu with announcer := .idle, failed := true } s cs t))) ∧
        (n = 7 → c.state ≠ .low → Only [.monitor, .link, .lines, .draws] s t))

/-! ## Chapter 10: the prompt desk -/

/-- The end of a column's dwell: exactly the keys of that column are read anew into the down set, and the next column of the
order is driven. At the last column of a scan the next scan takes the order and the dwell then in force, starts at the head
of its order, and takes the keys of the columns that it does not name out of the down set, which is a further change of the
set (R183). Each change of the set moves the key state by TABLE LXII (R184, R185). That all the notices of one command have
joined before the line takes any is the model's choice (log 70). That an event may be taken later than its moment is the
model's choice (log 17). -/
def Obligations.ColumnRead : Prop :=
  (∀ (rows : Rows) (s : State), s.held = none → s.dsu.columnDue ≤ s.now → s.dsu.scanAt + 1 < s.dsu.order.length →
     ∃ t bs, exec (.columnRead rows) s = .next t ∧ Only [.desk, .link, .lines, .draws] s t ∧ Sends s bs t ∧
       (∀ k, k ∈ t.dsu.down ↔ if k / 6 = s.dsu.column then rows.getLsbD (k % 6) = true else k ∈ s.dsu.down) ∧
       t.dsu.scanAt = s.dsu.scanAt + 1 ∧ t.dsu.order = s.dsu.order ∧ t.dsu.dwell = s.dsu.dwell ∧
       t.dsu.columnDue = s.dsu.columnDue + s.dsu.dwell ∧ t.lines.column = some (s.dsu.order.getD (s.dsu.scanAt + 1) 0) ∧
       t.dsu.refusedUntil = s.dsu.refusedUntil ∧ KeyFollows (s.now + s.settings.desk.debounce * 4) s.dsu t.dsu bs) ∧
  ∀ (rows : Rows) (s : State), s.held = none → s.dsu.columnDue ≤ s.now → s.dsu.order.length ≤ s.dsu.scanAt + 1 →
    let timer := s.now + s.settings.desk.debounce * 4
    let read := s.dsu.changeDown s.now s.settings (downAfter s.dsu.column rows s.dsu.down)
    ∃ t bs, exec (.columnRead rows) s = .next t ∧ Only [.desk, .link, .lines, .draws] s t ∧
      Sends s (read.notes ++ bs) t ∧
      (∀ k, k ∈ read.dsu.down ↔ if k / 6 = s.dsu.column then rows.getLsbD (k % 6) = true else k ∈ s.dsu.down) ∧
      KeyFollows timer s.dsu read.dsu read.notes ∧
      t.dsu.down = read.dsu.down.filter (fun k => s.settings.desk.order.contains (k / 6)) ∧
      KeyFollows timer read.dsu t.dsu bs ∧
      t.dsu.scanAt = 0 ∧ t.dsu.order = s.settings.desk.order ∧ t.dsu.dwell = s.settings.desk.dwell ∧
      t.dsu.columnDue = s.dsu.columnDue + s.settings.desk.dwell ∧
      t.lines.column = some (s.settings.desk.order.getD 0 0) ∧ t.dsu.refusedUntil = s.dsu.refusedUntil

/-- The debounce time ends: one key down is HELD, two or more roll over with a ROLLOVER notice, and a released key leaves
the desk IDLE. A long key starts its timer of 1000 ms and fires when it has run; an ordinary one fires at once; each firing
is decided by the binding as it then stands (R184, R185). A firing: in REPORT its KEY notice goes out and nothing else is
done; in BOTH the KEY notice goes first, and in ACT and BOTH the binding's request is decided by its owner as source DESK.
NONE issues nothing. Every request of a binding is shown accepted (OPEN-HOUSE, BEGIN, INTERVAL, END, RESUME, SHOW-STOP,
EVACUATE, FIRE-FULL, a template call, CURTAIN-LOWER, CURTAIN-RAISE, CURTAIN-HALT, LIGHTS-GO with the desk fade time,
HOUSE-FULL, FIRE-ACK and FIRE-SILENCE) and refused; each refusal lights the REFUSED indication for 1000 ms and sends a KEY
notice marked REFUSED, after the firing's own (R3, R7, R8, R9, R10, R11, R13, R15, R41, R51, R52, R54, R55, R57, R61, R86,
R95, R96, R104, R137, R140, R142, R151, R153, R156, R174, R187, R188). The indication and the half-periods of the flash
clock run out (R188, R189). That the notice marked REFUSED gives the request by its kind alone is the model's choice (log
48), and so are the order of the notices of one moment, the STEP notices of skipped steps before the PHASE notice (log 19)
and at one END that of the ended instance before that of the steps never reached (log 61), and the one STEP notice for all
the steps that EVACUATE skips (log 37). That all the notices of one command have joined before the line takes any is the
model's choice (log 70). That an event may be taken later than its moment is the model's choice (log 17). -/
def Obligations.DeskTimers : Prop :=
  (∀ (x : Nat) (s : State), s.held = none → x ≤ s.now →
     (∀ k, s.dsu.key = .pressDebounce x → s.dsu.down = [k] → (s.settings.key k).long = true →
       ∃ t, exec .debounceExpiry s = .next t ∧ Only [.desk, .link, .lines, .draws] s t ∧
         t.dsu = { s.dsu with key := .held k (some (s.now + 1000)) } ∧ Sends s [] t) ∧
     (∀ k, s.dsu.key = .pressDebounce x → s.dsu.down = [k] → (s.settings.key k).long = false →
       s.settings.desk.mode = .report →
       ∃ t, exec .debounceExpiry s = .next t ∧ Only [.desk, .link, .lines, .draws] s t ∧
         t.dsu = { s.dsu with key := .held k none } ∧ Sends s [.key k (s.settings.key k) .report] t) ∧
     (∀ j k ks, s.dsu.key = .pressDebounce x → s.dsu.down = j :: k :: ks →
       ∃ t, exec .debounceExpiry s = .next t ∧ Only [.desk, .link, .lines, .draws] s t ∧
         t.dsu = { s.dsu with key := .rollover } ∧ Sends s [.rollover s.dsu.down .pressDebounce] t) ∧
     (s.dsu.key = .releaseDebounce (some x) → ∃ t, exec .debounceExpiry s = .next t ∧
       Only [.desk, .link, .lines, .draws] s t ∧ t.dsu = { s.dsu with key := .idle } ∧ Sends s [] t)) ∧
  (∀ (c : Instr) (k x : Nat) (b : KeyBinding) (s : State), s.held = none → GatesCurrent s → x ≤ s.now →
     s.settings.key k = b →
     (c = .longTimerExpiry ∧ s.dsu.key = .held k (some x)) ∨
       (c = .debounceExpiry ∧ s.dsu.key = .pressDebounce x ∧ s.dsu.down = [k] ∧ b.long = false) →
     let u : Dsu := { s.dsu with key := .held k none }
     let first : List NoticeBody := if s.settings.desk.mode = .both then [.key k b .both] else []
     (s.settings.desk.mode = .report → ∃ t, exec c s = .next t ∧ Only [.desk, .link, .lines, .draws] s t ∧ t.dsu = u ∧
       Sends s [.key k b .report] t) ∧
     (s.settings.desk.mode ≠ .report →
       (b.action = .none → ∃ t, exec c s = .next t ∧ Only [.desk, .link, .lines, .draws] s t ∧ t.dsu = u ∧
         Sends s first t) ∧
       (∀ kind r,
         (b.action = .phase .openHouse ∧ s.phase ≠ .prepare ∧ kind = .openHouse ∧ r = .wrongPhase) ∨
         (b.action = .phase .begin ∧ s.phase ≠ .houseOpen ∧ s.phase ≠ .interval ∧ s.phase ≠ .resuming ∧ kind = .begin ∧
           r = .wrongPhase) ∨
         (b.action = .phase .begin ∧ (s.phase = .houseOpen ∨ s.phase = .interval ∨ s.phase = .resuming) ∧
           s.ctc.state ≠ .up ∧ kind = .begin ∧ r = .wrongState) ∨
         (b.action = .phase .interval ∧ (s.phase ≠ .running ∨ s.pfu.perf.acts ≤ s.pfu.perf.act) ∧ kind = .interval ∧
           r = .wrongPhase) ∨
         (b.action = .phase .endShow ∧ s.phase ≠ .stopped ∧ (s.phase ≠ .running ∨ s.pfu.perf.act ≠ s.pfu.perf.acts) ∧
           kind = .endShow ∧ r = .wrongPhase) ∨
         (b.action = .phase .resume ∧ s.phase ≠ .stopped ∧ kind = .resume ∧ r = .wrongPhase) ∨
         (b.action = .phase .resume ∧ s.phase = .stopped ∧ s.fireQuiet = false ∧ kind = .resume ∧ r = .alarmActive) ∨
         (b.action = .showStop ∧ (s.phase = .dark ∨ s.phase = .prepare ∨ s.phase = .stopped ∨ s.phase = .evacuate ∨
           s.phase = .closed) ∧ kind = .showStop ∧ r = .wrongPhase) ∨
         (b.action = .evacuate ∧ (s.phase = .dark ∨ s.phase = .evacuate ∨ s.phase = .closed) ∧ kind = .evacuate ∧
           r = .wrongPhase) ∨
         (b.action = .fireFull ∧ s.fireFull = true ∧ s.fdu.fire.silenced = false ∧ kind = .fireFull ∧ r = .wrongState) ∨
         (∃ n, b.action = .call n ∧ n ≤ 15 ∧ (s.settings.template n).zones = 0 ∧ kind = .callTemplate ∧ r = .badField) ∨
         (b.action = .curtainLower ∧ (s.phase = .running ∨ s.phase = .stopped ∨ s.phase = .evacuate) ∧
           kind = .curtainLower ∧ r = .wrongPhase) ∨
         (b.action = .curtainRaise ∧ (s.phase = .running ∨ s.phase = .stopped ∨ s.phase = .evacuate) ∧
           kind = .curtainRaise ∧ r = .wrongPhase) ∨
         (b.action = .curtainHalt ∧ s.ctc.state ≠ .raising ∧ s.ctc.state ≠ .descending ∧ kind = .curtainHalt ∧
           r = .wrongState) ∨
         (∃ p, b.action = .lightsGo p ∧ p ≤ 15 ∧ s.ilu.relay.line = false ∧ kind = .lightsGo ∧ r = .overridden) ∨
         (b.action = .houseFull ∧ s.ilu.relay.line = false ∧ kind = .houseFull ∧ r = .overridden) ∨
         (b.action = .fireAck ∧ s.fdu.fire.state ≠ .staffAlert .awaitingAck ∧ kind = .fireAck ∧ r = .wrongState) ∨
         (b.action = .fireSilence ∧ (s.fireFull = false ∨ s.fdu.fire.silenced = true) ∧ kind = .fireSilence ∧
           r = .wrongState) →
         ∃ t, exec c s = .next t ∧ Only [.desk, .link, .lines, .draws] s t ∧
           t.dsu = { u with refusedUntil := some (s.now + 1000) } ∧ Sends s (first ++ [.keyRefused k kind r]) t) ∧
       (b.action = .showStop → s.phase = .running → ∃ t, exec c s = .next t ∧ t.phase = .stopped ∧
         t.pfu.perf.stopCause = .desk ∧ t.pfu.perf.resume = some .resuming ∧ t.dsu = u ∧
         Untouched { s with dsu := t.dsu } t) ∧
       (b.action = .phase .openHouse → s.phase = .prepare → ∃ t cs, exec c s = .next t ∧
         Untouched { s with dsu := u } t ∧ t.phase = .houseOpen ∧ t.pfu.perf.entry = s.now ∧
         Sends s (first ++ .phase .houseOpen s.pfu.perf.act s.pfu.perf.intervalNo (.request .openHouse .desk)
           s.pfu.perf.stopCause s.pfu.perf.stops none :: cs) t) ∧
       (b.action = .phase .begin → s.ctc.state = .up → s.pfu.perf.proven = true → s.fireQuiet = true →
         s.lmu.limitState 6 = .normal →
         (s.phase = .houseOpen → ∃ t, exec c s = .next t ∧
           KeyMovedPhase s u .begin { (s.pfu.skipInstance .houseOpen).1 with perf := { s.pfu.perf with
             phase := .running, act := 1, entry := s.now,
             clocks := { s.pfu.perf.clocks with
               houseOpen := { s.pfu.perf.clocks.houseOpen with run := .ended }, act1 := { run := .running, value := 0 } } } }
             first (s.pfu.skipInstance .houseOpen).2 t) ∧
         (s.phase = .interval → ∃ t, exec c s = .next t ∧
           KeyMovedPhase s u .begin { (s.pfu.skipInstance (intervalClock s.pfu.perf.intervalNo)).1 with
             perf := { s.pfu.perf with
               phase := .running, act := s.pfu.perf.intervalNo + 1, entry := s.now,
               clocks := (s.pfu.perf.clocks.finish (intervalClock s.pfu.perf.intervalNo)).start
                 (actClock (s.pfu.perf.intervalNo + 1)) } }
             first (s.pfu.skipInstance (intervalClock s.pfu.perf.intervalNo)).2 t) ∧
         (s.phase = .resuming → ∃ t, exec c s = .next t ∧
           KeyMovedPhase s u .begin { s.pfu with perf := { s.pfu.perf with
             phase := .running, entry := s.now, clocks := s.pfu.perf.clocks.continue (actClock s.pfu.perf.act) } }
             first [] t)) ∧
       (b.action = .phase .interval → s.phase = .running → s.pfu.perf.act < s.pfu.perf.acts →
         ∀ copy, s.pfu.runningCopy = some copy → ∃ t, exec c s = .next t ∧
           KeyMovedPhase s u .interval { (s.pfu.skipInstance (actClock s.pfu.perf.act)).1 with
             expirySent := false,
             perf := { s.pfu.perf with
               phase := .interval, intervalNo := s.pfu.perf.act, intervalLen := headerInterval copy.header s.pfu.perf.act,
               entry := s.now,
               clocks := (s.pfu.perf.clocks.finish (actClock s.pfu.perf.act)).start (intervalClock s.pfu.perf.act) } }
             first (s.pfu.skipInstance (actClock s.pfu.perf.act)).2 t) ∧
       (b.action = .phase .endShow →
         ∀ i, (s.phase = .running ∧ s.pfu.perf.act = s.pfu.perf.acts ∧ i = actClock s.pfu.perf.act) ∨
             (s.phase = .stopped ∧ s.pfu.perf.suspendedClock = some i) →
           let f := { (s.pfu.skipInstance i).1 with perf := { s.pfu.perf with
             phase := .closed, stopCause := .none, resume := none, entry := s.now,
             clocks := (s.pfu.perf.clocks.finish i).start .closed } }
           ∃ t, exec c s = .next t ∧
             KeyMovedPhase s u .endShow f.skipNeverReached.1 first
               ((s.pfu.skipInstance i).2 ++ f.skipNeverReached.2) t) ∧
       (b.action = .phase .resume → s.phase = .stopped → s.fireQuiet = true → ∀ r, s.pfu.perf.resume = some r →
         ∃ t, exec c s = .next t ∧
           KeyMovedPhase s u .resume { s.pfu with perf := { s.pfu.perf with
             resume := none, stopCause := .none, entry := s.now,
             phase := (match r with | .houseOpen => .houseOpen | .interval => .interval | .resuming => .resuming),
             clocks := (match r with
               | .houseOpen => s.pfu.perf.clocks.continue .houseOpen
               | .interval => s.pfu.perf.clocks.continue (intervalClock s.pfu.perf.intervalNo)
               | .resuming => s.pfu.perf.clocks) } } first [] t) ∧
       (b.action = .curtainLower → s.phase ≠ .running → s.phase ≠ .stopped → s.phase ≠ .evacuate → CurtainOk s.ctc →
         s.ctc.state = .up ∨ s.ctc.state = .held → s.ctc.edge = false → ∃ t bs, exec c s = .next t ∧
           Only [.desk, .curtain, .gates, .link, .lines, .draws] s t ∧ t.dsu = u ∧
           Sends s (first ++ .curtainState .descending (some .request) (pos s) s.settings.curtain.release :: bs) t ∧
           t.ilu.release.line = false ∧ t.lines.brake = false ∧ t.ctc.faults = s.ctc.faults ∧
           (s.ctc.floor = false → bs = [] ∧ t.lines.warning = true ∧ ∃ d, t.ctc.descent = some d ∧
             t.ctc = { s.ctc with state := .descending, descent := some d } ∧ d.record.startCause = .request ∧
             d.record.cause = .request ∧ d.record.startPos = pos s ∧ d.params = s.settings.curtain ∧
             d.u = s.settings.curtain.release ∧ d.hold = none ∧ d.sup.clock = 0) ∧
           (s.ctc.floor = true → t.ctc.state = .down ∧ t.ctc.descent = none ∧
             ∃ r, t.ctc.history = (r :: s.ctc.history).take 4 ∧ r.cause = .request ∧ r.startPos = pos s ∧
               r.dropTime = 0 ∧ r.ending = some .arrived)) ∧
       (b.action = .curtainRaise → s.phase ≠ .running → s.phase ≠ .stopped → s.phase ≠ .evacuate → CurtainOk s.ctc →
         s.fireFull = false → s.lmu.limitState 0 ≠ .high → s.ctc.faults.contains .encoder = false →
         s.ctc.overtravel = false → s.ctc.state = .down ∨ s.ctc.state = .held → ∃ t bs, exec c s = .next t ∧
           Only [.desk, .curtain, .gates, .link, .lines, .draws] s t ∧ t.dsu = u ∧
           Sends s (first ++ .curtainState .raising none (pos s) s.settings.curtain.release :: bs) t ∧
           t.ilu.release.line = true ∧
           (s.ctc.top = false → pos s + 20 < s.settings.curtain.travel → bs = [] ∧ t.ilu.hoist.line = true ∧
             t.lines.brake = false ∧ t.lines.warning = false ∧
             t.ctc = { s.ctc with
               state := .raising, raiseDeadline := some (s.now + s.settings.curtain.raiseLimit * 1000) }) ∧
           (s.ctc.top = true ∨ s.settings.curtain.travel ≤ pos s + 20 →
             t.ilu.hoist.line = false ∧ t.ilu.hoist.lastChange = s.now ∧
             (s.settings.curtain.travel ≤ pos s + 100 → t.ctc = { s.ctc with state := .up } ∧
               bs = [.curtainState .up none (pos s) s.settings.curtain.release]) ∧
             (pos s + 100 < s.settings.curtain.travel → t.lines.brake = true ∧
               t.ctc = { s.ctc with state := .held, faults := addFault .creep s.ctc.faults }))) ∧
       (b.action = .evacuate → CurtainOk s.ctc → CurtainFalls s → s.phase ≠ .dark → s.phase ≠ .evacuate →
         s.phase ≠ .closed → ∃ t cs, exec c s = .next t ∧ t.dsu = u ∧ t.phase = .evacuate ∧ t.fireFull = true ∧
           CurtainFalls t ∧ Sends s (first ++ (s.pfu.skipAll.2 ++ .phase .evacuate s.pfu.perf.act s.pfu.perf.intervalNo
             (.request .evacuate .desk) .none s.pfu.perf.stops none :: cs)) t) ∧
       (b.action = .fireFull → CurtainOk s.ctc → CurtainFalls s → s.fireFull = false →
         ∃ t, exec c s = .next t ∧ EntersFull { s with dsu := u } .manual t) ∧
       (∀ n, b.action = .call n → n ≤ 15 → QueueOk s.clu → s.clu.nextArrival ≤ 4294967295 →
         s.clu.reservedInUse .desk < 3 →
         let T := s.settings.template n
         templateOk T = true → s.phase ≠ .evacuate ∨ T.cls = .evac ∨ T.cls = .alert →
         playZones s.phase T.cls T.zones ≠ 0 →
         (∀ e ∈ s.clu.entries, ¬ (e.slot = T.slot ∧ e.zones = playZones s.phase T.cls T.zones ∧ e.cls = T.cls)) →
         ∃ t e bs, exec c s = .next t ∧ Only [.desk, .fire, .calls, .gates, .link, .lines, .draws] s t ∧ t.dsu = u ∧
           Sends s (first ++ bs) t ∧ e ∈ t.clu.entries ∧ (∀ f ∈ s.clu.entries, f.id ≠ e.id) ∧ e.source = .desk ∧
           e.cls = T.cls ∧ e.slot = T.slot ∧ e.zones = playZones s.phase T.cls T.zones ∧ e.bell = T.bell ∧
           e.repeats = T.repeats ∧ e.gap = T.gap ∧ e.pool = false) ∧
       (b.action = .curtainHalt → CurtainOk s.ctc → s.ctc.state = .raising → ∃ t, exec c s = .next t ∧
         Only [.desk, .curtain, .gates, .link, .lines, .draws] s t ∧ t.dsu = u ∧
         t.ctc = { s.ctc with state := .held, raiseDeadline := none } ∧ t.lines.brake = true ∧ t.ilu.hoist.line = false ∧
         Sends s (first ++ [.curtainState .held none (pos s) s.settings.curtain.release]) t) ∧
       (∀ p fade target origin, (b.action = .lightsGo p ∧ p ≤ 15 ∧ fade = min 6000 s.settings.deskFade ∧
             target = s.settings.presetLevel p ∧ origin = .go) ∨
           (b.action = .houseFull ∧ fade = s.settings.lightTimes.houseFull ∧ target = (fun _ => 1000) ∧
             origin = .houseFull) →
         s.ilu.relay.line = true → ∃ t, exec c s = .next t ∧ Only [.desk, .lights, .link, .lines, .draws] s t ∧
           t.dsu = u ∧ Sends s first t ∧ t.hlu = { s.hlu with channels := t.hlu.channels } ∧
           ∀ (i : Nat) (r : ChannelRun), s.hlu.channels[i]? = some r → t.hlu.channels[i]? = some
             (if fade = 0 then { active := target i, fade := none }
              else { r with fade := some { start := r.active, target := target i, started := s.now,
                                           duration := fade * 100, origin, evals := 0 } })) ∧
       (b.action = .fireAck → s.fdu.fire.state = .staffAlert .awaitingAck → ∃ t n, exec c s = .next t ∧
         Only [.desk, .fire, .link, .lines, .draws] s t ∧ t.dsu = u ∧
         t.fdu = { s.fdu with fire := { s.fdu.fire with
           state := .staffAlert .investigating, entry := s.now,
           timer := some (s.now + s.settings.fireTimes.investigation * 1000) } } ∧
         Sends s (first ++ [n]) t ∧ n.cls = .alarm) ∧
       (b.action = .fireSilence → s.fireFull = true → s.fdu.fire.silenced = false → ∃ t bs, exec c s = .next t ∧
         Only [.desk, .fire, .calls, .gates, .link, .lines, .draws] s t ∧ t.dsu = u ∧ t.fireFull = true ∧
         t.fdu.fire.silenced = true ∧ t.lines.sounders = List.replicate 4 false ∧
         (s.fdu.fire.evacCall = none → t.clu = s.clu) ∧ Sends s (first ++ bs) t))) ∧
  ∀ (x : Nat) (s : State), s.held = none → x ≤ s.now →
    (s.dsu.refusedUntil = some x → ∃ t, exec .refusedIndicationExpiry s = .next t ∧
      Only [.desk, .link, .lines, .draws] s t ∧ t.dsu = { s.dsu with refusedUntil := none } ∧ Sends s [] t) ∧
    (s.dsu.flashDue ≤ s.now → ∃ t, exec .flashHalfPeriod s = .next t ∧ Only [.desk, .link, .lines, .draws] s t ∧
      t.dsu = { s.dsu with flashLit := !s.dsu.flashLit, flashDue := s.dsu.flashDue + 500 } ∧ Sends s [] t)

/-! ## Chapter 11: the link -/

/-- The reception of a frame: a SYNC starts its timer of 50 ms; the timer's end, a LEN of 0 or above 60, a sum of the bytes
from LEN through CHECK that is not 0 modulo 256, a missing stop bit and a frame that finds the buffer full each discard it
with their counter raised, to 255 at most, by the byte that comes first; bytes that do none of this, and bytes met while no
frame is in progress, before the frame or past its end, count nothing; and a good frame of no request kind, or of a wrong
length, is answered with UNKNOWN-KIND or BAD-LENGTH (R191, R192). The bytes of a frame as TABLE LXIX lays them out, with a
body of up to 59 bytes, give no fault (R191). That a request command stands for its whole good frame, and a SYNC is the
command FRAME-SYNC alone, is the model's choice (log 18), and so are which frames are counted between RESTART and the reset
(log 33) and that of a LEN byte with a missing stop bit the stop bit alone is judged (log 51). That an event may be taken
later than its moment is the model's choice (log 17). -/
def Obligations.FrameReception : Prop :=
  (∀ (kind : Nat) (body : List Nat), body.length ≤ 59 → ∃ len rest,
     frameBytes kind body = 0xC3 :: len :: kind :: (body ++ rest) ∧ len = body.length + 1 ∧ rest.length = 1 ∧
     (∀ x ∈ rest, x < 256) ∧ frameFault { received := len :: kind :: (body ++ rest), missingStop := false } = none) ∧
  ∀ s : State, s.held = none →
    (s.lp.frame = none → ∃ t more, exec .frameSync s = .next t ∧ Only [.link, .lines, .draws] s t ∧
      t.lp = ({ s.lp with frame := some s.now } : Lp).pump more) ∧
    (∀ x, s.lp.frame = some x → x + 50 ≤ s.now → ∃ t more, exec .frameTimeout s = .next t ∧
      Only [.link, .lines, .draws] s t ∧
      t.lp = ({ s.lp with frame := none, timeout := min 255 (s.lp.timeout + 1) } : Lp).pump more) ∧
    (s.lp.frame = none → ∀ b, exec (.frameRejected b) s = .next s) ∧
    (s.lp.restarting = false →
      (∀ x len rest, s.lp.frame = some x →
        (len = 0 ∨ 60 < len → ∀ stop, stop = false ∨ rest ≠ [] →
          ∃ t more, exec (.frameRejected { received := len :: rest, missingStop := stop }) s = .next t ∧
            Only [.link, .lines, .draws] s t ∧
            t.lp = ({ s.lp with frame := none, length := min 255 (s.lp.length + 1) } : Lp).pump more) ∧
        (len = 0 ∨ 60 < len → ∃ t more, exec (.frameRejected { received := [len], missingStop := true }) s = .next t ∧
          Only [.link, .lines, .draws] s t ∧
          t.lp = ({ s.lp with frame := none, checksum := min 255 (s.lp.checksum + 1) } : Lp).pump more) ∧
        (1 ≤ len → len ≤ 60 →
          (rest.length ≤ len + 1 → ∃ t more, exec (.frameRejected { received := len :: rest, missingStop := true }) s = .next t ∧
            Only [.link, .lines, .draws] s t ∧
            t.lp = ({ s.lp with frame := none, checksum := min 255 (s.lp.checksum + 1) } : Lp).pump more) ∧
          (len + 1 ≤ rest.length → (len + (rest.take (len + 1)).sum) % 256 ≠ 0 →
            ∀ stop, ∃ t more, exec (.frameRejected { received := len :: rest, missingStop := stop }) s = .next t ∧
              Only [.link, .lines, .draws] s t ∧
              t.lp = ({ s.lp with frame := none, checksum := min 255 (s.lp.checksum + 1) } : Lp).pump more) ∧
          (rest.length ≤ len ∨ (len + (rest.take (len + 1)).sum) % 256 = 0 →
            ∀ stop, stop = false ∨ len + 1 < rest.length →
              exec (.frameRejected { received := len :: rest, missingStop := stop }) s = .next s))) ∧
      (2 ≤ s.lp.inbound.length → (∃ t more, exec .frameOverrun s = .next t ∧ Only [.link, .lines, .draws] s t ∧
          t.lp = ({ s.lp with frame := none, overrun := min 255 (s.lp.overrun + 1) } : Lp).pump more) ∧
        ∃ t more, exec .status s = .next t ∧ Only [.link, .lines, .draws] s t ∧
          t.lp = ({ s.lp with frame := none, overrun := min 255 (s.lp.overrun + 1) } : Lp).pump more) ∧
      (s.lp.inbound.length < 2 → (∀ code, ∃ t more, exec (.unknownKind (.notRequest code)) s = .next t ∧
          Only [.link, .lines, .draws] s t ∧ t.lp = ({ s.lp with
            frame := none,
            inbound := s.lp.inbound ++ [{ kind := .unknown code, reply := some (.refused .unknownKind .none) }] } : Lp).pump more) ∧
        ∀ kind, ∃ t more, exec (.unknownKind (.badLength kind)) s = .next t ∧ Only [.link, .lines, .draws] s t ∧
          t.lp = ({ s.lp with
            frame := none,
            inbound := s.lp.inbound ++ [{ kind := .request kind, reply := some (.refused .badLength .none) }] } : Lp).pump more))

/-- A frame has gone out: a notice leaves the line free; a reply sends its further frames, numbered from 0, with nothing
between them, and with the last its request leaves the buffer; that of an accepted RESTART brings about the reset, and every
output takes its de-energised state (R197). What the line then takes is the next reply that is ready, from its first frame, or
else the oldest notice (R192, R193). A refusal takes one frame; how many frames a DONE body takes that does not fit in one for
certain is free (log 6). That this reset is held until RESET-RELEASE is the model's choice (log 74). -/
def Obligations.OutboundFrames : Prop :=
  ∀ s : State, s.held = none →
    (∀ n, s.lp.line = some (.notice n) → ∃ t, exec .outboundFrameSent s = .next t ∧ Only [.link, .lines, .draws] s t ∧
      (∀ r, s.lp.readyReply = some r → (∃ more, t.lp.line = some (.reply 0 more) ∧ (∀ reason d, r = .refused reason d → more = 0) ∧
          ∀ b, r = .done b → b.short = true → more = 0) ∧ t.lp.notices = s.lp.notices ∧
        t.lp.inbound = s.lp.inbound) ∧
      (∀ m ms, s.lp.readyReply = none → s.lp.notices = m :: ms → t.lp = { s.lp with line := some (.notice m), notices := ms }) ∧
      (s.lp.readyReply = none → s.lp.notices = [] → t.lp = { s.lp with line := none })) ∧
    (∀ part n, s.lp.line = some (.reply part (n + 1)) → ∃ t, exec .outboundFrameSent s = .next t ∧
      Only [.link] s t ∧ t.lp = { s.lp with line := some (.reply (part + 1) n) }) ∧
    (∀ part f fs, s.lp.line = some (.reply part 0) → s.lp.inbound = f :: fs →
      (f.kind ≠ .request .restart ∨ f.reply ≠ some (.done .empty) →
        ∃ t more, exec .outboundFrameSent s = .next t ∧ Only [.link, .lines, .draws] s t ∧
          t.lp = ({ s.lp with line := none, inbound := fs } : Lp).pump more) ∧
      (f.kind = .request .restart → f.reply = some (.done .empty) →
        ∃ t, exec .outboundFrameSent s = .next t ∧ t.held = some .restart ∧ t.lines = FieldLines.held ∧
          t.ilu = Ilu.reset ∧ t.lp.inbound = fs ∧ t.lp.line = none ∧ Only [.reset, .gates, .link, .lines] s t))

/-- RESTART is answered DONE, and no later frame of any request is admitted or counted (R197). LINK-COUNTS gives the four
counters and sets them to 0 (R195); STATUS gives the phase with its act and interval number, the fire state with SILENCED, the
curtain state and p, the override, the announcer and FAILED, the number of calls and the summary fault flag of each block, and
reports NOTICES-LOST and clears it (R194, R196). -/
def Obligations.RestartCountsAndStatus : Prop :=
  ∀ s : State, Admits s →
    (∃ t more, exec .restart s = .next t ∧ Only [.link, .lines, .draws] s t ∧
      t.lp = ({ s.lp with
        frame := none, restarting := true,
        inbound := s.lp.inbound ++ [{ kind := .request .restart, reply := some (.done .empty) }] } : Lp).pump more ∧
      ∀ c k u, requestOf c = some k → exec c t = .next u → u = { t with lp := { t.lp with frame := none } }) ∧
    (∃ t more, exec .linkCounts s = .next t ∧ Only [.link, .lines, .draws] s t ∧
      t.lp = ({ s.lp with
        frame := none, checksum := 0, length := 0, timeout := 0, overrun := 0,
        inbound := s.lp.inbound ++ [
          { kind := .request .linkCounts,
            reply := some (.done (.linkCounts s.lp.checksum s.lp.length s.lp.timeout s.lp.overrun)) }] } : Lp).pump more) ∧
    (∃ (t : State) (more : Nat) (r : StatusReading), exec .status s = .next t ∧ Only [.link, .lines, .draws] s t ∧
      r.noticesLost = s.lp.noticesLost ∧ r.phase = s.phase ∧ r.act = s.pfu.perf.act ∧
      r.interval = s.pfu.perf.intervalNo ∧ r.fire = s.fdu.fire.state ∧ r.silenced = s.fdu.fire.silenced ∧
      r.announcer = s.clu.announcer ∧
      r.curtain = s.ctc.state ∧ r.position = pos s ∧ r.override = !s.ilu.relay.line ∧ r.failed = s.clu.failed ∧
      r.calls = s.clu.entries.length ∧ r.flags.ctc = decide (s.ctc.faults ≠ []) ∧ r.flags.hlu = s.hlu.supplyFault ∧
      (r.flags.lp = true ↔ 0 < s.lp.checksum ∨ 0 < s.lp.length ∨ 0 < s.lp.timeout ∨ 0 < s.lp.overrun) ∧
      (r.flags.pfu = true ↔ (∃ l, (s.store.sector l).state = .bad) ∨ s.lp.defaulted = true) ∧
      (r.flags.fdu = true ↔ s.fdu.loopBroken = true ∨ true ∈ s.fdu.sounderFaults ∨
        ∃ d ∈ s.fdu.devices, d.state = .fault ∨ d.state = .missing) ∧ r.flags.clu = s.clu.failed ∧
      (r.flags.ilu = true ↔ s.ilu.hoist.denied = true ∨ s.ilu.release.denied = true ∨ s.ilu.relay.denied = true ∨
        s.ilu.stalls.denied = true ∨ s.ilu.circle.denied = true ∨ s.ilu.gallery.denied = true) ∧
      (r.flags.lmu = true ↔ ∃ c ∈ s.lmu.channels, c.state ≠ .normal) ∧
      t.lp = ({ s.lp with
        frame := none, noticesLost := false,
        inbound := s.lp.inbound ++ [{ kind := .request .status, reply := some (.done (.status r)) }] } : Lp).pump more)

/-- CONFIG-SET is decided in order: an unknown item or an index out of range, the phase, and the owner's check of the value;
accepted, the item in force is the value, clamped where its rule clamps, and nothing else of the configuration moves: the
curtain parameters, the channels, the presets, the lighting times, the device entries, the scan list, the zones, the fire
times and templates, the templates, the bell patterns, the stop template, the limits, the desk, the key bindings, the lamp
bindings and the desk fade time, each with what refuses it (R47, R88, R90, R96, R98, R109, R114, R130, R136, R137, R141,
R151, R152, R180, R183, R186, R187, R189, R198). The check of a value against the one in force is the model's reading (log
36), and that a channel may be written without its floor is its choice (log 45). TEMPLATE-WRITE is decided by its fields,
then by the phase; accepted, the template is as written, with repeats clamped at 9 and the gap at 60 (R151). -/
def Obligations.SettingsAreWritten : Prop :=
  (∀ (w : ConfigWrite) (s : State), Admits s →
     ((∃ code, w = .unknown code) ∨ (∃ n v, w = .channel n v ∧ 11 < n) ∨ (∃ n v, w = .preset n v ∧ v.length = 12 ∧ 14 < n) ∨
         (∃ n v, w = .device n v ∧ (n = 0 ∨ 64 < n)) ∨ (∃ n v, w = .zone n v ∧ (n = 0 ∨ 16 < n)) ∨
         (∃ n v, w = .template n v ∧ 15 < n) ∨ (∃ n v, w = .bell n v ∧ (n = 0 ∨ 7 < n)) ∨
         (∃ n v, w = .limits n v ∧ 7 < n) ∨ (∃ n v, w = .keyBinding n v ∧ 47 < n) ∨
         (∃ n v, w = .lampBinding n v ∧ 7 < n) →
       Refuses (.configSet w) .configSet .badField .none s) ∧
     ((∃ v, w = .curtain v) ∨ (∃ n v, w = .channel n v ∧ n ≤ 11) ∨ (∃ v, w = .lightTimes v) ∨
         (∃ n v, w = .device n v ∧ 1 ≤ n ∧ n ≤ 64) ∨ (∃ v, w = .scanList v) ∨ (∃ n v, w = .zone n v ∧ 1 ≤ n ∧ n ≤ 16) ∨
         (∃ v, w = .fireTimes v) ∨ (∃ v, w = .stopTemplate v) ∨ (∃ n v, w = .limits n v ∧ n ≤ 7) ∨ (∃ v, w = .desk v) ∨
         (∃ n v, w = .keyBinding n v ∧ n ≤ 47) →
       s.phase ≠ .dark → Refuses (.configSet w) .configSet .wrongPhase .none s) ∧
     ((∃ n v, w = .preset n v ∧ v.length = 12 ∧ n ≤ 14) ∨ (∃ n v, w = .template n v ∧ n ≤ 15) ∨
         (∃ n v, w = .bell n v ∧ 1 ≤ n ∧ n ≤ 7) ∨ (∃ n v, w = .lampBinding n v ∧ n ≤ 7) ∨ (∃ v, w = .deskFade v) →
       s.phase ≠ .dark → s.phase ≠ .prepare → Refuses (.configSet w) .configSet .wrongPhase .none s)) ∧
  (∀ s : State, Admits s → s.phase = .dark ∨ s.phase = .prepare →
     (∀ n, Configures (.deskFade n) { s.settings with deskFade := min 6000 n } s) ∧
     (∀ n levels, n ≤ 14 → levels.length = 12 → Configures (.preset n levels)
       { s.settings with presets := s.settings.presets.set n (levels.map (min 1000)) } s) ∧
     (∀ n b, n ≤ 15 →
       (3 < b.cls ∨ (63 < b.slot ∧ b.slot ≠ 255) ∨ b.zones = 0 ∨ 7 < b.bell ∨
           (b.repeats = 0 ∧ (b.cls = 2 ∨ b.cls = 3)) ∨ (b.slot = 255 ∧ b.bell = 0) →
         Refuses (.configSet (.template n b)) .configSet .badField .none s) ∧
       (∀ cls, classCode cls = b.cls → b.slot ≤ 63 ∨ b.slot = 255 → b.zones ≠ 0 → b.bell ≤ 7 →
         (b.repeats = 0 → b.cls = 0 ∨ b.cls = 1) → b.slot ≠ 255 ∨ b.bell ≠ 0 → Configures (.template n b)
           { s.settings with
             templates := s.settings.templates.set n
               { cls, slot := if b.slot = 255 then none else some b.slot, zones := b.zones, bell := b.bell,
                 repeats := min 9 b.repeats, gap := min 60 b.gap } } s)) ∧
     (∀ n p, 1 ≤ n → n ≤ 7 →
       (1 ≤ p.length ∧ p.length ≤ 8 ∧ (∀ x ∈ p, 1 ≤ x.1 ∧ x.1 ≤ 40 ∧ 1 ≤ x.2 ∧ x.2 ≤ 40) →
         Configures (.bell n p) { s.settings with bells := s.settings.bells.set (n - 1) p } s) ∧
       (¬ (1 ≤ p.length ∧ p.length ≤ 8 ∧ (∀ x ∈ p, 1 ≤ x.1 ∧ x.1 ≤ 40 ∧ 1 ≤ x.2 ∧ x.2 ≤ 40)) →
         Refuses (.configSet (.bell n p)) .configSet .badField .none s)) ∧
     (∀ n flashing, n ≤ 7 →
       Refuses (.configSet (.lampBinding n { condition := none, flashing })) .configSet .badField .none s ∧
       ∀ condition, Configures (.lampBinding n { condition := some condition, flashing })
         { s.settings with lamps := s.settings.lamps.set n { condition, flashing } } s)) ∧
  (∀ s : State, Admits s → s.phase = .dark →
     (∀ n, n ≤ 15 ∨ n = 255 → Configures (.stopTemplate n) { s.settings with stopTemplate := n } s) ∧
     (∀ n, 15 < n → n ≠ 255 → Refuses (.configSet (.stopTemplate n)) .configSet .badField .none s) ∧
     (∀ v : LightTimes,
       (v.stopFade ≤ 100 → v.houseFull ≤ 600 → Configures (.lightTimes v) { s.settings with lightTimes := v } s) ∧
       (100 < v.stopFade ∨ 600 < v.houseFull → Refuses (.configSet (.lightTimes v)) .configSet .badField .none s)) ∧
     (∀ v : CurtainParams,
       let ok := 2000 ≤ v.travel ∧ v.travel ≤ 15000 ∧ 50 ≤ v.counts ∧ v.counts ≤ 2000 ∧ 300 ≤ v.slowZone ∧
         v.slowZone ≤ 2000 ∧ 100 ≤ v.ramp ∧ v.ramp ≤ 1000 ∧ 200 ≤ v.mainSpeed ∧ v.mainSpeed ≤ 800 ∧ 50 ≤ v.slowSpeed ∧
         v.slowSpeed ≤ 300 ∧ v.slowSpeed < v.mainSpeed ∧ v.slowSpeed < s.settings.curtain.mainSpeed ∧ 1 ≤ v.gain ∧
         v.gain ≤ 64 ∧ v.release ≤ 1000 ∧ 100 ≤ v.maxDrop ∧ v.maxDrop ≤ 400 ∧ 30 ≤ v.raiseLimit ∧ v.raiseLimit ≤ 240 ∧
         v.warning ≤ 15 ∧ 2 ≤ v.hold ∧ v.hold ≤ 10
       (ok → Configures (.curtain v) { s.settings with curtain := v } s) ∧
       (¬ ok → Refuses (.configSet (.curtain v)) .configSet .badField .none s)) ∧
     (∀ n (v : ChannelWrite), n ≤ 11 →
       (v.cls = none ∨ v.curve = none ∨ 31 < v.trim ∨ (∃ x, v.floor = some x ∧ (500 < x ∨ v.cls ≠ some .aisle)) →
         Refuses (.configSet (.channel n v)) .configSet .badField .none s) ∧
       (∀ cls curve, v.cls = some cls → v.curve = some curve → v.trim ≤ 31 →
         (∀ x, v.floor = some x → x ≤ 500 ∧ cls = .aisle) → Configures (.channel n v)
           { s.settings with
             channels := s.settings.channels.set n
               { cls, trim := v.trim, curve, hold := v.hold,
                 floor := v.floor.getD (s.settings.channel n).floor } } s)) ∧
     (∀ l : List Nat,
       (64 < l.length ∨ (∃ a ∈ l, a = 0 ∨ 64 < a) ∨ ¬ l.Nodup →
         Refuses (.configSet (.scanList l)) .configSet .badField .none s) ∧
       (l.length ≤ 64 → (∀ a ∈ l, 1 ≤ a ∧ a ≤ 64) → l.Nodup → ∃ t, exec (.configSet (.scanList l)) s = .next t ∧
         Only [.settings, .fire, .link, .lines, .draws] s t ∧ t.settings = { s.settings with scanList := l } ∧
         t.fdu = { s.fdu with scanPtr := 0 } ∧ Replies s .configSet (.done (.config (.scanList l))) [] t)) ∧
     (∀ n (l : Limits), n ≤ 7 →
       (l.high < l.low ∨ 1023 < l.high ∨ (s.settings.limit n).high < l.low →
         Refuses (.configSet (.limits n l)) .configSet .badField .none s) ∧
       (l.low ≤ l.high → l.high ≤ 1023 → l.low ≤ (s.settings.limit n).high →
         ∃ t, exec (.configSet (.limits n l)) s = .next t ∧ Only [.settings, .monitor, .link, .lines, .draws] s t ∧
           t.settings = { s.settings with limits := s.settings.limits.set n l } ∧
           t.lmu = { s.lmu with channels := s.lmu.channels.modify n fun c => { c with candidate := none, run := 0 } })) ∧
     (∀ a (v : DeviceWrite), 1 ≤ a → a ≤ 64 →
       (v.type = none ∨ v.zone = 0 ∨ 16 < v.zone ∨ v.alarm < v.preAlarm ∨ v.alarm < (s.settings.device a).preAlarm →
         Refuses (.configSet (.device a v)) .configSet .badField .none s) ∧
       (∀ type, v.type = some type → 1 ≤ v.zone → v.zone ≤ 16 → v.preAlarm ≤ v.alarm →
         (s.settings.device a).preAlarm ≤ v.alarm → v.alarm ≤ 255 →
         ((s.fdu.device a).state = .alarm → Refuses (.configSet (.device a v)) .configSet .alarmActive .none s) ∧
         ((s.fdu.device a).state ≠ .alarm → s.fdu.watch.Nodup → s.settings.devices.length = 64 → ∀ d, s.fdu.devices[a - 1]? = some d →
           ∃ t e, exec (.configSet (.device a v)) s = .next t ∧ Only [.settings, .fire, .link, .lines, .draws] s t ∧
             t.settings = { s.settings with
               devices := s.settings.devices.set (a - 1)
                 { type, zone := v.zone, preAlarm := v.preAlarm, alarm := v.alarm, enabled := v.enabled } } ∧
             t.fdu.devices[a - 1]? = some e ∧ e.state = (if v.enabled then .normal else .disabled) ∧ e.confirm = 0 ∧
             e.clear = 0 ∧ e.recovery = 0 ∧ e.miss = 0 ∧ e.mismatch = false ∧ e.value = d.value ∧ e.errors = d.errors ∧
             a ∉ t.fdu.watch ∧ t.fdu.fire = s.fdu.fire))) ∧
     (∀ z delay, 1 ≤ z → z ≤ 16 →
       Refuses (.configSet (.zone z { cls := none, delay })) .configSet .badField .none s ∧
       ∀ cls,
         (s.fdu.isolated z = true → cls ≠ (s.settings.zone z).cls →
           Refuses (.configSet (.zone z { cls := some cls, delay })) .configSet .wrongState .none s) ∧
         (s.fdu.isolated z = false ∨ cls = (s.settings.zone z).cls → Configures (.zone z { cls := some cls, delay })
           { s.settings with zones := s.settings.zones.set (z - 1) { cls, delay } } s)) ∧
     (∀ v : FireTimes,
       let ok := 10 ≤ v.acknowledge ∧ v.acknowledge ≤ 120 ∧ 60 ≤ v.investigation ∧ v.investigation ≤ 300 ∧
         (v.staffTemplate ≤ 15 ∨ v.staffTemplate = 255) ∧ (v.evacTemplate ≤ 15 ∨ v.evacTemplate = 255)
       (ok → Configures (.fireTimes v) { s.settings with fireTimes := v } s) ∧
       (¬ ok → Refuses (.configSet (.fireTimes v)) .configSet .badField .none s)) ∧
     (∀ v : DeskWrite,
       (v.mode = none ∨ v.order = [] ∨ (∃ x ∈ v.order, 7 < x) ∨ ¬ v.order.Nodup ∨ v.dwell = 0 ∨ 4 < v.dwell ∨
           v.debounce = 0 ∨ 64 < v.debounce →
         Refuses (.configSet (.desk v)) .configSet .badField .none s) ∧
       (∀ mode, v.mode = some mode → v.order ≠ [] → (∀ x ∈ v.order, x ≤ 7) → v.order.Nodup → 1 ≤ v.dwell → v.dwell ≤ 4 →
         1 ≤ v.debounce → v.debounce ≤ 64 → Configures (.desk v)
           { s.settings with desk := { order := v.order, dwell := v.dwell, debounce := v.debounce, mode } } s)) ∧
     (∀ k long, k ≤ 47 →
       Refuses (.configSet (.keyBinding k { action := none, long })) .configSet .badField .none s ∧
       ∀ action,
         (long = false ∧ (action = .showStop ∨ action = .evacuate ∨ action = .fireFull) ∨
             (∃ n, 15 < n ∧ (action = .call n ∨ action = .lightsGo n)) →
           Refuses (.configSet (.keyBinding k { action := some action, long })) .configSet .badField .none s) ∧
         ((long = false → action ≠ .showStop ∧ action ≠ .evacuate ∧ action ≠ .fireFull) →
           (∀ n, action = .call n ∨ action = .lightsGo n → n ≤ 15) →
           Configures (.keyBinding k { action := some action, long })
             { s.settings with keys := s.settings.keys.set k { action, long } } s))) ∧
  ∀ (n : Nat) (b : CallBody) (cls : CallClass) (s : State), Admits s →
    (15 < n ∨ 3 < b.cls ∨ (63 < b.slot ∧ b.slot ≠ 255) ∨ b.zones = 0 ∨ 7 < b.bell ∨
        (b.repeats = 0 ∧ (b.cls = 2 ∨ b.cls = 3)) ∨ (b.slot = 255 ∧ b.bell = 0) →
      Refuses (.templateWrite n b) .templateWrite .badField .none s) ∧
    (n ≤ 15 → classCode cls = b.cls → b.slot ≤ 63 ∨ b.slot = 255 → b.zones ≠ 0 → b.bell ≤ 7 →
      (b.repeats = 0 → b.cls = 0 ∨ b.cls = 1) → b.slot ≠ 255 ∨ b.bell ≠ 0 →
      (s.phase ≠ .dark → s.phase ≠ .prepare → Refuses (.templateWrite n b) .templateWrite .wrongPhase .none s) ∧
      (s.phase = .dark ∨ s.phase = .prepare → ∃ t, exec (.templateWrite n b) s = .next t ∧
        Only [.settings, .link, .lines, .draws] s t ∧
        t.settings = { s.settings with
          templates := s.settings.templates.set n
            { cls, slot := if b.slot = 255 then none else some b.slot, zones := b.zones, bell := b.bell,
              repeats := min 9 b.repeats, gap := min 60 b.gap } } ∧
        Replies s .templateWrite (.done .empty) [] t))

/-! ## Reading -/

/-- The requests that only read answer DONE with what they name as it stands, in every phase, and change nothing else: the
whole performance record, the curtain, the sample table, the identity, and the readings of the other blocks (R22, R35, R40,
R70, R107, R128, R148, R171, R182, R190, R195, R198). DEVICE-COUNTS gives the reply error
counters of a range of addresses in order and then sets each of them to 0, and no counter outside the range (R128). The
readings give each field its rule names from the state as it stands: the performance record and the interval's remaining
time, the curtain with its descent, the channels of the lights, the fire record and its zones, a device, the queue in the
order of class and arrival, the desk with its timers, pending values and lamps, and each item of the configuration; an entry
of STEP-READ that is PENDING on a running clock has the time to its due time, and the header of a SEALED sector its count
and check value (R35, R40). STEP-READ, QUEUE-READ and CONFIG-GET are refused with BAD-FIELD outside their ranges (R40, R171,
R198). The contents of sector 5 are free (log 9); that the empty table of STEP-READ is decided before its count and that a
device's isolation is shown for SMOKE and BEAM alone (log 31), what of the scan order and dwell is pending (log 32), and
that a place on the watch list is counted from 0 (log 66), are the model's choices. -/
def Obligations.ReadingChangesNothing : Prop :=
  (∀ s : State, Admits s →
     (∀ (c : Instr) (kind : RequestKind) (body : DoneBody),
       (c, kind, body) ∈ ([(.performanceRead, .performanceRead, .performance s.readPerformance),
         (.curtainRead, .curtainRead, .curtain s.readCurtain), (.lightsRead false, .lightsRead, .lights s.readLights),
         (.fireRead false, .fireRead, .fire s.readFire), (.deskRead, .deskRead, .desk s.readDesk),
         (.identify, .identify, .identity "LOMAJEN 460" hardwareRevision Config.serialNumber)] :
         List (Instr × RequestKind × DoneBody)) →
       ∃ t, exec c s = .next t ∧ Only [.link, .lines, .draws] s t ∧ Replies s kind (.done body) [] t) ∧
     (∃ t xs, exec .sampleRead s = .next t ∧ Only [.link, .lines, .draws] s t ∧
       Replies s .sampleRead (.done (.samples xs)) [] t ∧ xs.length = 8 ∧ ∀ n x, xs[n]? = some x →
         x.channel = s.lmu.channel n ∧ x.limits = s.settings.limit n ∧ x.last = (s.lmu.channel n).held.getLast?) ∧
     (∀ l, s.store.busy = false → (s.store.sector l).state ≠ .empty →
       (∃ t r, exec (.planRead (some l) .header) s = .next t ∧ Only [.link, .lines, .draws] s t ∧
         Replies s .planRead (.done (.planHeader r)) [] t ∧ r.state = (s.store.sector l).state ∧
         (r.locked = true ↔ s.pfu.perf.plan = some l) ∧ r.header = (s.store.sector l).header ∧
         r.sealed = if (s.store.sector l).state = .sealed then some ((s.store.sector l).count, (s.store.sector l).check)
           else none) ∧
       ∀ first count, 1 ≤ count → count ≤ 6 → first + count ≤ 48 →
         ∃ t, exec (.planRead (some l) (.slots first count)) s = .next t ∧ Only [.link, .lines, .draws] s t ∧
           Replies s .planRead (.done (.planSlots (((s.store.sector l).slots.drop first).take count))) [] t) ∧
     (∀ first count, 1 ≤ count → count ≤ 24 → first + count ≤ s.pfu.table.length →
       ∃ t xs, exec (.stepRead first count) s = .next t ∧ Only [.link, .lines, .draws] s t ∧
         Replies s .stepRead (.done (.steps xs)) [] t ∧ xs.length = count ∧
         ∀ k x, xs[k]? = some x → x.index = first + k ∧ s.pfu.table[first + k]? = some x.status ∧
           (x.status ≠ .pending → x.remaining = none) ∧
           ∀ (copy : RunningCopy) (st : Machine.Step), s.pfu.runningCopy = some copy → copy.steps[first + k]? = some st →
             x.status = .pending →
             let clock := s.pfu.perf.clocks.get st.anchor.clock
             let due : Int := if st.anchor.atEnd then ((s.pfu.perf.intervalLen : Int) + st.offset) * 1000
               else st.offset * 1000
             x.remaining = if clock.run = .running then some (due - clock.value) else none) ∧
     (s.pfu.table = [] → ∀ first count, Refuses (.stepRead first count) .stepRead .noPlan .none s) ∧
     (s.pfu.table ≠ [] → ∀ first count, count = 0 ∨ 24 < count ∨ s.pfu.table.length < first + count →
       Refuses (.stepRead first count) .stepRead .badField .none s) ∧
     (∀ a, 1 ≤ a → a ≤ 64 → ∃ t, exec (.deviceRead a) s = .next t ∧ Only [.link, .lines, .draws] s t ∧
       Replies s .deviceRead (.done (.device (s.readDevice a))) [] t) ∧
     (∀ a, a = 0 ∨ 64 < a → Refuses (.deviceRead a) .deviceRead .badField .none s) ∧
     (∀ first count, first ≤ 23 → 1 ≤ count → count ≤ 4 →
       ∃ t, exec (.queueRead first count) s = .next t ∧ Only [.link, .lines, .draws] s t ∧
         Replies s .queueRead (.done (.queue (s.readQueue first count))) [] t) ∧
     (∀ first count, 23 < first ∨ count = 0 ∨ 4 < count → Refuses (.queueRead first count) .queueRead .badField .none s) ∧
     (∀ item, itemOk item = true → ∃ t, exec (.configGet item) s = .next t ∧ Only [.link, .lines, .draws] s t ∧
       Replies s .configGet (.done (.config (Machine.Settings.value s.settings item))) [] t) ∧
     (∀ item, (itemOk item = false ↔ (∃ code, item = .unknown code) ∨ (∃ n, item = .channel n ∧ 11 < n) ∨ (∃ n, item = .preset n ∧ 14 < n) ∨
         (∃ n, item = .device n ∧ (n = 0 ∨ 64 < n)) ∨ (∃ n, item = .zone n ∧ (n = 0 ∨ 16 < n)) ∨
         (∃ n, item = .template n ∧ 15 < n) ∨ (∃ n, item = .bell n ∧ (n = 0 ∨ 7 < n)) ∨
         (∃ n, item = .limits n ∧ 7 < n) ∨ (∃ n, item = .keyBinding n ∧ 47 < n) ∨ (∃ n, item = .lampBinding n ∧ 7 < n)) ∧
       (itemOk item = false → Refuses (.configGet item) .configGet .badField .none s))) ∧
  (∀ s : State,
     (s.readPerformance.perf = s.pfu.perf ∧ s.readPerformance.remaining =
       (if s.phase = .interval ∨ s.pfu.perf.resume = some .interval then
          some (s.pfu.perf.intervalLen - (s.pfu.perf.clocks.get (intervalClock s.pfu.perf.intervalNo)).value / 1000)
        else none)) ∧
     (s.readCurtain =
       { state := s.ctc.state, cause := s.ctc.descent.map (·.record.cause),
         holding := s.ctc.descent.any (·.hold.isSome), position := pos s, count := s.ctc.count,
         command := s.ctc.descent.elim s.settings.curtain.release (·.u), floor := s.ctc.floor, top := s.ctc.top,
         overtravel := s.ctc.overtravel, edge := s.ctc.edge, faults := s.ctc.faults,
         record := s.ctc.descent.map (·.record), supervision := s.ctc.descent.map (·.sup),
         last := s.ctc.descent.bind (·.last), history := s.ctc.history }) ∧
     (s.readLights.emergencyDemand = s.hlu.emergencyDemand ∧ s.readLights.relay = s.ilu.relay.line ∧
       s.readLights.override = !s.ilu.relay.line ∧ s.readLights.supplyFault = s.hlu.supplyFault ∧
       s.readLights.channels.length = 12 ∧
       ∀ (i : Nat) (x : ChannelRun), i < 12 → s.hlu.channels[i]? = some x → ∃ r, s.readLights.channels[i]? = some r ∧
         r.cls = (s.settings.channel i).cls ∧ r.hold = (s.settings.channel i).hold ∧ r.trim = (s.settings.channel i).trim ∧
         r.curve = (s.settings.channel i).curve ∧ r.active = x.active ∧
         r.output = (if s.phase = .running ∧ (s.settings.channel i).cls = .aisle then
           max x.active (s.settings.channel i).floor else x.active) ∧
         r.code = outputCode (s.settings.channel i) r.output ∧ (x.fade = none → r.fade = none) ∧
         ∀ f, x.fade = some f → r.fade =
           some { origin := f.origin, target := f.target, elapsed := s.now - f.started, duration := f.duration }) ∧
     (s.readFire.record = s.fdu.fire ∧ s.readFire.remaining = s.fdu.fire.timer.map (· - s.now) ∧
       s.readFire.isolated = s.fdu.isolatedCount ∧ s.readFire.faults = s.fdu.sounderFaults ∧
       s.readFire.driven = List.replicate 4 (s.fireFull && !s.fdu.fire.silenced) ∧
       s.readFire.times = s.settings.fireTimes ∧ s.readFire.zones.length = 16 ∧
       ∀ z, 1 ≤ z → z ≤ 16 → s.readFire.zones[z - 1]? = some
         { cls := (s.settings.zone z).cls, delay := (s.settings.zone z).delay, status := s.fdu.zoneStatus z,
           expiry := s.fdu.expiry z, remaining := (s.fdu.expiry z).map fun x => (x - s.now) / 1000 }) ∧
     (∀ a, (s.readDevice a).entry = s.settings.device a ∧ (s.readDevice a).record = s.fdu.device a ∧
       ((s.readDevice a).listed = true ↔ a ∈ s.settings.scanList) ∧
       ((s.readDevice a).unlisted = true ↔ (s.settings.device a).enabled = true ∧ a ∉ s.settings.scanList) ∧
       ((s.readDevice a).watchPlace.isSome = true ↔ a ∈ s.fdu.watch) ∧
       (∀ k, (s.readDevice a).watchPlace = some k → s.fdu.watch[k]? = some a) ∧
       ((s.readDevice a).isolated = true ↔ s.fdu.expiry (s.settings.device a).zone ≠ none ∧
         ((s.settings.device a).type = .smoke ∨ (s.settings.device a).type = .beam)) ∧
       ((s.readDevice a).walkTest = true ↔ ∃ w, s.fdu.fire.walk = some w ∧ w.zone = (s.settings.device a).zone) ∧
       (s.readDevice a).mode = s.fdu.mode) ∧
     (∀ first count,
       let r := s.readQueue first count
       r.announcer = s.clu.announcer ∧ r.failed = s.clu.failed ∧ r.noStarts = s.clu.noStarts ∧ r.busy = s.clu.busy ∧
       r.count = s.clu.entries.length ∧ r.reservedLink = s.clu.reservedInUse .link ∧
       r.reservedPlan = s.clu.reservedInUse .plan ∧ r.reservedDesk = s.clu.reservedInUse .desk ∧
       r.reservedSafe = s.clu.reservedInUse .safety ∧ r.pool = s.clu.poolInUse ∧ r.nextId = s.clu.nextId ∧
       (∃ es : List CallEntry, es.Perm s.clu.entries ∧
         es.Pairwise (fun e f => classCode e.cls < classCode f.cls ∨ (e.cls = f.cls ∧ e.arrival ≤ f.arrival)) ∧
         r.entries.map (·.entry) = (es.drop first).take count) ∧
       ∀ x ∈ r.entries, (∀ w, x.entry.state = .waiting w → x.remaining = some (w - s.now) ∧ x.stage = none) ∧
         (x.entry.state = .queued → x.remaining = none ∧ x.stage = none) ∧
         ∀ z, x.entry.state = .playing z → x.remaining = none ∧ x.stage = some s.clu.announcer) ∧
     (let r := s.readDesk
      r.key = s.dsu.key ∧ r.down = s.dsu.down ∧ r.order = s.dsu.order ∧ r.dwell = s.dsu.dwell ∧
      r.debounce = s.settings.desk.debounce ∧ r.mode = s.settings.desk.mode ∧
      r.pendingOrder = (if s.settings.desk.order = s.dsu.order then none else some s.settings.desk.order) ∧
      r.pendingDwell = (if s.settings.desk.dwell = s.dsu.dwell then none else some s.settings.desk.dwell) ∧
      (∀ x, s.dsu.key = .pressDebounce x → r.debounceLeft = some (x - s.now) ∧ r.longLeft = none) ∧
      (∀ k x, s.dsu.key = .held k (some x) → r.longLeft = some (x - s.now) ∧ r.debounceLeft = none) ∧
      (∀ x, s.dsu.key = .releaseDebounce x → r.debounceLeft = x.map (· - s.now) ∧ r.longLeft = none) ∧
      r.refused = s.dsu.refusedUntil.isSome ∧ r.refusedLeft = s.dsu.refusedUntil.map (· - s.now) ∧
      r.lamps.length = s.settings.lamps.length ∧
      ∀ (n : Nat) (b : LampBinding), s.settings.lamps[n]? = some b → ∃ x, r.lamps[n]? = some x ∧ x.binding = b ∧
        (x.lit = true ↔ x.condition = true ∧ (b.flashing = true → s.dsu.flashLit = true)) ∧
        (∀ p, b.condition = .phase p → (x.condition = true ↔ s.phase = p)) ∧
        (b.condition = .staffAlert → (x.condition = true ↔ ∃ u, s.fdu.fire.state = .staffAlert u)) ∧
        (b.condition = .full → x.condition = s.fireFull) ∧
        (b.condition = .silenced → (x.condition = true ↔ s.fireFull = true ∧ s.fdu.fire.silenced = true)) ∧
        (b.condition = .curtainUp → (x.condition = true ↔ s.ctc.state = .up)) ∧
        (b.condition = .curtainDown → (x.condition = true ↔ s.ctc.state = .down)) ∧
        (b.condition = .curtainMoving →
          (x.condition = true ↔ s.ctc.state = .raising ∨ s.ctc.state = .preDrop ∨ s.ctc.state = .descending)) ∧
        (b.condition = .callPlaying → x.condition = atWork s.clu.announcer) ∧
        (b.condition = .curtainFault → (x.condition = true ↔ s.ctc.faults ≠ [])) ∧
        (b.condition = .curtainProven → x.condition = s.pfu.perf.proven) ∧
        (b.condition = .announcerFailed → x.condition = s.clu.failed) ∧
        (b.condition = .stepDue → x.condition = s.pfu.stepDueSoon) ∧
        (b.condition = .refused → x.condition = s.dsu.refusedUntil.isSome) ∧
        (b.condition = .none → x.condition = false)) ∧
     (let value := Machine.Settings.value s.settings
      value .curtain = .curtain s.settings.curtain ∧ value .lightTimes = .lightTimes s.settings.lightTimes ∧
      value .scanList = .scanList s.settings.scanList ∧ value .fireTimes = .fireTimes s.settings.fireTimes ∧
      value .stopTemplate = .stopTemplate s.settings.stopTemplate ∧ value .deskFade = .deskFade s.settings.deskFade ∧
      (∀ d, s.settings.desk = d →
        value .desk = .desk { order := d.order, dwell := d.dwell, debounce := d.debounce, mode := some d.mode }) ∧
      (∀ (i : Nat) r, s.settings.channels[i]? = some r → value (.channel i) = .channel i
        { cls := some r.cls, trim := r.trim, curve := some r.curve, hold := r.hold, floor := some r.floor }) ∧
      (∀ (i : Nat) r, s.settings.presets[i]? = some r → value (.preset i) = .preset i r) ∧
      (∀ (i : Nat) r, s.settings.devices[i]? = some r → value (.device (i + 1)) = .device (i + 1)
        { type := some r.type, zone := r.zone, preAlarm := r.preAlarm, alarm := r.alarm, enabled := r.enabled }) ∧
      (∀ (i : Nat) r, s.settings.zones[i]? = some r →
        value (.zone (i + 1)) = .zone (i + 1) { cls := some r.cls, delay := r.delay }) ∧
      (∀ (i : Nat) r, s.settings.templates[i]? = some r → value (.template i) = .template i
        { cls := classCode r.cls, slot := r.slot.getD 255, zones := r.zones, bell := r.bell, repeats := r.repeats,
          gap := r.gap }) ∧
      (∀ (i : Nat) r, s.settings.bells[i]? = some r → value (.bell (i + 1)) = .bell (i + 1) r) ∧
      (∀ (i : Nat) r, s.settings.limits[i]? = some r → value (.limits i) = .limits i r) ∧
      (∀ (i : Nat) r, s.settings.keys[i]? = some r →
        value (.keyBinding i) = .keyBinding i { action := some r.action, long := r.long }) ∧
      ∀ (i : Nat) r, s.settings.lamps[i]? = some r →
        value (.lampBinding i) = .lampBinding i { condition := some r.condition, flashing := r.flashing })) ∧
  ∀ (first count : Nat) (s : State), Admits s →
    (first = 0 ∨ 64 < first ∨ count = 0 ∨ 32 < count ∨ 65 < first + count →
      Refuses (.deviceCounts first count) .deviceCounts .badField .none s) ∧
    (1 ≤ first → 1 ≤ count → count ≤ 32 → first + count ≤ 65 →
      ∃ t, exec (.deviceCounts first count) s = .next t ∧ Only [.fire, .link, .lines, .draws] s t ∧
        t.fdu = { s.fdu with devices := t.fdu.devices } ∧
        (∀ (i : Nat) (d : DeviceRecord), s.fdu.devices[i]? = some d → t.fdu.devices[i]? = some
          (if first ≤ i + 1 ∧ i + 1 < first + count then { d with errors := 0 } else d)) ∧
        Replies s .deviceCounts (.done (.counts ((List.range count).map fun k => (s.fdu.device (first + k)).errors))) [] t)

/-- INTERLOCK-READ carries no field and is taken in every phase: ILU answers DONE with the demand, the line state, the
forcing set, the denied flag and the uptime of the last change of each gated output, as they stand, and no state changes
(R178). -/
def Obligations.InterlockRead : Prop :=
  ∀ s : State, Admits s → LinesDriven s → ∃ t, exec .interlockRead s = .next t ∧ Only [.link, .draws] s t ∧
    Replies s .interlockRead (.done (.interlocks
      { hoist := s.ilu.hoist, release := s.ilu.release, relay := s.ilu.relay, stalls := s.ilu.stalls, circle := s.ilu.circle,
        gallery := s.ilu.gallery })) [] t
end

