-- ==== Sys2Proof/Laws/State.lean ====
section
/-!
SUPPORT. What each named update of the state leaves as it was: one lemma per field per update, and the fields it sets.
-/

namespace Sys2Proof.Machine

@[simp] theorem State.notifyAll_now (s : State) (bs : List NoticeBody) : (s.notifyAll bs).now = s.now := rfl
@[simp] theorem State.notifyAll_held (s : State) (bs : List NoticeBody) : (s.notifyAll bs).held = s.held := rfl
@[simp] theorem State.notifyAll_settings (s : State) (bs : List NoticeBody) : (s.notifyAll bs).settings = s.settings := rfl
@[simp] theorem State.notifyAll_pfu (s : State) (bs : List NoticeBody) : (s.notifyAll bs).pfu = s.pfu := rfl
@[simp] theorem State.notifyAll_store (s : State) (bs : List NoticeBody) : (s.notifyAll bs).store = s.store := rfl
@[simp] theorem State.notifyAll_ctc (s : State) (bs : List NoticeBody) : (s.notifyAll bs).ctc = s.ctc := rfl
@[simp] theorem State.notifyAll_hlu (s : State) (bs : List NoticeBody) : (s.notifyAll bs).hlu = s.hlu := rfl
@[simp] theorem State.notifyAll_fdu (s : State) (bs : List NoticeBody) : (s.notifyAll bs).fdu = s.fdu := rfl
@[simp] theorem State.notifyAll_clu (s : State) (bs : List NoticeBody) : (s.notifyAll bs).clu = s.clu := rfl
@[simp] theorem State.notifyAll_ilu (s : State) (bs : List NoticeBody) : (s.notifyAll bs).ilu = s.ilu := rfl
@[simp] theorem State.notifyAll_lmu (s : State) (bs : List NoticeBody) : (s.notifyAll bs).lmu = s.lmu := rfl
@[simp] theorem State.notifyAll_dsu (s : State) (bs : List NoticeBody) : (s.notifyAll bs).dsu = s.dsu := rfl
@[simp] theorem State.notifyAll_lines (s : State) (bs : List NoticeBody) : (s.notifyAll bs).lines = s.lines := rfl
@[simp] theorem State.notifyAll_free (s : State) (bs : List NoticeBody) : (s.notifyAll bs).free = s.free := rfl
@[simp] theorem State.notifyAll_pending (s : State) (bs : List NoticeBody) : (s.notifyAll bs).pending = s.pending := rfl

@[simp] theorem State.notify_now (s : State) (b : NoticeBody) : (s.notify b).now = s.now := rfl
@[simp] theorem State.notify_held (s : State) (b : NoticeBody) : (s.notify b).held = s.held := rfl
@[simp] theorem State.notify_settings (s : State) (b : NoticeBody) : (s.notify b).settings = s.settings := rfl
@[simp] theorem State.notify_pfu (s : State) (b : NoticeBody) : (s.notify b).pfu = s.pfu := rfl
@[simp] theorem State.notify_store (s : State) (b : NoticeBody) : (s.notify b).store = s.store := rfl
@[simp] theorem State.notify_ctc (s : State) (b : NoticeBody) : (s.notify b).ctc = s.ctc := rfl
@[simp] theorem State.notify_hlu (s : State) (b : NoticeBody) : (s.notify b).hlu = s.hlu := rfl
@[simp] theorem State.notify_fdu (s : State) (b : NoticeBody) : (s.notify b).fdu = s.fdu := rfl
@[simp] theorem State.notify_clu (s : State) (b : NoticeBody) : (s.notify b).clu = s.clu := rfl
@[simp] theorem State.notify_ilu (s : State) (b : NoticeBody) : (s.notify b).ilu = s.ilu := rfl
@[simp] theorem State.notify_lmu (s : State) (b : NoticeBody) : (s.notify b).lmu = s.lmu := rfl
@[simp] theorem State.notify_dsu (s : State) (b : NoticeBody) : (s.notify b).dsu = s.dsu := rfl
@[simp] theorem State.notify_lines (s : State) (b : NoticeBody) : (s.notify b).lines = s.lines := rfl
@[simp] theorem State.notify_free (s : State) (b : NoticeBody) : (s.notify b).free = s.free := rfl
@[simp] theorem State.notify_pending (s : State) (b : NoticeBody) : (s.notify b).pending = s.pending := rfl

@[simp] theorem State.gates_now (s : State) : (s.gates).now = s.now := rfl
@[simp] theorem State.gates_held (s : State) : (s.gates).held = s.held := rfl
@[simp] theorem State.gates_settings (s : State) : (s.gates).settings = s.settings := rfl
@[simp] theorem State.gates_pfu (s : State) : (s.gates).pfu = s.pfu := rfl
@[simp] theorem State.gates_store (s : State) : (s.gates).store = s.store := rfl
@[simp] theorem State.gates_ctc (s : State) : (s.gates).ctc = s.ctc := rfl
@[simp] theorem State.gates_hlu (s : State) : (s.gates).hlu = s.hlu := rfl
@[simp] theorem State.gates_fdu (s : State) : (s.gates).fdu = s.fdu := rfl
@[simp] theorem State.gates_clu (s : State) : (s.gates).clu = s.clu := rfl
@[simp] theorem State.gates_lmu (s : State) : (s.gates).lmu = s.lmu := rfl
@[simp] theorem State.gates_dsu (s : State) : (s.gates).dsu = s.dsu := rfl
@[simp] theorem State.gates_lp (s : State) : (s.gates).lp = s.lp := rfl
@[simp] theorem State.gates_lines (s : State) : (s.gates).lines = s.lines := rfl
@[simp] theorem State.gates_free (s : State) : (s.gates).free = s.free := rfl
@[simp] theorem State.gates_pending (s : State) : (s.gates).pending = s.pending := rfl

@[simp] theorem State.putClu_now (s : State) (o : CluOut) : (s.putClu o).now = s.now := rfl
@[simp] theorem State.putClu_held (s : State) (o : CluOut) : (s.putClu o).held = s.held := rfl
@[simp] theorem State.putClu_settings (s : State) (o : CluOut) : (s.putClu o).settings = s.settings := rfl
@[simp] theorem State.putClu_pfu (s : State) (o : CluOut) : (s.putClu o).pfu = s.pfu := rfl
@[simp] theorem State.putClu_store (s : State) (o : CluOut) : (s.putClu o).store = s.store := rfl
@[simp] theorem State.putClu_ctc (s : State) (o : CluOut) : (s.putClu o).ctc = s.ctc := rfl
@[simp] theorem State.putClu_hlu (s : State) (o : CluOut) : (s.putClu o).hlu = s.hlu := rfl
@[simp] theorem State.putClu_ilu (s : State) (o : CluOut) : (s.putClu o).ilu = s.ilu := rfl
@[simp] theorem State.putClu_lmu (s : State) (o : CluOut) : (s.putClu o).lmu = s.lmu := rfl
@[simp] theorem State.putClu_dsu (s : State) (o : CluOut) : (s.putClu o).dsu = s.dsu := rfl
@[simp] theorem State.putClu_lines (s : State) (o : CluOut) : (s.putClu o).lines = s.lines := rfl
@[simp] theorem State.putClu_free (s : State) (o : CluOut) : (s.putClu o).free = s.free := rfl
@[simp] theorem State.putClu_pending (s : State) (o : CluOut) : (s.putClu o).pending = s.pending := rfl

@[simp] theorem State.putFdu_now (s : State) (o : FduOut) : (s.putFdu o).now = s.now := rfl
@[simp] theorem State.putFdu_held (s : State) (o : FduOut) : (s.putFdu o).held = s.held := rfl
@[simp] theorem State.putFdu_settings (s : State) (o : FduOut) : (s.putFdu o).settings = s.settings := rfl
@[simp] theorem State.putFdu_pfu (s : State) (o : FduOut) : (s.putFdu o).pfu = s.pfu := rfl
@[simp] theorem State.putFdu_store (s : State) (o : FduOut) : (s.putFdu o).store = s.store := rfl
@[simp] theorem State.putFdu_ctc (s : State) (o : FduOut) : (s.putFdu o).ctc = s.ctc := rfl
@[simp] theorem State.putFdu_hlu (s : State) (o : FduOut) : (s.putFdu o).hlu = s.hlu := rfl
@[simp] theorem State.putFdu_clu (s : State) (o : FduOut) : (s.putFdu o).clu = s.clu := rfl
@[simp] theorem State.putFdu_ilu (s : State) (o : FduOut) : (s.putFdu o).ilu = s.ilu := rfl
@[simp] theorem State.putFdu_lmu (s : State) (o : FduOut) : (s.putFdu o).lmu = s.lmu := rfl
@[simp] theorem State.putFdu_dsu (s : State) (o : FduOut) : (s.putFdu o).dsu = s.dsu := rfl
@[simp] theorem State.putFdu_lines (s : State) (o : FduOut) : (s.putFdu o).lines = s.lines := rfl
@[simp] theorem State.putFdu_free (s : State) (o : FduOut) : (s.putFdu o).free = s.free := rfl
@[simp] theorem State.putFdu_pending (s : State) (o : FduOut) : (s.putFdu o).pending = s.pending := rfl

@[simp] theorem State.refresh_now (s : State) : (s.refresh).now = s.now := rfl
@[simp] theorem State.refresh_held (s : State) : (s.refresh).held = s.held := rfl
@[simp] theorem State.refresh_settings (s : State) : (s.refresh).settings = s.settings := rfl
@[simp] theorem State.refresh_store (s : State) : (s.refresh).store = s.store := rfl
@[simp] theorem State.refresh_ctc (s : State) : (s.refresh).ctc = s.ctc := rfl
@[simp] theorem State.refresh_hlu (s : State) : (s.refresh).hlu = s.hlu := rfl
@[simp] theorem State.refresh_fdu (s : State) : (s.refresh).fdu = s.fdu := rfl
@[simp] theorem State.refresh_clu (s : State) : (s.refresh).clu = s.clu := rfl
@[simp] theorem State.refresh_ilu (s : State) : (s.refresh).ilu = s.ilu := rfl
@[simp] theorem State.refresh_lmu (s : State) : (s.refresh).lmu = s.lmu := rfl
@[simp] theorem State.refresh_dsu (s : State) : (s.refresh).dsu = s.dsu := rfl
@[simp] theorem State.refresh_lp (s : State) : (s.refresh).lp = s.lp := rfl
@[simp] theorem State.refresh_lines (s : State) : (s.refresh).lines = s.lines := rfl
@[simp] theorem State.refresh_free (s : State) : (s.refresh).free = s.free := rfl
@[simp] theorem State.refresh_pending (s : State) : (s.refresh).pending = s.pending := rfl

@[simp] theorem State.drawn_now (s : State) : (s.drawn).now = s.now := rfl
@[simp] theorem State.drawn_held (s : State) : (s.drawn).held = s.held := rfl
@[simp] theorem State.drawn_settings (s : State) : (s.drawn).settings = s.settings := rfl
@[simp] theorem State.drawn_pfu (s : State) : (s.drawn).pfu = s.pfu := rfl
@[simp] theorem State.drawn_store (s : State) : (s.drawn).store = s.store := rfl
@[simp] theorem State.drawn_ctc (s : State) : (s.drawn).ctc = s.ctc := rfl
@[simp] theorem State.drawn_hlu (s : State) : (s.drawn).hlu = s.hlu := rfl
@[simp] theorem State.drawn_fdu (s : State) : (s.drawn).fdu = s.fdu := rfl
@[simp] theorem State.drawn_clu (s : State) : (s.drawn).clu = s.clu := rfl
@[simp] theorem State.drawn_ilu (s : State) : (s.drawn).ilu = s.ilu := rfl
@[simp] theorem State.drawn_lmu (s : State) : (s.drawn).lmu = s.lmu := rfl
@[simp] theorem State.drawn_dsu (s : State) : (s.drawn).dsu = s.dsu := rfl
@[simp] theorem State.drawn_lp (s : State) : (s.drawn).lp = s.lp := rfl
@[simp] theorem State.drawn_lines (s : State) : (s.drawn).lines = s.lines := rfl
@[simp] theorem State.drawn_pending (s : State) : (s.drawn).pending = s.pending := rfl

@[simp] theorem State.drive_now (s : State) : (s.drive).now = s.now := rfl
@[simp] theorem State.drive_held (s : State) : (s.drive).held = s.held := rfl
@[simp] theorem State.drive_settings (s : State) : (s.drive).settings = s.settings := rfl
@[simp] theorem State.drive_pfu (s : State) : (s.drive).pfu = s.pfu := rfl
@[simp] theorem State.drive_store (s : State) : (s.drive).store = s.store := rfl
@[simp] theorem State.drive_ctc (s : State) : (s.drive).ctc = s.ctc := rfl
@[simp] theorem State.drive_hlu (s : State) : (s.drive).hlu = s.hlu := rfl
@[simp] theorem State.drive_fdu (s : State) : (s.drive).fdu = s.fdu := rfl
@[simp] theorem State.drive_clu (s : State) : (s.drive).clu = s.clu := rfl
@[simp] theorem State.drive_ilu (s : State) : (s.drive).ilu = s.ilu := rfl
@[simp] theorem State.drive_lmu (s : State) : (s.drive).lmu = s.lmu := rfl
@[simp] theorem State.drive_dsu (s : State) : (s.drive).dsu = s.dsu := rfl
@[simp] theorem State.drive_lp (s : State) : (s.drive).lp = s.lp := rfl
@[simp] theorem State.drive_free (s : State) : (s.drive).free = s.free := rfl
@[simp] theorem State.drive_pending (s : State) : (s.drive).pending = s.pending := rfl

@[simp] theorem State.pump_now (s : State) : (s.pump).now = s.now := rfl
@[simp] theorem State.pump_held (s : State) : (s.pump).held = s.held := rfl
@[simp] theorem State.pump_settings (s : State) : (s.pump).settings = s.settings := rfl
@[simp] theorem State.pump_pfu (s : State) : (s.pump).pfu = s.pfu := rfl
@[simp] theorem State.pump_store (s : State) : (s.pump).store = s.store := rfl
@[simp] theorem State.pump_ctc (s : State) : (s.pump).ctc = s.ctc := rfl
@[simp] theorem State.pump_hlu (s : State) : (s.pump).hlu = s.hlu := rfl
@[simp] theorem State.pump_fdu (s : State) : (s.pump).fdu = s.fdu := rfl
@[simp] theorem State.pump_clu (s : State) : (s.pump).clu = s.clu := rfl
@[simp] theorem State.pump_ilu (s : State) : (s.pump).ilu = s.ilu := rfl
@[simp] theorem State.pump_lmu (s : State) : (s.pump).lmu = s.lmu := rfl
@[simp] theorem State.pump_dsu (s : State) : (s.pump).dsu = s.dsu := rfl
@[simp] theorem State.pump_lines (s : State) : (s.pump).lines = s.lines := rfl
@[simp] theorem State.pump_pending (s : State) : (s.pump).pending = s.pending := rfl

@[simp] theorem State.finish_now (s : State) : (s.finish).now = s.now := rfl
@[simp] theorem State.finish_held (s : State) : (s.finish).held = s.held := rfl
@[simp] theorem State.finish_settings (s : State) : (s.finish).settings = s.settings := rfl
@[simp] theorem State.finish_pfu (s : State) : (s.finish).pfu = s.pfu := rfl
@[simp] theorem State.finish_store (s : State) : (s.finish).store = s.store := rfl
@[simp] theorem State.finish_ctc (s : State) : (s.finish).ctc = s.ctc := rfl
@[simp] theorem State.finish_hlu (s : State) : (s.finish).hlu = s.hlu := rfl
@[simp] theorem State.finish_fdu (s : State) : (s.finish).fdu = s.fdu := rfl
@[simp] theorem State.finish_clu (s : State) : (s.finish).clu = s.clu := rfl
@[simp] theorem State.finish_ilu (s : State) : (s.finish).ilu = s.ilu := rfl
@[simp] theorem State.finish_lmu (s : State) : (s.finish).lmu = s.lmu := rfl
@[simp] theorem State.finish_dsu (s : State) : (s.finish).dsu = s.dsu := rfl
@[simp] theorem State.finish_pending (s : State) : (s.finish).pending = s.pending := rfl

@[simp] theorem State.hunting_now (s : State) : (s.hunting).now = s.now := rfl
@[simp] theorem State.hunting_held (s : State) : (s.hunting).held = s.held := rfl
@[simp] theorem State.hunting_settings (s : State) : (s.hunting).settings = s.settings := rfl
@[simp] theorem State.hunting_pfu (s : State) : (s.hunting).pfu = s.pfu := rfl
@[simp] theorem State.hunting_store (s : State) : (s.hunting).store = s.store := rfl
@[simp] theorem State.hunting_ctc (s : State) : (s.hunting).ctc = s.ctc := rfl
@[simp] theorem State.hunting_hlu (s : State) : (s.hunting).hlu = s.hlu := rfl
@[simp] theorem State.hunting_fdu (s : State) : (s.hunting).fdu = s.fdu := rfl
@[simp] theorem State.hunting_clu (s : State) : (s.hunting).clu = s.clu := rfl
@[simp] theorem State.hunting_ilu (s : State) : (s.hunting).ilu = s.ilu := rfl
@[simp] theorem State.hunting_lmu (s : State) : (s.hunting).lmu = s.lmu := rfl
@[simp] theorem State.hunting_dsu (s : State) : (s.hunting).dsu = s.dsu := rfl
@[simp] theorem State.hunting_lines (s : State) : (s.hunting).lines = s.lines := rfl
@[simp] theorem State.hunting_free (s : State) : (s.hunting).free = s.free := rfl
@[simp] theorem State.hunting_pending (s : State) : (s.hunting).pending = s.pending := rfl

@[simp] theorem State.overrun_now (s : State) : (s.overrun).now = s.now := rfl
@[simp] theorem State.overrun_held (s : State) : (s.overrun).held = s.held := rfl
@[simp] theorem State.overrun_settings (s : State) : (s.overrun).settings = s.settings := rfl
@[simp] theorem State.overrun_pfu (s : State) : (s.overrun).pfu = s.pfu := rfl
@[simp] theorem State.overrun_store (s : State) : (s.overrun).store = s.store := rfl
@[simp] theorem State.overrun_ctc (s : State) : (s.overrun).ctc = s.ctc := rfl
@[simp] theorem State.overrun_hlu (s : State) : (s.overrun).hlu = s.hlu := rfl
@[simp] theorem State.overrun_fdu (s : State) : (s.overrun).fdu = s.fdu := rfl
@[simp] theorem State.overrun_clu (s : State) : (s.overrun).clu = s.clu := rfl
@[simp] theorem State.overrun_ilu (s : State) : (s.overrun).ilu = s.ilu := rfl
@[simp] theorem State.overrun_lmu (s : State) : (s.overrun).lmu = s.lmu := rfl
@[simp] theorem State.overrun_dsu (s : State) : (s.overrun).dsu = s.dsu := rfl
@[simp] theorem State.overrun_lines (s : State) : (s.overrun).lines = s.lines := rfl
@[simp] theorem State.overrun_free (s : State) : (s.overrun).free = s.free := rfl
@[simp] theorem State.overrun_pending (s : State) : (s.overrun).pending = s.pending := rfl

@[simp] theorem State.configure_now (s : State) (c : Settings) : (s.configure c).now = s.now := rfl
@[simp] theorem State.configure_held (s : State) (c : Settings) : (s.configure c).held = s.held := rfl
@[simp] theorem State.configure_pfu (s : State) (c : Settings) : (s.configure c).pfu = s.pfu := rfl
@[simp] theorem State.configure_store (s : State) (c : Settings) : (s.configure c).store = s.store := rfl
@[simp] theorem State.configure_ctc (s : State) (c : Settings) : (s.configure c).ctc = s.ctc := rfl
@[simp] theorem State.configure_hlu (s : State) (c : Settings) : (s.configure c).hlu = s.hlu := rfl
@[simp] theorem State.configure_fdu (s : State) (c : Settings) : (s.configure c).fdu = s.fdu := rfl
@[simp] theorem State.configure_clu (s : State) (c : Settings) : (s.configure c).clu = s.clu := rfl
@[simp] theorem State.configure_ilu (s : State) (c : Settings) : (s.configure c).ilu = s.ilu := rfl
@[simp] theorem State.configure_lmu (s : State) (c : Settings) : (s.configure c).lmu = s.lmu := rfl
@[simp] theorem State.configure_dsu (s : State) (c : Settings) : (s.configure c).dsu = s.dsu := rfl
@[simp] theorem State.configure_lp (s : State) (c : Settings) : (s.configure c).lp = s.lp := rfl
@[simp] theorem State.configure_lines (s : State) (c : Settings) : (s.configure c).lines = s.lines := rfl
@[simp] theorem State.configure_free (s : State) (c : Settings) : (s.configure c).free = s.free := rfl
@[simp] theorem State.configure_pending (s : State) (c : Settings) : (s.configure c).pending = s.pending := rfl

@[simp] theorem State.assertReset_now (s : State) (c : ResetCause) : (s.assertReset c).now = s.now := rfl
@[simp] theorem State.assertReset_settings (s : State) (c : ResetCause) : (s.assertReset c).settings = s.settings := rfl
@[simp] theorem State.assertReset_pfu (s : State) (c : ResetCause) : (s.assertReset c).pfu = s.pfu := rfl
@[simp] theorem State.assertReset_store (s : State) (c : ResetCause) : (s.assertReset c).store = s.store := rfl
@[simp] theorem State.assertReset_ctc (s : State) (c : ResetCause) : (s.assertReset c).ctc = s.ctc := rfl
@[simp] theorem State.assertReset_hlu (s : State) (c : ResetCause) : (s.assertReset c).hlu = s.hlu := rfl
@[simp] theorem State.assertReset_fdu (s : State) (c : ResetCause) : (s.assertReset c).fdu = s.fdu := rfl
@[simp] theorem State.assertReset_clu (s : State) (c : ResetCause) : (s.assertReset c).clu = s.clu := rfl
@[simp] theorem State.assertReset_lmu (s : State) (c : ResetCause) : (s.assertReset c).lmu = s.lmu := rfl
@[simp] theorem State.assertReset_dsu (s : State) (c : ResetCause) : (s.assertReset c).dsu = s.dsu := rfl
@[simp] theorem State.assertReset_free (s : State) (c : ResetCause) : (s.assertReset c).free = s.free := rfl
@[simp] theorem State.assertReset_pending (s : State) (c : ResetCause) : (s.assertReset c).pending = s.pending := rfl

@[simp] theorem State.tick_held (s : State) : (s.tick).held = s.held := rfl
@[simp] theorem State.tick_settings (s : State) : (s.tick).settings = s.settings := rfl
@[simp] theorem State.tick_store (s : State) : (s.tick).store = s.store := rfl
@[simp] theorem State.tick_hlu (s : State) : (s.tick).hlu = s.hlu := rfl
@[simp] theorem State.tick_fdu (s : State) : (s.tick).fdu = s.fdu := rfl
@[simp] theorem State.tick_clu (s : State) : (s.tick).clu = s.clu := rfl
@[simp] theorem State.tick_ilu (s : State) : (s.tick).ilu = s.ilu := rfl
@[simp] theorem State.tick_lmu (s : State) : (s.tick).lmu = s.lmu := rfl
@[simp] theorem State.tick_dsu (s : State) : (s.tick).dsu = s.dsu := rfl
@[simp] theorem State.tick_lp (s : State) : (s.tick).lp = s.lp := rfl
@[simp] theorem State.tick_lines (s : State) : (s.tick).lines = s.lines := rfl
@[simp] theorem State.tick_free (s : State) : (s.tick).free = s.free := rfl
@[simp] theorem State.tick_pending (s : State) : (s.tick).pending = s.pending := rfl

@[simp] theorem State.evacuateRecord_now (s : State) : (s.evacuateRecord).now = s.now := rfl
@[simp] theorem State.evacuateRecord_held (s : State) : (s.evacuateRecord).held = s.held := rfl
@[simp] theorem State.evacuateRecord_settings (s : State) : (s.evacuateRecord).settings = s.settings := rfl
@[simp] theorem State.evacuateRecord_store (s : State) : (s.evacuateRecord).store = s.store := rfl
@[simp] theorem State.evacuateRecord_ctc (s : State) : (s.evacuateRecord).ctc = s.ctc := rfl
@[simp] theorem State.evacuateRecord_hlu (s : State) : (s.evacuateRecord).hlu = s.hlu := rfl
@[simp] theorem State.evacuateRecord_fdu (s : State) : (s.evacuateRecord).fdu = s.fdu := rfl
@[simp] theorem State.evacuateRecord_clu (s : State) : (s.evacuateRecord).clu = s.clu := rfl
@[simp] theorem State.evacuateRecord_ilu (s : State) : (s.evacuateRecord).ilu = s.ilu := rfl
@[simp] theorem State.evacuateRecord_lmu (s : State) : (s.evacuateRecord).lmu = s.lmu := rfl
@[simp] theorem State.evacuateRecord_dsu (s : State) : (s.evacuateRecord).dsu = s.dsu := rfl
@[simp] theorem State.evacuateRecord_lines (s : State) : (s.evacuateRecord).lines = s.lines := rfl
@[simp] theorem State.evacuateRecord_free (s : State) : (s.evacuateRecord).free = s.free := rfl
@[simp] theorem State.evacuateRecord_pending (s : State) : (s.evacuateRecord).pending = s.pending := rfl

/-! ## The fields that the updates set -/

@[simp] theorem State.putClu_clu (o : CluOut) (s : State) : (s.putClu o).clu = o.clu := rfl
@[simp] theorem State.putClu_fdu (o : CluOut) (s : State) :
    (s.putClu o).fdu = { s.fdu with fire := s.fdu.fire.forget o.removed } := rfl
@[simp] theorem State.putFdu_fdu (o : FduOut) (s : State) : (s.putFdu o).fdu = o.fdu := rfl
@[simp] theorem State.gates_ilu (s : State) : s.gates.ilu = s.ilu.next s.iluView := rfl
@[simp] theorem State.drawn_free (s : State) : s.drawn.free = s.free + 1 := rfl
@[simp] theorem State.refresh_pfu (s : State) : s.refresh.pfu = s.pfu.refresh := rfl
@[simp] theorem State.configure_settings (c : Settings) (s : State) : (s.configure c).settings = c := rfl
@[simp] theorem State.finish_lines (s : State) : s.finish.lines = s.fieldLines := rfl
@[simp] theorem State.tick_now (s : State) : s.tick.now = s.now + 1 := rfl
@[simp] theorem State.assertReset_held (c : ResetCause) (s : State) : (s.assertReset c).held = some c := rfl
@[simp] theorem State.assertReset_ilu (c : ResetCause) (s : State) : (s.assertReset c).ilu = Ilu.reset := rfl
@[simp] theorem State.assertReset_lines (c : ResetCause) (s : State) : (s.assertReset c).lines = FieldLines.held := rfl

/-! ## Sub-records -/

@[simp] theorem Pfu.setPerf_perf (p : Perf) (f : Pfu) : (f.setPerf p).perf = p := rfl
@[simp] theorem Pfu.setPerf_runningCopy (p : Perf) (f : Pfu) : (f.setPerf p).runningCopy = f.runningCopy := rfl
@[simp] theorem Pfu.setPerf_table (p : Perf) (f : Pfu) : (f.setPerf p).table = f.table := rfl
@[simp] theorem Pfu.setPerf_expirySent (p : Perf) (f : Pfu) : (f.setPerf p).expirySent = f.expirySent := rfl
@[simp] theorem Pfu.refresh_perf (f : Pfu) : f.refresh.perf = f.perf := rfl
@[simp] theorem Pfu.refresh_runningCopy (f : Pfu) : f.refresh.runningCopy = f.runningCopy := rfl
@[simp] theorem Pfu.refresh_table (f : Pfu) : f.refresh.table = f.table := rfl
@[simp] theorem Pfu.refresh_expirySent (f : Pfu) : f.refresh.expirySent = f.expirySent := rfl
@[simp] theorem Pfu.setEntry_perf (i : Nat) (e : StepStatus) (f : Pfu) : (f.setEntry i e).perf = f.perf := rfl
@[simp] theorem Pfu.setEntry_runningCopy (i : Nat) (e : StepStatus) (f : Pfu) :
    (f.setEntry i e).runningCopy = f.runningCopy := rfl
@[simp] theorem Pfu.setEntry_table (i : Nat) (e : StepStatus) (f : Pfu) : (f.setEntry i e).table = f.table.set i e := rfl
@[simp] theorem Pfu.skip_perf (c : Step → Bool) (f : Pfu) : (f.skip c).1.perf = f.perf := rfl
@[simp] theorem Pfu.skip_runningCopy (c : Step → Bool) (f : Pfu) : (f.skip c).1.runningCopy = f.runningCopy := rfl
@[simp] theorem Pfu.skipInstance_perf (c : ClockId) (f : Pfu) : (f.skipInstance c).1.perf = f.perf := rfl
@[simp] theorem Pfu.skipInstance_runningCopy (c : ClockId) (f : Pfu) :
    (f.skipInstance c).1.runningCopy = f.runningCopy := rfl
@[simp] theorem Pfu.skipNeverReached_perf (f : Pfu) : f.skipNeverReached.1.perf = f.perf := rfl
@[simp] theorem Pfu.skipNeverReached_runningCopy (f : Pfu) : f.skipNeverReached.1.runningCopy = f.runningCopy := rfl
@[simp] theorem Pfu.skipAll_perf (f : Pfu) : f.skipAll.1.perf = f.perf := rfl
@[simp] theorem Pfu.skipAll_runningCopy (f : Pfu) : f.skipAll.1.runningCopy = f.runningCopy := rfl
@[simp] theorem Fdu.setFire_fire (r : FireRecord) (f : Fdu) : (f.setFire r).fire = r := rfl
@[simp] theorem Fdu.setFire_devices (r : FireRecord) (f : Fdu) : (f.setFire r).devices = f.devices := rfl
@[simp] theorem Fdu.setFire_isolation (r : FireRecord) (f : Fdu) : (f.setFire r).isolation = f.isolation := rfl
@[simp] theorem Fdu.setFire_status (r : FireRecord) (f : Fdu) : (f.setFire r).status = f.status := rfl
@[simp] theorem Fdu.modifyDevice_fire (a : Nat) (g : DeviceRecord → DeviceRecord) (f : Fdu) :
    (f.modifyDevice a g).fire = f.fire := rfl
@[simp] theorem Fdu.modifyDevice_isolation (a : Nat) (g : DeviceRecord → DeviceRecord) (f : Fdu) :
    (f.modifyDevice a g).isolation = f.isolation := rfl
@[simp] theorem FireRecord.forget_state (l : List Nat) (r : FireRecord) : (r.forget l).state = r.state := rfl
@[simp] theorem FireRecord.forget_silenced (l : List Nat) (r : FireRecord) : (r.forget l).silenced = r.silenced := rfl
@[simp] theorem FireRecord.forget_walk (l : List Nat) (r : FireRecord) : (r.forget l).walk = r.walk := rfl
@[simp] theorem FireRecord.forget_timer (l : List Nat) (r : FireRecord) : (r.forget l).timer = r.timer := rfl
@[simp] theorem FireRecord.forget_nil (r : FireRecord) : r.forget [] = r := by
  obtain ⟨_, _, _, _, _, _, a, b, _, _⟩ := r
  cases a <;> cases b <;> rfl
@[simp] theorem Gate.next_demand (n : Nat) (d : Bool) (f : List Forcing) (g : Gate) : (g.next n d f).demand = d := rfl
@[simp] theorem Gate.next_forcing (n : Nat) (d : Bool) (f : List Forcing) (g : Gate) : (g.next n d f).forcing = f := rfl
@[simp] theorem Gate.next_line (n : Nat) (d : Bool) (f : List Forcing) (g : Gate) :
    (g.next n d f).line = (d && f.isEmpty) := rfl
@[simp] theorem Gate.next_denied (n : Nat) (d : Bool) (f : List Forcing) (g : Gate) :
    (g.next n d f).denied = (d && !f.isEmpty) := rfl

end Sys2Proof.Machine
end

