-- ==== Sys2Proof/Laws/Reactions.lean ====
section
/-!
SUPPORT. What each shared operation can do, said once: the reactions of the blocks to one another leave the rest of the part
as it was (`Kept`), the two frames of a command's meaning, and what the gates are after an operation.
-/

namespace Sys2Proof.Machine

theorem State.notifyAll_append (s : State) (bs cs : List NoticeBody) :
    (s.notifyAll bs).notifyAll cs = s.notifyAll (bs ++ cs) := by
  simp [State.notifyAll, List.foldl_append]

theorem goodAt_eq_some {r : Reception} {e : Nat} : goodAt r = some e ↔
    (∃ t, r.firstByte = some t ∧ t ≤ 8000) ∧ r.complete = some e ∧ e ≤ 20000 ∧ r.lateByte = false ∧ r.bytes.total = 0 := by
  obtain ⟨_ | t, _ | c, l, b, n, o, f, x⟩ := r <;> simp [goodAt]
  exact ⟨fun ⟨⟨h, k⟩, rfl⟩ => ⟨h, rfl, k⟩, fun ⟨h, j, k⟩ => by subst j; exact ⟨⟨h, k⟩, rfl⟩⟩

theorem heard_eq_false {r : Reception} : heard r = false ↔ r.firstByte = none ∧ r.complete = none ∧ r.lateByte = false := by
  simp [heard, and_assoc]

end Sys2Proof.Machine

namespace Sys2Proof.Safety

open Sys2Proof.Machine

theorem Untouched.refl (s : State) : Untouched s s := ⟨rfl, rfl, rfl, rfl, rfl, rfl, rfl, rfl, rfl, id⟩

theorem Untouched.trans {s t u : State} (h : Untouched s t) (k : Untouched t u) : Untouched s u := by
  refine ⟨by rw [k.now, h.now], by rw [k.held, h.held], by rw [k.settings, h.settings], by rw [k.store, h.store],
    by rw [k.lmu, h.lmu], by rw [k.dsu, h.dsu], by rw [k.pending, h.pending], ?_, by rw [k.supply, h.supply],
    k.demand ∘ h.demand⟩
  rw [k.fire, h.fire]; rfl

theorem noneDue_iff {f : Pfu} : NoneDue f ↔ f.dueSteps = [] := by
  simp only [NoneDue, Pfu.dueSteps, List.filter_eq_nil_iff, List.mem_range, Pfu.isDue, Pfu.pendingStep]
  refine ⟨fun h i _ k => ?_, fun h i st ht hs hr => ?_⟩
  · split at k
    · rename_i st hp
      by_cases ht : f.table[i]? = some .pending
      · simp only [Perf.reached, Perf.dueTime, Bool.and_eq_true, decide_eq_true_eq] at k
        exact absurd (h i st ht (by simpa [ht] using hp) k.1) (not_lt.2 (of_decide_eq_true k.2))
      · simp [ht] at hp
    · cases k
  · have k := h i (List.getElem?_eq_some_iff.1 ht).1
    simp only [ht, hs, if_true, Perf.reached, Perf.dueTime, hr, decide_true, Bool.true_and] at k
    exact not_le.1 fun e => k (decide_eq_true e)

theorem TableFollows.refl (f : Pfu) : TableFollows f f := ⟨rfl, fun _ _ h _ => h⟩

theorem TableFollows.trans {f g h : Pfu} (a : TableFollows f g) (b : TableFollows g h) : TableFollows f h :=
  ⟨b.length.trans a.length, fun i e hi he => b.settled i e (a.settled i e hi he) he⟩

theorem RecordIs.refl (r : Perf) : RecordIs r r := ⟨rfl, id⟩

theorem RecordIs.trans {p q r : Perf} (a : RecordIs p q) (b : RecordIs q r) : RecordIs p r := by
  refine ⟨?_, b.2 ∘ a.2⟩
  rw [b.1, a.1]

/-- A change of the parts a reaction may touch. -/
theorem Kept.of_untouched {s t : State} (h : Untouched s t) (hl : t.lines = s.lines) (hp : t.pfu = s.pfu)
    (hn : ∃ bs, t.lp = (s.notifyAll bs).lp) : Kept s t :=
  ⟨h, hl, by rw [hp], by rw [hp], hp ▸ TableFollows.refl _, by rw [hp]; exact RecordIs.refl _, hn⟩

theorem Kept.refl (s : State) : Kept s s := Kept.of_untouched (Untouched.refl s) rfl rfl ⟨[], rfl⟩

theorem Kept.trans {s t u : State} (h : Kept s t) (k : Kept t u) : Kept s u := by
  obtain ⟨bs, hb⟩ := h.notices
  obtain ⟨cs, hc⟩ := k.notices
  refine ⟨h.untouched.trans k.untouched, k.lines.trans h.lines, k.runningCopy.trans h.runningCopy,
    k.expirySent.trans h.expirySent, h.table.trans k.table, h.record.trans k.record, bs ++ cs, ?_⟩
  rw [hc, ← State.notifyAll_append]
  simp only [State.notifyAll, hb, h.untouched.now]

theorem Kept.foldl {α : Type} {f : State → α → State} (hf : ∀ s a, Kept s (f s a)) (l : List α) (s : State) :
    Kept s (l.foldl f s) := by
  induction l generalizing s with
  | nil => exact Kept.refl s
  | cons a l ih => exact (hf s a).trans (ih _)

end Sys2Proof.Safety

namespace Sys2Proof.Machine

open Sys2Proof.Safety

theorem State.notifyAll_kept (s : State) (bs : List NoticeBody) : Kept s (s.notifyAll bs) :=
  Kept.of_untouched ⟨rfl, rfl, rfl, rfl, rfl, rfl, rfl, rfl, rfl, id⟩ rfl rfl ⟨bs, rfl⟩

theorem State.notify_kept (s : State) (b : NoticeBody) : Kept s (s.notify b) := State.notifyAll_kept s [b]

theorem State.gates_kept (s : State) : Kept s s.gates :=
  Kept.of_untouched ⟨rfl, rfl, rfl, rfl, rfl, rfl, rfl, rfl, rfl, id⟩ rfl rfl ⟨[], rfl⟩

theorem State.putClu_kept (o : CluOut) (s : State) : Kept s (s.putClu o) :=
  Kept.of_untouched ⟨rfl, rfl, rfl, rfl, rfl, rfl, rfl, rfl, rfl, id⟩ rfl rfl ⟨o.notes, rfl⟩

theorem State.takeCuts_kept (s : State) : Kept s s.takeCuts := by
  unfold State.takeCuts
  split
  · exact Kept.refl s
  · exact (State.putClu_kept _ s).trans (State.gates_kept _)

theorem State.takeDrop_kept (w : Bool) (s : State) : Kept s (s.takeDrop w) := by
  unfold State.takeDrop
  split
  · exact Kept.of_untouched ⟨rfl, rfl, rfl, rfl, rfl, rfl, rfl, rfl, rfl, fun _ => rfl⟩ rfl rfl ⟨[], rfl⟩
  · exact Kept.refl s

theorem State.regate_kept (s : State) : Kept s s.regate :=
  ((State.gates_kept s).trans (State.takeDrop_kept _ _)).trans (State.takeCuts_kept _)

theorem State.withClu_kept (f : Clu → CluOut) (s : State) : Kept s (s.withClu f) :=
  (State.putClu_kept _ s).trans (State.regate_kept _)

theorem State.putCtc_kept (c : Ctc) (bs : List NoticeBody) (s : State) :
    Kept s (State.notifyAll bs { s with ctc := c }) :=
  Kept.of_untouched ⟨rfl, rfl, rfl, rfl, rfl, rfl, rfl, rfl, rfl, id⟩ rfl rfl ⟨bs, rfl⟩

theorem State.moveCurtain_kept (f : CtcEnv → Ctc → CtcOut) (s : State) : Kept s (s.moveCurtain f).1 :=
  (State.putCtc_kept _ _ s).trans (State.regate_kept _)

theorem State.takeArrival_kept (r : CtcReport) (s : State) : Kept s (s.takeArrival r) := by
  unfold State.takeArrival
  split
  · split
    · exact ⟨⟨rfl, rfl, rfl, rfl, rfl, rfl, rfl, rfl, rfl, id⟩, rfl, rfl, rfl, ⟨rfl, fun _ _ h _ => h⟩, ⟨rfl, fun _ => rfl⟩,
        [_], rfl⟩
    · exact Kept.refl s
  · exact Kept.refl s

theorem State.move_kept (f : CtcEnv → Ctc → CtcOut) (s : State) : Kept s (s.move f) :=
  (State.moveCurtain_kept f s).trans (Kept.foldl (fun s r => State.takeArrival_kept r s) _ _)

theorem State.placeCall_kept (src : Source) (t : Template) (s : State) : Kept s (s.placeCall src t).1 :=
  (State.putClu_kept _ s).trans (State.regate_kept _)

theorem State.announce_kept (n : Nat) (f : Template → Template) (s : State) : Kept s (s.announce n f).1 := by
  unfold State.announce
  split
  · exact Kept.refl s
  · exact State.placeCall_kept _ _ s

theorem State.cancelKept_kept (id : Option Nat) (s : State) : Kept s (s.cancelKept id).1 := by
  unfold State.cancelKept
  split
  · exact Kept.refl s
  · split
    · exact State.withClu_kept _ s
    · exact Kept.refl s

theorem State.unlessRefused_kept {f : State → State} (hf : ∀ s, Kept s (f s)) (r : Option Reason) (s : State) :
    Kept s (s.unlessRefused r f).1 := by
  unfold State.unlessRefused
  split
  · exact Kept.refl s
  · exact hf s

theorem State.startRaise_kept (s : State) : Kept s s.startRaise := by
  dsimp only [State.startRaise]
  split
  · exact (State.move_kept _ s).trans (State.move_kept _ _)
  · exact State.move_kept _ s

theorem State.decideRaise_kept (s : State) : Kept s s.decideRaise.1 := State.unlessRefused_kept State.startRaise_kept _ s
theorem State.decideLower_kept (s : State) : Kept s s.decideLower.1 := State.unlessRefused_kept (State.move_kept _) _ s
theorem State.decideTest_kept (s : State) : Kept s s.decideTest.1 := State.unlessRefused_kept (State.move_kept _) _ s

theorem State.decideGo_kept (p t : Nat) (s : State) : Kept s (s.decideGo p t).1 := by
  unfold State.decideGo
  split
  · exact Kept.refl s
  · split
    · exact Kept.refl s
    · exact Kept.of_untouched ⟨rfl, rfl, rfl, rfl, rfl, rfl, rfl, rfl, rfl, id⟩ rfl rfl ⟨[], rfl⟩

theorem State.decideHouseFull_kept (s : State) : Kept s s.decideHouseFull.1 := by
  unfold State.decideHouseFull
  split
  · exact Kept.refl s
  · exact Kept.of_untouched ⟨rfl, rfl, rfl, rfl, rfl, rfl, rfl, rfl, rfl, id⟩ rfl rfl ⟨[], rfl⟩

theorem State.issueAction_kept (i : Nat) (a : StepAction) (s : State) : Kept s (s.issueAction i a).1 := by
  cases a with
  | call n => exact State.placeCall_kept _ _ s
  | bell p z => exact State.placeCall_kept _ _ s
  | lights p t => exact State.decideGo_kept p t s
  | curtainLower => exact State.decideLower_kept s
  | curtainRaise => exact State.decideRaise_kept s
  | curtainTest => exact State.decideTest_kept s
  | note c => exact State.notify_kept s _

/-- After a reaction, an entry that was PENDING before it is set. -/
theorem State.setEntry_kept {i : Nat} (e : StepStatus) {s t : State} (hi : s.pfu.table[i]? = some .pending) (h : Kept s t) :
    Kept s { t with pfu := (t.pfu.setEntry i e).refresh } := by
  refine ⟨⟨h.1.1, h.1.2, h.1.3, h.1.4, h.1.5, h.1.6, h.1.7, h.1.8, h.1.9, h.1.10⟩, h.lines, h.runningCopy, h.expirySent,
    ⟨?_, fun j d hj hd => ?_⟩, h.record, h.notices⟩
  · simp [h.table.length]
  · simp only [Pfu.refresh_table, Pfu.setEntry_table]
    rw [List.getElem?_set_ne]
    · exact h.table.settled j d hj hd
    · rintro rfl
      exact hd (by simpa [hj] using hi)

theorem Pfu.pendingStep_pending {f : Pfu} {i : Nat} {st : Step} (h : f.pendingStep i = some st) :
    f.table[i]? = some .pending := by
  unfold Pfu.pendingStep at h
  split at h
  · assumption
  · cases h

theorem State.issueStep_kept (i : Nat) (s : State) : Kept s (s.issueStep i) := by
  unfold State.issueStep
  split
  · exact Kept.refl s
  · next st h =>
    split
    · exact (State.setEntry_kept _ (Pfu.pendingStep_pending h) (State.issueAction_kept i _ s)).trans
        (State.notify_kept _ _)
    · exact Kept.refl s

theorem State.issueSteps_kept (is : List Nat) (s : State) : Kept s (s.issueSteps is) :=
  Kept.foldl (fun s i => State.issueStep_kept i s) is s

theorem State.issueDue_kept (s : State) : Kept s s.issueDue := State.issueSteps_kept _ s

theorem State.loadMap_kept (s : State) : Kept s s.loadMap := by
  unfold State.loadMap
  split
  · split
    · exact Kept.refl s
    · refine Kept.of_untouched ⟨rfl, rfl, rfl, rfl, rfl, rfl, rfl, rfl, ?_, ?_⟩ rfl rfl ⟨[], rfl⟩ <;>
        simp only [Hlu.loadMap] <;> split <;> simp_all [Hlu.start]
  · exact Kept.refl s

theorem State.drawn_kept (s : State) : Kept s s.drawn :=
  Kept.of_untouched ⟨rfl, rfl, rfl, rfl, rfl, rfl, rfl, rfl, rfl, id⟩ rfl rfl ⟨[], rfl⟩

theorem State.loadAndIssue_kept (s : State) : Kept s s.loadAndIssue := by
  unfold State.loadAndIssue
  simp only
  split
  · exact (((State.drawn_kept s).trans (State.issueSteps_kept _ _)).trans (State.loadMap_kept _)).trans
      (State.issueSteps_kept _ _)
  · exact (State.loadMap_kept s).trans (State.issueSteps_kept _ _)

theorem State.stopFade_kept (s : State) : Kept s s.stopFade := by
  unfold State.stopFade
  split
  · exact Kept.refl s
  · exact Kept.of_untouched ⟨rfl, rfl, rfl, rfl, rfl, rfl, rfl, rfl, rfl, id⟩ rfl rfl ⟨[], rfl⟩

/-- A change of phase: the record and the table are as `change` gives them, its notices and then the PHASE notice are sent,
and what follows is a reaction. -/
theorem State.changePhase_kept (cause : PhaseCause) (change : Pfu → Pfu × List NoticeBody) (s : State) :
    Kept (State.notifyAll ((change s.pfu).2 ++ [(change s.pfu).1.perf.phaseNote cause none])
      { s with pfu := (change s.pfu).1.refresh }) (s.changePhase cause change) := by
  unfold State.changePhase
  simp only [State.notify, State.notifyAll_append]
  exact (State.regate_kept _).trans (State.loadAndIssue_kept _)

end Sys2Proof.Machine
end

