-- ==== Sys2Proof/WellFormed.lean ====
section
/-!
DEFINITION. Which commands can stand on the link and the field lines: every field of a request fits the bytes that carry it
(11.7, TABLE LXX, TABLE LXXI), every body fits one frame (R191), and every event's operand lies in the range its rule gives.
A field that fits its byte may still lie outside its range: that is for the owning block to refuse.
-/

namespace Sys2Proof

/-- The value fits one byte. -/
def fitsByte (n : Nat) : Bool := n < 256

/-- The value fits two bytes. -/
def fitsWord (n : Nat) : Bool := n < 65536

/-- A lighting-map entry of TABLE LXX. -/
def MapEntry.ok (e : MapEntry) : Bool := fitsByte e.preset && fitsWord e.fade

/-- A header of TABLE LXX: 34 bytes. -/
def PlanHeader.ok (h : PlanHeader) : Bool :=
  h.name.length == 12 && h.name.all fitsByte && fitsByte h.acts && fitsWord h.interval1 && fitsWord h.interval2 &&
    fitsWord h.interval3 && h.prepare.ok && h.houseOpen.ok && h.running.ok && h.interval.ok && h.closed.ok

/-- A step record of TABLE LXX: 8 bytes, the offset signed. -/
def StepRecord.ok (r : StepRecord) : Bool :=
  fitsByte r.anchor && decide (-32768 ≤ r.offset) && decide (r.offset < 32768) && fitsByte r.action && fitsByte r.argument &&
    fitsWord r.fade

/-- A call body of TABLE LXXI. -/
def CallBody.ok (b : CallBody) : Bool :=
  fitsByte b.cls && fitsByte b.slot && fitsByte b.bell && fitsByte b.repeats && fitsByte b.gap

/-- The four bytes of a loop reply (R111). -/
def ReplyBytes.ok (b : ReplyBytes) : Bool := fitsByte b.typeCode && fitsByte b.value && fitsByte b.status && fitsByte b.sum

/-- The moments of a reception lie within the slot of 25 ms, in order, and its reply is of four bytes (R111, R112). -/
def Reception.ok (r : Reception) : Bool :=
  r.bytes.ok && (match r.firstByte with
    | some t => t < 25000
    | none => r.complete.isNone && !r.lateByte) &&
  (match r.firstByte, r.complete with
    | some t, some e => t ≤ e && e < 25000
    | none, some _ => false
    | _, none => true)

/-- A command is well formed. -/
def Instr.wf : Instr → Bool
  | .planOpen _ h => h.ok
  | .planPut _ first count rs => fitsByte first && fitsByte count && rs.length ≤ 7 && rs.all StepRecord.ok
  | .planSeal _ count => fitsByte count
  | .planRead _ (.slots first count) => fitsByte first && fitsByte count
  | .stepRead first count => fitsByte first && fitsByte count
  | .extend seconds => fitsWord seconds
  | .encoderCountChange count => fitsWord count
  | .presetWrite preset levels => fitsByte preset && levels.length == 12 && levels.all fitsWord
  | .lightsGo preset fade => fitsByte preset && fitsWord fade
  | .fadeEvaluation channel => channel < 12
  | .pollSlotEnd a b => a.ok && b.ok
  | .walkIndicationExpiry a => 1 ≤ a && a ≤ 64
  | .deviceRead a => fitsByte a
  | .deviceCounts first count => fitsByte first && fitsByte count
  | .zoneIsolate zone seconds => fitsByte zone && fitsWord seconds
  | .zoneRestore zone => fitsByte zone
  | .isolationExpiry zone => 1 ≤ zone && zone ≤ 16
  | .walkTest zone => fitsByte zone
  | .templateWrite n b => fitsByte n && b.ok
  | .call b => b.ok
  | .callTemplate n => fitsByte n
  | .readyTime id => 1 ≤ id && id ≤ 255
  | .callCancel id => fitsByte id
  | .queueRead first count => fitsByte first && fitsByte count
  | .lineConversion code => code < 1024
  | .unknownKind (.notRequest code) => fitsByte code
  | .frameRejected f => f.received.all fitsByte && f.received.length ≤ 62
  | .planRead _ .header | .unknownKind (.badLength _) | .resetAssert _ | .resetRelease | .arm _ | .openHouse | .begin | .interval
  | .endShow | .showStop | .resume | .evacuate | .close | .disarm | .performanceRead | .planErase _ | .storeOperationEnd _
  | .stepDue | .intervalExpired | .curtainRaise | .curtainLower | .curtainTest | .curtainHalt | .curtainClear | .curtainRead
  | .topChange _ | .overtravelChange _ | .floorChange _ | .edgeTrip _ | .obstructionHoldEnd | .raiseTimeout | .stopWarningEnd
  | .floorTimerExpiry | .descentWindow | .timeOnlyLate | .houseFull | .lightsRestore | .lightsRead _ | .pollSlotStart
  | .continuityDue | .continuityResult _ | .fireTimerExpiry | .fireAck | .fireFull | .fireSilence | .fireReset | .walkTestEnd
  | .fireRead _ | .settlingEnd | .bellSegmentEnd | .playStrobeEnd | .busyRise | .busyFall | .noStart | .speakingLimitExpiry
  | .stopStrobeEnd | .stopTimeout | .announcerReset | .interlockRead | .sampleRead | .columnRead _ | .debounceExpiry
  | .longTimerExpiry | .refusedIndicationExpiry | .flashHalfPeriod | .deskRead | .frameTimeout
  | .frameOverrun | .outboundFrameSent | .identify | .linkCounts | .status | .restart | .configSet _ | .configGet _
  | .configStore | .frameSync | .stepDueWithin60S => true

end Sys2Proof
end

