-- ==== Sys2Proof/Tests/Slice0.lean ====
section
/-!
SUPPORT. The model's own tests: ill-formed commands that the checks refuse, steps against the manual's worked examples and
tables, and for each statement a state and operands that meet the hypotheses of its clauses.
-/

namespace Sys2Proof.Tests

open Sys2Proof.Machine Sys2Proof.Safety

-- The tests are checked one after another: side by side they would take no less time and far more memory.
set_option Elab.async false

/-! ## States the tests start from -/

/-- The part after reset, once the host has taken the notices of the reset. -/
def base : State := { State.reset with lp := Lp.reset true }

/-- The map entry "no change". -/
def asIs : MapEntry := { preset := 255, fade := 0 }

/-- A header of two acts with an interval of 600 s. -/
def header : PlanHeader :=
  { name := List.replicate 12 65, acts := 2, interval1 := 600, interval2 := 0, interval3 := 0, prepare := { preset := 3, fade := 10 },
    houseOpen := asIs, running := asIs, interval := asIs, closed := asIs }

/-- A plan of three steps: a note 10 s into act 1, a note at the house's opening, a note 60 s before the interval's end. -/
def records : List StepRecord :=
  [ { anchor := 1, offset := 10, action := 6, argument := 7, zones := 0, fade := 0 },
    { anchor := 0, offset := 0, action := 6, argument := 8, zones := 0, fade := 0 },
    { anchor := 5, offset := 5, action := 6, argument := 9, zones := 0, fade := 0 } ]

theorem test_records_valid : (records.mapM (stepOf 2)).isSome = true := by decide +kernel

def steps : List Step := (records.mapM (stepOf 2)).getD []

def plan : RunningCopy := { header, steps }

def sealedA : PlanSector :=
  { state := .sealed, header := some header, slots := records.map Slot.written ++ List.replicate 45 .blank, count := 3,
    check := planCheck header records }

theorem test_sealed_copy : sealedA.runningCopy = some plan := by decide +kernel

/-- The gates and the field lines follow. -/
def settle (s : State) : State := let s := s.gates; { s with lines := s.fieldLines }

/-- An instance that runs in a phase. -/
def clocksIn (p : Phase) : Clocks :=
  let run (b : Bool) (value : Nat) : AnchorClock := if b then { run := .running, value } else AnchorClock.fresh
  { Clocks.fresh with
    houseOpen := run (p = .houseOpen) 1000,
    act1 := if p = .stopped ∨ p = .resuming then { run := .paused, value := 5000 } else run (p = .running) 5000,
    interval1 := run (p = .interval) 590000, closed := run (p = .closed) 0 }

/-- The part in a phase, with plan A armed outside DARK, the curtain up and proven, and no override; in EVACUATE with the curtain
down under the override. -/
def inPhase (p : Phase) : State :=
  settle { base with
    store := { base.store with planA := sealedA },
    hlu := { Hlu.reset with emergencyDemand := p = .evacuate },
    ctc := if p = .evacuate then Ctc.reset 0 true false false false
      else { Ctc.reset 36000 false true false false with state := .up },
    pfu :=
      { perf :=
          { plan := if p = .dark then none else some .a, phase := p,
            act := if p = .running ∨ p = .interval ∨ p = .resuming ∨ p = .stopped then 1 else 0, acts := if p = .dark then 0 else 2,
            intervalNo := if p = .interval then 1 else 0, intervalLen := if p = .interval then 600 else 0,
            proven := p ≠ .dark, stopCause := if p = .stopped then .link else .none,
            resume := if p = .stopped then some .resuming else none, stops := if p = .stopped then 1 else 0,
            clocks := clocksIn p, entry := 0 },
        runningCopy := if p = .dark then none else some plan,
        table := if p = .dark then [] else List.replicate 3 .pending, expirySent := false, stepDueSoon := false } }

/-- The same with another curtain. -/
def curtain (p : Phase) (f : Ctc → Ctc) : State := let s := inPhase p; settle { s with ctc := f s.ctc }

/-- The same with another fire unit. -/
def fire (p : Phase) (f : Fdu → Fdu) : State := let s := inPhase p; settle { s with fdu := f s.fdu }

/-- The same with other calls. -/
def calls (p : Phase) (f : Clu → Clu) : State := let s := inPhase p; settle { s with clu := f s.clu }

/-- The same with another line monitor. -/
def monitor (p : Phase) (n : Nat) (l : LimitState) : State :=
  let s := inPhase p
  settle { s with lmu := { s.lmu with channels := s.lmu.channels.modify n fun c => { c with state := l } } }

/-! ## What the states meet -/

/-- Every condition that a step keeps, and that LP can take a request. -/
structure Ready (s : State) : Prop where
  admits  : Admits s
  gates   : GatesCurrent s
  lines   : LinesDriven s
  plan    : PlanOk s.pfu.perf
  curtain : CurtainOk s.ctc
  falls   : CurtainFalls s
  full    : FullPhase s
  bright  : OverrideFull s
  queue   : QueueOk s.clu
  entries : EntriesOk s.clu
  bounds  : BoundsOk s
  watch   : s.fdu.watch.Nodup
  link    : LinkOk s.lp
  lock    : s.store.inFlight = none

def readyB (s : State) : Bool :=
  decide (s.held = none ∧ s.lp.restarting = false ∧ s.lp.inbound.length < 2) &&
  decide (s.ilu.next s.iluView = s.ilu ∧ s.ilu.deniedZones = 0) && decide (s.lines = s.fieldLines) &&
  decide (s.pfu.perf.plan = none ↔ s.phase = .dark) &&
  decide ((s.ctc.descent.isSome = true ↔ s.ctc.state = .descending) ∧
    (s.ctc.warnDeadline.isSome = true → s.ctc.state = .preDrop) ∧ (s.ctc.raiseDeadline.isSome = true → s.ctc.state = .raising)) &&
  decide (s.forced = true → s.ctc.state = .down ∨ s.ctc.cause = some .emergency ∨ s.ctc.cause = some .reset) &&
  decide (s.fireFull = true → s.phase = .dark ∨ s.phase = .evacuate ∨ s.phase = .closed) &&
  decide (s.override = true → ∀ r ∈ s.hlu.channels, r = { active := 1000, fade := none }) &&
  [Source.link, .plan, .desk, .safety].all (fun src => decide (s.clu.reservedInUse src ≤ reservation src)) &&
  decide (s.clu.poolInUse ≤ 8 ∧ (s.clu.entries.map (·.id)).Nodup ∧ (∀ e ∈ s.clu.entries, 1 ≤ e.id ∧ e.id ≤ 255) ∧
    (1 ≤ s.clu.nextId ∧ s.clu.nextId ≤ 255) ∧
    (s.clu.entries.filter fun e => e.state.effective.isSome).length = if atWork s.clu.announcer then 1 else 0) &&
  (match s.clu.announcer with | .bell segments _ _ => decide (segments ≠ []) | _ => true) &&
  decide ((s.clu.entries.map (·.arrival)).Nodup ∧ (∀ e ∈ s.clu.entries, e.arrival < s.clu.nextArrival) ∧
    (s.clu.entries.map fun e => (e.slot, e.zones, e.cls)).Nodup) &&
  decide (s.ctc.history.length ≤ 4 ∧ s.fdu.watch.length ≤ 8 ∧ s.fdu.isolatedCount ≤ 4 ∧ s.fdu.watch.Nodup) &&
  decide (s.lp.notices.length ≤ 16 ∧ s.lp.checksum ≤ 255 ∧ s.lp.length ≤ 255 ∧ s.lp.timeout ≤ 255 ∧ s.lp.overrun ≤ 255) &&
  decide (s.store.inFlight = none)

theorem Ready.of {s : State} (h : readyB s = true) : Ready s := by
  simp only [readyB, Bool.and_eq_true, decide_eq_true_eq, List.all_cons, List.all_nil, and_true] at h
  obtain ⟨⟨⟨⟨⟨⟨⟨⟨⟨⟨⟨⟨⟨⟨⟨h1, h2, h3⟩, h4⟩, h5⟩, h6⟩, ⟨h7, h8, h9⟩⟩, h10⟩, h11⟩, h12⟩, ⟨r1, r2, r3, r4⟩⟩, ⟨q1, q2, q3, q4, q5⟩⟩, hb⟩,
    ⟨e1, e2, e3⟩⟩, ⟨b1, b2, b3, b4⟩⟩, ⟨l1, l2, l3, l4, l5⟩⟩, hs⟩ := h
  refine ⟨⟨h1, h2, h3⟩, fun _ => h4, fun _ => h5, h6, ⟨h7, h8, h9⟩, fun _ => h10, h11, fun _ => h12,
    ⟨fun src => by cases src <;> assumption, q1, q2, q3, q4, q5, fun segments ringing t e => ?_⟩,
    ⟨e1, e2, e3⟩, ⟨b1, b2, b3⟩, b4, ⟨by omega, l1, l2, l3, l4, l5⟩, hs⟩
  rw [e] at hb
  simpa using hb

/-- A state that meets the conditions, and a condition besides. -/
theorem shows {s : State} {p : Prop} [Decidable p] (h : (readyB s && decide p) = true) : Ready s ∧ p := by
  simp only [Bool.and_eq_true, decide_eq_true_eq] at h
  exact ⟨.of h.1, h.2⟩

/-- What a command answers meets a condition. -/
def answers (c : Instr) (s : State) (p : State → Bool) : Bool :=
  match exec c s with
  | .next t => p t
  | _ => false

theorem test_phases_ready :
    Ready base ∧ Ready (inPhase .dark) ∧ Ready (inPhase .prepare) ∧ Ready (inPhase .houseOpen) ∧ Ready (inPhase .running) ∧
      Ready (inPhase .interval) ∧ Ready (inPhase .resuming) ∧ Ready (inPhase .stopped) ∧ Ready (inPhase .evacuate) ∧
      Ready (inPhase .closed) :=
  ⟨.of (by decide +kernel), .of (by decide +kernel), .of (by decide +kernel), .of (by decide +kernel), .of (by decide +kernel),
    .of (by decide +kernel), .of (by decide +kernel), .of (by decide +kernel), .of (by decide +kernel), .of (by decide +kernel)⟩

/-! ## Witnesses: the step, reset and what every step keeps -/

/-- The part with nothing due for 10 ms. -/
def quiet : State := { base with fdu := { base.fdu with slotDue := 10 } }

/-- A test descent from 9000 mm. -/
def falling (cause : DescentCause) : Descent :=
  { record := { startCause := cause, cause, startTime := 0, startPos := 9000, dropTime := 0, maxSpeed := 0, holds := 0, ignored := 0,
                faults := [], finalU := 0, ending := none },
    params := CurtainParams.defaults,
    sup := { clock := 100, windowNo := 0, progress := 100, prevPos := 9000, timeOnly := false, overspeedRun := 0,
             overspeedForce := false, predictionRun := 0, lateForce := false, stallRun := 0, stallTaken := false,
             lastTarget := none, lastPrediction := none },
    u := 500, hold := none, floorTimer := none, last := none }

/-- The curtain in a descent. -/
def inDescent (d : Descent) (c : Ctc) : Ctc :=
  { c with state := .descending, descent := some d, top := false }

theorem witness_empty_queue :
    (quiet.pending = [] ∧ quiet.held = none ∧ quiet.dueEvents = []) ∧
    (let s := { quiet with ctc := inDescent { falling .reset with sup := { (falling .reset).sup with progress := 99 } } quiet.ctc }
     s.pending = [] ∧ s.held = none ∧ s.dueEvents = [] ∧ s.ctc.descent.isSome = true ∧ s.ctc.faults.contains .encoder = false) ∧
    (let s := { quiet with ctc := inDescent { falling .reset with hold := some 1 } { quiet.ctc with faults := [.encoder] } }
     s.pending = [] ∧ s.held = none ∧ s.dueEvents = [] ∧ s.ctc.faults.contains .encoder = true) ∧
    (base.pending = [] ∧ base.held = none ∧ base.dueEvents ≠ []) := by decide +kernel

/-- The part held in reset. -/
def heldBase : State := { base with held := some .restart }

theorem witness_reset_holds :
    heldBase.held.isSome = true ∧ sensed .begin = false ∧ Instr.begin ≠ .resetRelease ∧ 65535 < 65536 ∧ base.held = none := by
  decide +kernel

theorem witness_reset_release :
    (heldBase.held = some .restart ∧ heldBase.ctc.floor = true ∧
      heldBase.ctc.count * 100 / (sector4 heldBase).load.curtain.counts ≤ 20) ∧
    (let s := { heldBase with ctc := { heldBase.ctc with count := 80 } }
     s.ctc.floor = true ∧ s.ctc.count * 100 / (sector4 s).load.curtain.counts = 20) ∧
    (let s := { heldBase with ctc := { heldBase.ctc with count := 84 } }
     s.ctc.floor = true ∧ s.ctc.count * 100 / (sector4 s).load.curtain.counts = 21) ∧
    (let s := { heldBase with ctc := { heldBase.ctc with floor := false } }
     s.ctc.floor = false ∧ s.held = some .restart) ∧
    (let s := { heldBase with ctc := { heldBase.ctc with floor := false, edge := true, count := 36804 } }
     s.held = some .restart ∧ s.ctc.floor = false ∧ s.ctc.edge = true ∧
       9000 + 200 < s.ctc.count * 100 / (sector4 s).load.curtain.counts) := by decide +kernel

/-- Plan A open, with one step written. -/
def openA : PlanSector :=
  { state := .opened, header := some header, slots := (records.take 1).map Slot.written ++ List.replicate 47 .blank, count := 0,
    check := 0 }

theorem witness_reset_examines :
    (let s := { heldBase with store := { heldBase.store with planA := sealedA } }
     s.held = some .restart ∧ s.store.inFlight = none ∧ (s.store.sector .a).state = .sealed) ∧
    (let s := { heldBase with store := { heldBase.store with planA := openA, inFlight := some { op := .put .a 1 records, started := 0 } } }
     (s.store.inFlight.map (·.op)) = some (.put .a 1 records) ∧ (s.store.sector .a).state = .opened ∧ 1 ≤ records.length) ∧
    (let s := { heldBase with store := { heldBase.store with inFlight := some { op := .erase .a, started := 0 } } }
     (s.store.inFlight.map fun f => opLetter f.op) = some (some .a)) ∧
    (let s := { heldBase with store := { heldBase.store with inFlight := some { op := .storeConfig Settings.defaults, started := 0 } } }
     (s.store.inFlight.map (·.op)) = some (.storeConfig Settings.defaults)) := by decide +kernel

theorem witness_invariants :
    Ready { inPhase .running with pending := [.showStop] } ∧ RecordOk (inPhase .running).pfu.perf ∧
      (∃ t, step { inPhase .running with pending := [.showStop] } = .next t) ∧ (inPhase .running).pfu.perf.plan = some .a ∧
      LockOk (inPhase .running) := by
  refine ⟨.of (by decide +kernel), ⟨by decide, by decide, by decide, fun i => by cases i <;> decide⟩, ⟨_, rfl⟩, rfl, ?_⟩
  intro l f _ h
  simp [inPhase, settle, base, State.reset, Store.erased, State.gates] at h

theorem witness_sizes : SizesOk { inPhase .running with pending := [.showStop] } := by
  have h : SettingsSized { inPhase .running with pending := [.showStop] }.settings :=
    ⟨by decide, by decide, by decide, by decide, by decide, by decide, by decide, by decide, by decide⟩
  exact ⟨h, nofun, nofun, by decide +kernel, by decide +kernel, by decide, by decide, by decide, by decide⟩

theorem witness_proven_cleared :
    (inPhase .prepare).pfu.perf.proven = true ∧ answers .disarm (inPhase .prepare) (fun t => t.pfu.perf.proven = false) = true := by
  decide +kernel

theorem witness_proven_set :
    let s := curtain .prepare fun c => inDescent (falling .test) c
    let s := { s with pfu := { s.pfu with perf := { s.pfu.perf with proven := false } } }
    s.pfu.perf.proven = false ∧ answers (.floorChange true) s (fun t => t.pfu.perf.proven) = true := by decide +kernel

/-- The fire state FULL with the sounders silenced, in DARK. -/
def silencedFull : State :=
  let s := inPhase .dark
  settle { s with
    fdu := s.fdu.setFire { s.fdu.fire with state := .full, cause := some .manual, silenced := true },
    ctc := Ctc.reset 0 true false false false, hlu := Hlu.reset }

theorem witness_full_left :
    Ready silencedFull ∧ silencedFull.fireFull = true ∧ answers .fireReset silencedFull (fun t => t.fireFull = false) = true :=
  ⟨.of (by decide +kernel), by decide +kernel, by decide +kernel⟩

theorem witness_safety_laws : (inPhase .evacuate).held = none ∧ GatesCurrent (inPhase .evacuate) ∧
    (inPhase .evacuate).forced = true :=
  ⟨rfl, fun _ => by decide +kernel, by decide +kernel⟩

/-! ## Witnesses: chapter 1 -/

theorem witness_arm :
    (Ready (inPhase .dark) ∧ (inPhase .dark).phase = .dark ∧ (inPhase .dark).fireFull = false ∧ (inPhase .dark).store.busy = false ∧
      (inPhase .dark).fdu.fire.walk = none ∧ ((inPhase .dark).store.sector .a).state = .sealed ∧
      ((inPhase .dark).store.sector .a).runningCopy = some plan) ∧
    (Ready silencedFull ∧ silencedFull.phase = .dark ∧ silencedFull.fireFull = true) ∧
    (let s := { inPhase .dark with store := { (inPhase .dark).store with inFlight := some { op := .erase .b, started := 0 } } }
     Admits s ∧ s.phase = .dark ∧ s.fireFull = false ∧ s.store.busy = true) ∧
    (Ready (fire .dark fun f => f.setFire { f.fire with walk := some ⟨1, 0, 0⟩ }) ∧
      (fire .dark fun f => f.setFire { f.fire with walk := some ⟨1, 0, 0⟩ }).fdu.fire.walk.isSome = true) ∧
    ((inPhase .dark).store.sector .b).state = .empty ∧
    (Ready { inPhase .dark with store := { base.store with planA := { sealedA with check := 0 }, planB := openA } } ∧
      (openA.state = .opened ∨ openA.state = .bad) ∧ ({ sealedA with check := 0 } : PlanSector).runningCopy = none) :=
  ⟨shows (by decide +kernel), shows (by decide +kernel), ⟨⟨rfl, rfl, by decide⟩, by decide +kernel⟩, shows (by decide +kernel),
    by decide +kernel, shows (by decide +kernel)⟩

theorem witness_open_house : (Ready (inPhase .prepare) ∧ (inPhase .prepare).phase = .prepare) ∧ (inPhase .dark).phase ≠ .prepare :=
  ⟨shows (by decide +kernel), by decide +kernel⟩

/-- BEGIN's conditions hold. -/
def mayBegin (s : State) : Bool :=
  s.ctc.state = .up && s.pfu.perf.proven && s.fireQuiet && s.lmu.limitState 6 = .normal

theorem witness_begin :
    (Ready (inPhase .houseOpen) ∧ mayBegin (inPhase .houseOpen) = true ∧ (inPhase .houseOpen).phase = .houseOpen) ∧
    (Ready (inPhase .interval) ∧ mayBegin (inPhase .interval) = true ∧ (inPhase .interval).phase = .interval) ∧
    (Ready (inPhase .resuming) ∧ mayBegin (inPhase .resuming) = true ∧ (inPhase .resuming).phase = .resuming) ∧
    (Ready (curtain .interval fun c => { c with state := .held }) ∧
      (curtain .interval fun c => { c with state := .held }).ctc.state ≠ .up) ∧
    (let s := { inPhase .resuming with
       pfu := { (inPhase .resuming).pfu with perf := { (inPhase .resuming).pfu.perf with proven := false } } }
     Ready s ∧ s.ctc.state = .up ∧ s.pfu.perf.proven = false) ∧
    (Ready (fire .interval fun f => f.setFire { f.fire with state := .staffAlert .investigating }) ∧
      (fire .interval fun f => f.setFire { f.fire with state := .staffAlert .investigating }).fireQuiet = false) ∧
    (Ready (monitor .interval 6 .low) ∧ (monitor .interval 6 .low).lmu.limitState 6 ≠ .normal ∧
      (monitor .interval 6 .low).fireQuiet = true) :=
  ⟨shows (by decide +kernel), shows (by decide +kernel), shows (by decide +kernel), shows (by decide +kernel),
    shows (by decide +kernel), shows (by decide +kernel), shows (by decide +kernel)⟩

/-- The last act of two. -/
def lastAct : State :=
  let s := inPhase .running
  { s with pfu := { s.pfu with perf := { s.pfu.perf with
      act := 2, clocks := { s.pfu.perf.clocks with act1 := ⟨.ended, 0⟩, act2 := ⟨.running, 0⟩ } } } }

/-- Another map entry for the house's opening, whose step is put off by a second, with every step PENDING. -/
def mapped (p : Phase) (m : MapEntry) : State :=
  let s := inPhase p
  { s with pfu := { s.pfu with
      runningCopy := some { header := { header with houseOpen := m }, steps := steps.modify 1 fun st => { st with offset := 1 } },
      table := List.replicate 3 .pending } }

/-- The HOUSE-OPEN clock starts. -/
def opened (f : Pfu) : Pfu :=
  { f with perf := { f.perf with clocks := { f.perf.clocks with houseOpen := { run := .running, value := 0 } } } }

theorem witness_map_load :
    (Ready (mapped .prepare ⟨3, 0⟩) ∧ (mapped .prepare ⟨3, 0⟩).phase = .prepare ∧
      (mapped .prepare ⟨3, 0⟩).ilu.relay.line = true) ∧ NoneDue (opened (mapped .prepare ⟨3, 0⟩).pfu) ∧
    (let s := mapped .prepare ⟨254, 1⟩
     let s := { s with settings := { s.settings with channels := s.settings.channels.set 0 { s.settings.channel 0 with hold := true } } }
     Ready s ∧ (s.settings.channel 0).hold = true) ∧
    (Ready (mapped .prepare ⟨255, 9⟩) ∧ (mapped .prepare ⟨255, 9⟩).phase = .prepare) ∧
    (let s := settle { mapped .prepare ⟨3, 0⟩ with hlu := Hlu.reset }
     Ready s ∧ s.ilu.relay.line = false ∧ s.phase = .prepare) ∧
    (Ready (mapped .stopped ⟨3, 0⟩) ∧ (mapped .stopped ⟨3, 0⟩).phase = .stopped) ∧
    ((mapped .houseOpen ⟨3, 0⟩).phase = .houseOpen ∧ (mapped .houseOpen ⟨3, 0⟩).ilu.relay.line = true) :=
  ⟨shows (by decide +kernel), noneDue_iff.2 (by decide +kernel), shows (by decide +kernel), shows (by decide +kernel),
    shows (by decide +kernel), shows (by decide +kernel), by decide +kernel⟩

/-- With a step PENDING at the house's opening the load takes place, and the step stays PENDING. -/
theorem test_map_load_with_pending_steps :
    answers .openHouse (mapped .prepare ⟨3, 0⟩) (fun t => t.pfu.table = List.replicate 3 .pending &&
      (t.hlu.channel 0).active = (mapped .prepare ⟨3, 0⟩).settings.presetLevel 3 0) = true := by decide +kernel

/-- A SHOW call plays in a phase in a set of zones. -/
def showPlaying (p : Phase) (z : ZoneSet) : State :=
  calls p fun c => { c with
    announcer := .speaking none true 90000, nextId := 2, nextArrival := 2,
    entries := [{ id := 1, source := .link, cls := .showClass, slot := some 3, zones := z, bell := 0, repeats := 2, gap := 5, plays := 0,
                  state := .playing z, arrival := 1, pool := false }] }

/-- The plan runner as an accepted BEGIN leaves it. -/
def running (s : State) : Pfu :=
  let p := s.pfu.perf
  match s.phase with
  | .houseOpen =>
    let clocks := { p.clocks with
      houseOpen := { p.clocks.houseOpen with run := .ended }, act1 := { run := .running, value := 0 } }
    { (s.pfu.skipInstance .houseOpen).1 with perf := { p with phase := .running, act := 1, entry := s.now, clocks } }
  | .interval =>
    let clocks := (p.clocks.finish (intervalClock p.intervalNo)).start (actClock (p.intervalNo + 1))
    { (s.pfu.skipInstance (intervalClock p.intervalNo)).1 with perf := { p with
      phase := .running, act := p.intervalNo + 1, entry := s.now, clocks } }
  | _ => { s.pfu with perf := { p with phase := .running, entry := s.now, clocks := p.clocks.continue (actClock p.act) } }

theorem witness_gate_cut :
    ∀ p ∈ ([.houseOpen, .interval, .resuming] : List Phase), ∀ z ∈ ([0x03#8, 0x07#8, 0x04#8] : List ZoneSet),
      (Ready (showPlaying p z) ∧ mayBegin (showPlaying p z) = true ∧ (showPlaying p z).phase = p ∧
        (showPlaying p z).pfu.table.any (· = .pending) = true ∧
        ((showPlaying p z).clu.playing.map (·.state)) = some (.playing z)) ∧ NoneDue (running (showPlaying p z)) := by
  intro p hp z hz
  simp only [List.mem_cons, List.not_mem_nil, or_false] at hp hz
  rcases hp with rfl | rfl | rfl <;> rcases hz with rfl | rfl | rfl <;>
    exact ⟨shows (by decide +kernel), noneDue_iff.2 (by decide +kernel)⟩

theorem test_gate_cut :
    answers .begin (showPlaying .houseOpen 0x04#8) (fun t =>
        t.clu.entries = [] && t.clu.announcer = .stopping (some 50) 500) = true ∧
      answers .begin (showPlaying .resuming 0x07#8) (fun t => t.clu.effective = 0x03#8) = true := by decide +kernel

theorem witness_interval_and_end :
    (Ready (inPhase .running) ∧ (inPhase .running).phase = .running ∧
      (inPhase .running).pfu.perf.act < (inPhase .running).pfu.perf.acts ∧ (inPhase .running).pfu.runningCopy = some plan) ∧
    (Ready lastAct ∧ lastAct.phase = .running ∧ lastAct.pfu.perf.act = lastAct.pfu.perf.acts ∧
      lastAct.pfu.perf.acts ≤ lastAct.pfu.perf.act) ∧
    (Ready (inPhase .stopped) ∧ (inPhase .stopped).phase = .stopped ∧
      (inPhase .stopped).pfu.perf.suspendedClock = some (actClock 1)) :=
  ⟨shows (by decide +kernel), shows (by decide +kernel), shows (by decide +kernel)⟩

theorem witness_resume_close_disarm :
    (Ready (inPhase .stopped) ∧ (inPhase .stopped).fireQuiet = true ∧ (inPhase .stopped).pfu.perf.resume = some .resuming) ∧
    (Ready (fire .stopped fun f => f.setFire { f.fire with state := .staffAlert .awaitingAck }) ∧
      (fire .stopped fun f => f.setFire { f.fire with state := .staffAlert .awaitingAck }).fireQuiet = false) ∧
    (Ready (inPhase .evacuate) ∧ (inPhase .evacuate).phase = .evacuate ∧ (inPhase .evacuate).fireQuiet = true) ∧
    (Ready (fire .evacuate fun f => f.setFire { f.fire with state := .full }) ∧
      (fire .evacuate fun f => f.setFire { f.fire with state := .full }).fireQuiet = false) ∧
    (Ready (inPhase .prepare) ∧ (inPhase .prepare).pfu.perf.clocks.closed.run ≠ .running) ∧
    (Ready (inPhase .closed) ∧ (inPhase .closed).phase = .closed ∧ (inPhase .closed).pfu.perf.clocks.closed.run = .running) :=
  ⟨shows (by decide +kernel), shows (by decide +kernel), shows (by decide +kernel), shows (by decide +kernel),
    shows (by decide +kernel), shows (by decide +kernel)⟩

theorem witness_show_stop :
    (Ready (inPhase .running) ∧ (inPhase .running).phase = .running ∧ (inPhase .running).settings.stopTemplate = 255 ∧
      (inPhase .running).ctc.state = .up ∧ (inPhase .running).settings.curtain.warning ≠ 0 ∧
      (inPhase .running).ilu.relay.line = true ∧ (inPhase .running).settings.lightTimes.stopFade ≠ 0) ∧
    (Ready (curtain .interval fun c => inDescent (falling .test) c) ∧
      (curtain .interval fun c => inDescent (falling .test) c).ctc.cause = some .test) ∧
    (Ready (curtain .houseOpen fun _ => Ctc.reset 0 true false false false) ∧
      (curtain .houseOpen fun _ => Ctc.reset 0 true false false false).ctc.state = .down) ∧
    (let s := settle { inPhase .resuming with hlu := Hlu.reset }
     Ready s ∧ s.ilu.relay.line = false) :=
  ⟨shows (by decide +kernel), shows (by decide +kernel), shows (by decide +kernel), shows (by decide +kernel)⟩

/-- The stop warning of the parameters in force is 0. -/
def noWarning (s : State) : State :=
  { s with settings := { s.settings with curtain := { s.settings.curtain with warning := 0 } } }

theorem witness_show_stop_curtain :
    (Ready (noWarning (inPhase .running)) ∧ (noWarning (inPhase .running)).ctc.state = .up ∧
      (noWarning (inPhase .running)).ctc.edge = false ∧ (noWarning (inPhase .running)).ctc.floor = false) ∧
    (let s := noWarning (curtain .running fun c => { c with edge := true })
     Ready s ∧ s.settings.curtain.warning = 0 ∧ s.ctc.edge = true) ∧
    (let s := noWarning (curtain .interval fun _ => { Ctc.reset 4000 true false false false with state := .held })
     Ready s ∧ s.ctc.state = .held ∧ s.ctc.edge = false ∧ s.ctc.floor = true) ∧
    (let s := curtain .houseOpen fun _ => { Ctc.reset 4000 false false false false with state := .raising, raiseDeadline := some 100 }
     Ready s ∧ s.ctc.state = .raising ∧ s.fireFull = false ∧ s.settings.curtain.warning ≠ 0) ∧
    (let s := curtain .interval fun c => inDescent (falling .request) c
     Ready s ∧ s.ctc.cause = some .request) ∧
    (∀ cause ∈ ([.stop, .emergency, .reset] : List DescentCause),
      (curtain .interval fun c => inDescent (falling cause) c).ctc.cause = some cause) ∧
    (let s := inPhase .running
     let s := { s with settings := { s.settings with stopTemplate := 15 } }
     Ready s ∧ s.settings.stopTemplate ≠ 255) :=
  ⟨shows (by decide +kernel), shows (by decide +kernel), shows (by decide +kernel), shows (by decide +kernel),
    shows (by decide +kernel), by decide +kernel, shows (by decide +kernel)⟩

theorem witness_evacuate :
    (Ready (inPhase .running) ∧ (inPhase .running).phase ≠ .dark ∧ (inPhase .running).phase ≠ .evacuate ∧
      (inPhase .running).phase ≠ .closed ∧ (inPhase .running).fireFull = false) ∧
    (Ready (inPhase .closed) ∧ (inPhase .closed).phase = .closed) ∧ (Ready (inPhase .stopped) ∧ (inPhase .stopped).phase = .stopped) :=
  ⟨shows (by decide +kernel), shows (by decide +kernel), shows (by decide +kernel)⟩

/-! ## Witnesses: chapter 2 -/

theorem witness_store_requests :
    (let s := { inPhase .dark with store := { base.store with planA := openA } }
     Ready s ∧ s.store.inFlight = none ∧ s.pfu.perf.plan ≠ some .a ∧ headerFirstBad header = none ∧
       (s.store.sector .a).state = .opened ∧ (s.store.sector .a).header = some header ∧
       (∀ r ∈ records, (stepOf header.acts r).isSome = true) ∧
       (∀ i, i < 3 → (s.store.sector .a).slots[45 + i]? = some .blank) ∧
       (s.store.sector .a).slots = (records.take 1).map Slot.written ++ List.replicate (48 - 1) .blank ∧ s.phase = .dark) ∧
    (Ready (inPhase .prepare) ∧ (inPhase .prepare).store.busy = false ∧ (inPhase .prepare).pfu.perf.plan = some .a) ∧
    (let s := { inPhase .dark with store := { base.store with inFlight := some { op := .erase .b, started := 0 } } }
     Admits s ∧ s.store.busy = true) ∧
    headerFirstBad { header with acts := 5 } = some .acts :=
  ⟨shows (by decide +kernel), shows (by decide +kernel), ⟨⟨rfl, rfl, by decide⟩, rfl⟩, by decide +kernel⟩

theorem witness_put_refused :
    (let s := { inPhase .dark with store := { base.store with planA := openA } }
     let bad : StepRecord := { anchor := 1, offset := 10, action := 99, argument := 7, zones := 0, fade := 0 }
     Ready s ∧ (s.store.sector .a).header = some header ∧ 44 + (records ++ [bad]).length ≤ 48 ∧ (records ++ [bad]).length ≤ 6 ∧
       (∀ r ∈ records, (stepOf header.acts r).isSome = true) ∧ stepOf header.acts bad = none) :=
  shows (by decide +kernel)

/-- The failing step is named by its slot number (R31). -/
theorem test_put_names_the_slot :
    answers (.planPut (some .a) 44 1 [{ anchor := 1, offset := 10, action := 99, argument := 7, zones := 0, fade := 0 }])
      { inPhase .dark with store := { base.store with planA := openA } }
      (fun t => ((t.lp.inbound.getLast?).bind (·.reply)) = some (.refused .badField (.index 44))) = true := by decide +kernel

/-- DARK with plan A open, its last slot DAMAGED. -/
def damagedA : State :=
  { inPhase .dark with store := { base.store with planA := { openA with slots := openA.slots.set 47 .damaged } } }

theorem witness_store_refused :
    (let s := { inPhase .dark with store := { base.store with planA := openA, inFlight := some { op := .erase .b, started := 0 } } }
     Admits s ∧ s.store.busy = true ∧ PutFits s .a 45 records ∧ SelectFits (.slots 42 6)) ∧
    (Ready (inPhase .prepare) ∧ (inPhase .prepare).store.busy = false ∧ (inPhase .prepare).pfu.perf.plan = some .a) ∧
    PutFits (inPhase .prepare) .a 45 records ∧
    (Ready (inPhase .prepare) ∧ ((inPhase .prepare).store.sector .b).state = .empty ∧ (inPhase .prepare).pfu.perf.plan ≠ some .b ∧
      (inPhase .prepare).phase ≠ .dark) ∧
    PutFits (inPhase .prepare) .b 0 records ∧
    (Ready damagedA ∧ (damagedA.store.sector .a).state = .opened ∧ damagedA.pfu.perf.plan ≠ some .a ∧
      (damagedA.store.sector .a).slots[46 + 0]? = some .blank ∧ (damagedA.store.sector .a).slots[46 + 1]? ≠ some .blank ∧
      (damagedA.store.sector .a).slots[0]? ≠ some .blank) ∧
    PutFits damagedA .a 46 (records.take 2) ∧
    (SealFits openA 2 0 ∧ ¬ SealFits openA 2 1) ∧ ¬ SealFits openA 0 0 ∧
    (SealFits (damagedA.store.sector .a) 1 46 ∧ ¬ SealFits (damagedA.store.sector .a) 1 47) := by
  refine ⟨⟨⟨rfl, rfl, by decide⟩, rfl, ⟨by decide, by decide, by decide, by decide +kernel⟩, by decide, by decide, by decide⟩,
    shows (by decide +kernel), ⟨by decide, by decide, by decide, by decide +kernel⟩, shows (by decide +kernel),
    ⟨by decide, by decide, by decide, by decide +kernel⟩, shows (by decide +kernel),
    ⟨by decide, by decide, by decide, by decide +kernel⟩, ⟨⟨fun _ => ⟨_, rfl⟩, fun h => absurd h (by decide)⟩, ?_⟩, ?_,
    ⟨fun h => absurd h (by decide), fun _ => by decide +kernel⟩, ?_⟩
  · rintro ⟨h, -⟩
    obtain ⟨r, h⟩ := h (by decide)
    have blank : openA.slots[1]? = some .blank := by decide +kernel
    exact absurd (blank.symm.trans h) (by simp)
  · exact fun h => absurd (h.2 (by decide)) (by decide +kernel)
  · exact fun h => absurd (h.2 (by decide)) (by decide +kernel)

/-- The refusals of R32 and R33 that name a slot. -/
theorem test_slot_in_the_way :
    answers (.planPut (some .a) 46 2 (records.take 2)) damagedA
        (fun t => ((t.lp.inbound.getLast?).bind (·.reply)) = some (.refused .wrongState (.index 47))) = true ∧
      answers (.planSeal (some .a) 2) damagedA
        (fun t => ((t.lp.inbound.getLast?).bind (·.reply)) = some (.refused .wrongState (.index 1))) = true := by decide +kernel

/-- A CONFIG-STORE cut short over a valid sector 4 defaults the configuration (R199, R200). -/
theorem test_reset_over_config_store :
    answers .resetRelease
      { heldBase with store := { heldBase.store with
          config := { copy := some { Settings.defaults with deskFade := 9 }, check := Config.configCheck { Settings.defaults with deskFade := 9 } % 65536, mark := true },
          inFlight := some { op := .storeConfig Settings.defaults, started := 0 } } }
      (fun t => t.settings.deskFade = Settings.defaults.deskFade && t.lp.defaulted && !t.store.config.mark) = true := by decide +kernel

theorem witness_store_end :
    let ops : List StoreOp := [.openPlan .a header, .put .a 1 records, .seal .a 3 9, .erase .a, .storeConfig Settings.defaults]
    ∀ op ∈ ops,
      let s := { base with now := op.leastTime, store := { base.store with planA := openA, inFlight := some { op, started := 0 } } }
      s.held = none ∧ s.store.inFlight = some { op, started := 0 } ∧ 0 + op.leastTime ≤ s.now := by decide +kernel

/-- Act 1 at the moment its note falls due. -/
def noteDue : State :=
  let s := inPhase .running
  { s with pfu := { s.pfu with perf := { s.pfu.perf with clocks := { s.pfu.perf.clocks with act1 := ⟨.running, 10000⟩ } } } }

theorem witness_due_steps :
    noteDue.held = none ∧ noteDue.pfu.dueSteps = [0] ∧ (noteDue.pfu.pendingStep 0).map (·.action) = some (.note 7) ∧
      noteDue.pfu.isDue 1 = false := by decide +kernel

/-- Interval 1 at the moment its length has run, with the step of its clock issued. -/
def intervalOver : State :=
  let s := inPhase .interval
  { s with pfu := { s.pfu with
      table := [.done, .done, .done],
      perf := { s.pfu.perf with clocks := { s.pfu.perf.clocks with interval1 := ⟨.running, 600000⟩ } } } }

theorem witness_interval :
    (Ready (inPhase .interval) ∧ (inPhase .interval).phase = .interval ∧ 10 ≤ 600) ∧
    (intervalOver.held = none ∧ intervalOver.phase = .interval ∧ intervalOver.pfu.expirySent = false ∧
      intervalOver.pfu.perf.intervalLen * 1000 ≤
        (intervalOver.pfu.perf.clocks.get (intervalClock intervalOver.pfu.perf.intervalNo)).value ∧
      intervalOver.pfu.dueSteps = []) ∧
    (let s := inPhase .running
     ((s.pfu.pendingStep 0).map fun st => s.pfu.perf.dueTime st) = some 10000 ∧ s.pfu.perf.clocks.act1 = ⟨.running, 5000⟩ ∧
       s.pfu.stepDueSoon = false) ∧
    (Ready (inPhase .running) ∧ (inPhase .running).phase ≠ .interval) :=
  ⟨shows (by decide +kernel), by decide +kernel, by decide +kernel, shows (by decide +kernel)⟩

/-! ## Witnesses: chapters 3 and 4 -/

/-- The curtain on the floor. -/
def down : Ctc := Ctc.reset 0 true false false false

/-- The curtain held at a height, in mm. -/
def heldAt (h : Nat) : Ctc := { Ctc.reset (h * 4) false false false false with state := .held }

theorem witness_curtain_raise :
    (Ready (inPhase .running) ∧ (inPhase .running).phase = .running) ∧
    (Ready silencedFull ∧ silencedFull.phase ≠ .running ∧ silencedFull.phase ≠ .stopped ∧ silencedFull.phase ≠ .evacuate ∧
      silencedFull.fireFull = true) ∧
    (Ready (settle { monitor .prepare 0 .high with ctc := down }) ∧ (monitor .prepare 0 .high).lmu.limitState 0 = .high) ∧
    (Ready (inPhase .prepare) ∧ (inPhase .prepare).fireFull = false ∧ (inPhase .prepare).ctc.state = .up) ∧
    (Ready (curtain .prepare fun _ => down) ∧ (curtain .prepare fun _ => down).ctc.top = false ∧
      pos (curtain .prepare fun _ => down) = 0) ∧
    (Ready (curtain .prepare fun _ => heldAt 8979) ∧ pos (curtain .prepare fun _ => heldAt 8979) + 20 < 9000) ∧
    (Ready (curtain .prepare fun _ => heldAt 8980) ∧ 9000 ≤ pos (curtain .prepare fun _ => heldAt 8980) + 20 ∧
      (curtain .prepare fun _ => heldAt 8980).settings.curtain.travel = 9000) ∧
    (Ready (curtain .prepare fun _ => { heldAt 8899 with top := true }) ∧
      pos (curtain .prepare fun _ => { heldAt 8899 with top := true }) + 100 < 9000) ∧
    (Ready (curtain .prepare fun _ => { heldAt 8900 with top := true }) ∧
      9000 ≤ pos (curtain .prepare fun _ => { heldAt 8900 with top := true }) + 100) :=
  ⟨shows (by decide +kernel), shows (by decide +kernel), shows (by decide +kernel), shows (by decide +kernel),
    shows (by decide +kernel), shows (by decide +kernel), shows (by decide +kernel), shows (by decide +kernel),
    shows (by decide +kernel)⟩

theorem witness_lower_and_test :
    (Ready (inPhase .stopped) ∧ (inPhase .stopped).phase = .stopped) ∧
    (Ready (inPhase .prepare) ∧ (inPhase .prepare).phase = .prepare ∧ (inPhase .prepare).ctc.state = .up ∧
      (inPhase .prepare).ctc.edge = false ∧ (inPhase .prepare).ctc.floor = false ∧ (inPhase .prepare).lmu.limitState 1 ≠ .low ∧
      (inPhase .prepare).ctc.faults.contains .encoder = false) ∧
    (Ready (curtain .prepare fun _ => down) ∧ (curtain .prepare fun _ => down).ctc.state ≠ .up ∧
      (curtain .prepare fun _ => down).ctc.state ≠ .held) ∧
    (Ready (curtain .interval fun _ => { heldAt 20 with edge := true }) ∧
      (curtain .interval fun _ => { heldAt 20 with edge := true }).ctc.state = .held) ∧
    (Ready (curtain .interval fun c => { c with edge := true }) ∧ (curtain .interval fun c => { c with edge := true }).ctc.edge = true ∧
      (curtain .interval fun c => { c with edge := true }).ctc.state = .up) ∧
    (Ready (curtain .dark fun c => { c with floor := true }) ∧ (curtain .dark fun c => { c with floor := true }).ctc.state = .up ∧
      (curtain .dark fun c => { c with floor := true }).ctc.floor = true) ∧
    (Ready (monitor .houseOpen 1 .low) ∧ (monitor .houseOpen 1 .low).lmu.limitState 1 = .low) :=
  ⟨shows (by decide +kernel), shows (by decide +kernel), shows (by decide +kernel), shows (by decide +kernel),
    shows (by decide +kernel), shows (by decide +kernel), shows (by decide +kernel)⟩

theorem witness_halt_and_clear :
    (Ready (curtain .prepare fun _ => { heldAt 4000 with state := .raising, raiseDeadline := some 100 }) ∧
      (curtain .prepare fun _ => { heldAt 4000 with state := .raising, raiseDeadline := some 100 }).ctc.state = .raising) ∧
    (Ready (curtain .prepare fun _ => inDescent (falling .request) (heldAt 1001)) ∧
      (falling .request).params.slowZone < pos (curtain .prepare fun _ => inDescent (falling .request) (heldAt 1001))) ∧
    (Ready (curtain .prepare fun _ => inDescent (falling .test) (heldAt 1000)) ∧
      pos (curtain .prepare fun _ => inDescent (falling .test) (heldAt 1000)) ≤ (falling .test).params.slowZone) ∧
    (Ready (inPhase .prepare) ∧ (inPhase .prepare).ctc.state = .up ∧ (inPhase .prepare).phase ≠ .running) ∧
    (Ready (curtain .running fun c => { c with count := 36804 }) ∧ 9000 + 200 < pos (curtain .running fun c => { c with count := 36804 }) ∧
      (curtain .running fun c => { c with count := 36804 }).phase = .running) :=
  ⟨shows (by decide +kernel), shows (by decide +kernel), shows (by decide +kernel), shows (by decide +kernel),
    shows (by decide +kernel)⟩

/-- The curtain rising at a height. -/
def rising (h : Nat) : Ctc := { heldAt h with state := .raising, raiseDeadline := some 120000 }

theorem witness_encoder :
    (Ready (curtain .prepare fun _ => heldAt 500) ∧ (36800 : Nat) < 65536 ∧ (36800 : Nat) ≠ (heldAt 500).count ∧ 36800 * 100 / 400 ≤ 9000 + 200) ∧
    (Ready (curtain .prepare fun _ => heldAt 500) ∧ 9000 + 200 < 36804 * 100 / 400 ∧ (heldAt 500).aboveLimit = false) ∧
    (Ready (inPhase .running) ∧ (inPhase .running).phase = .running ∧ (inPhase .running).ctc.aboveLimit = false) ∧
    (Ready (curtain .prepare fun _ => rising 8000) ∧ 9000 ≤ 35920 * 100 / 400 + 20 ∧ 35916 * 100 / 400 + 20 < 9000) ∧
    (Ready (inPhase .running) ∧ (inPhase .running).ctc.state = .up ∧ 35596 * 100 / 400 + 100 < 9000 ∧ 9000 ≤ 35600 * 100 / 400 + 100) ∧
    (Ready (curtain .prepare fun _ => inDescent (falling .test) (heldAt 500)) ∧ 80 * 100 / 400 ≤ 20 ∧
      (curtain .prepare fun _ => inDescent (falling .test) (heldAt 500)).ctc.floor = false) :=
  ⟨shows (by decide +kernel), shows (by decide +kernel), shows (by decide +kernel), shows (by decide +kernel),
    shows (by decide +kernel), shows (by decide +kernel)⟩

theorem witness_encoder_in_descent :
    let s := curtain .prepare fun _ => inDescent (falling .test) (heldAt 500)
    Ready s ∧ s.ctc.descent = some (falling .test) ∧ s.ctc.aboveLimit = false ∧ s.phase ≠ .running ∧
      9000 + 200 < 36804 * 100 / 400 ∧ (36804 : Nat) ≠ s.ctc.count :=
  shows (by decide +kernel)

/-- R46, R74, R87: ENCODER makes the supervision TIME-ONLY. -/
theorem test_encoder_in_descent :
    answers (.encoderCountChange 36804) (curtain .prepare fun _ => inDescent (falling .test) (heldAt 500)) (fun t =>
      (t.lp.notices.map (·.body)).getLast? = some (.timeOnly 100 0) && t.ctc.faults = [.encoder] &&
        t.ctc.descent.any fun d => d.sup.timeOnly && d.record.faults = [.encoder]) = true := by decide +kernel

theorem witness_limit_inputs :
    (Ready (curtain .prepare fun _ => rising 8900) ∧ (curtain .prepare fun _ => rising 8900).ctc.top = false ∧
      9000 ≤ pos (curtain .prepare fun _ => rising 8900) + 100 ∧ (curtain .prepare fun _ => rising 8900).ctc.overtravel = false) ∧
    (Ready (inPhase .prepare) ∧ (inPhase .prepare).ctc.top = true ∧ (inPhase .prepare).ctc.state ≠ .raising ∧
      (inPhase .prepare).ctc.overtravel = false ∧ (inPhase .prepare).ctc.state = .up) ∧
    (Ready (curtain .prepare fun _ => down) ∧ (curtain .prepare fun _ => down).ctc.state ≠ .raising ∧
      (curtain .prepare fun _ => down).ctc.floor = true) ∧
    (Ready (curtain .prepare fun c => inDescent (falling .test) { c with count := 0 }) ∧
      (curtain .prepare fun c => inDescent (falling .test) { c with count := 0 }).ctc.floor = false) ∧
    (Ready (curtain .prepare fun _ => heldAt 0) ∧ (heldAt 0).floor = false ∧ (heldAt 0).state = .held) ∧
    (Ready (inPhase .running) ∧ (inPhase .running).ctc.floor = false ∧ (inPhase .running).ctc.state ≠ .descending) :=
  ⟨shows (by decide +kernel), shows (by decide +kernel), shows (by decide +kernel), shows (by decide +kernel),
    shows (by decide +kernel), shows (by decide +kernel)⟩

/-- A RESET descent with so many holds taken. -/
def afterHolds (n : Nat) (hold : Option Nat) : Descent :=
  { falling .reset with hold, record := { (falling .reset).record with holds := n } }

theorem witness_edge :
    (Ready (curtain .prepare fun _ => inDescent (falling .stop) (heldAt 500)) ∧
      (curtain .prepare fun _ => inDescent (falling .stop) (heldAt 500)).ctc.edge = false) ∧
    (Ready (curtain .prepare fun _ => inDescent (afterHolds 2 none) (heldAt 500)) ∧ (afterHolds 2 none).record.holds < 3) ∧
    (Ready (curtain .prepare fun _ => inDescent (afterHolds 3 (some 9)) (heldAt 500)) ∧ (afterHolds 3 (some 9)).hold.isSome = true) ∧
    (Ready (curtain .prepare fun _ => inDescent (afterHolds 3 none) (heldAt 500)) ∧ 3 ≤ (afterHolds 3 none).record.holds) ∧
    (Ready (inPhase .running) ∧ (inPhase .running).ctc.state ≠ .descending) :=
  ⟨shows (by decide +kernel), shows (by decide +kernel), shows (by decide +kernel), shows (by decide +kernel),
    shows (by decide +kernel)⟩

theorem witness_curtain_timers :
    (Ready (curtain .prepare fun _ => inDescent (afterHolds 1 (some 0)) (heldAt 500)) ∧
      (0 : Nat) ≤ (curtain .prepare fun _ => inDescent (afterHolds 1 (some 0)) (heldAt 500)).now) ∧
    (Ready (curtain .prepare fun _ => { rising 500 with raiseDeadline := some 0 }) ∧
      (curtain .prepare fun _ => { rising 500 with raiseDeadline := some 0 }).ctc.raiseDeadline = some 0) ∧
    (Ready (curtain .stopped fun c => { c with state := .preDrop, warnDeadline := some 0, edge := true }) ∧
      (curtain .stopped fun c => { c with state := .preDrop, warnDeadline := some 0, edge := true }).ctc.edge = true) ∧
    (Ready (curtain .stopped fun c => { c with state := .preDrop, warnDeadline := some 0 }) ∧
      (curtain .stopped fun c => { c with state := .preDrop, warnDeadline := some 0 }).ctc.floor = false) ∧
    (Ready (curtain .prepare fun _ => inDescent { falling .test with floorTimer := some 2000 } (heldAt 20)) ∧
      (curtain .prepare fun _ => inDescent { falling .test with floorTimer := some 2000 } (heldAt 20)).ctc.faults.contains .encoder = false) ∧
    (let d := { falling .test with sup := { (falling .test).sup with timeOnly := true, clock := 30001 } }
     Ready (curtain .prepare fun _ => inDescent d { heldAt 500 with faults := [.encoder] }) ∧ d.params.maxDrop * 100 < d.sup.clock ∧
       d.record.faults.contains .late = false) :=
  ⟨shows (by decide +kernel), shows (by decide +kernel), shows (by decide +kernel), shows (by decide +kernel),
    shows (by decide +kernel), shows (by decide +kernel)⟩

/-- A descent at the end of a window that began at a position. -/
def windowFrom (p : Nat) (timeOnly : Bool) : Descent :=
  { falling .request with sup := { (falling .request).sup with prevPos := p, timeOnly } }

theorem witness_window :
    (Ready (curtain .prepare fun _ => inDescent (windowFrom 9000 true) (heldAt 8960)) ∧ 100 ≤ (windowFrom 9000 true).sup.progress) ∧
    (Ready (curtain .prepare fun _ => inDescent (windowFrom 9000 false) (heldAt 8799)) ∧
      2000 < (10 * ((9000 : Int) - (pos (curtain .prepare fun _ => inDescent (windowFrom 9000 false) (heldAt 8799)) : Int))).natAbs) ∧
    (Ready (curtain .running fun _ => inDescent (windowFrom 9000 false) (heldAt 8800)) ∧
      (10 * ((9000 : Int) - (pos (curtain .running fun _ => inDescent (windowFrom 9000 false) (heldAt 8800)) : Int))).natAbs = 2000) :=
  ⟨shows (by decide +kernel), shows (by decide +kernel), shows (by decide +kernel)⟩

theorem witness_target :
    let q := CurtainParams.defaults
    (1000 ≤ q.slowZone) ∧ (q.slowZone < 1500 ∧ q.slowZone + q.ramp ≤ 1500) ∧
      (q.slowZone < 1499 ∧ 1499 < q.slowZone + q.ramp ∧ q.slowSpeed ≤ q.mainSpeed) := by decide

theorem witness_command :
    (((falling .test).evaluate 5000 601).1.sup.overspeedForce = false ∧ (falling .test).sup.overspeedForce = false) ∧
    (let d := { falling .test with sup := { (falling .test).sup with overspeedRun := 1, predictionRun := 2, clock := 40000 } }
     (d.evaluate 5000 601).1.sup.overspeedForce = true ∧ (d.evaluate 5000 600).1.sup.lateForce = true ∧
       2000 ≤ d.sup.clock ∧ (d.params.maxDrop : Int) * 100 < 40000 + (5000 - 1000) * 1000 / 600 + 1000 * 1000 / 150 ∧
       d.params.slowZone = 1000 ∧ d.params.slowSpeed = 150 ∧ d.record.faults.contains .late = false ∧
       (d.evaluate 5000 601).2.1 = [.overspeed, .late] ∧ (d.evaluate 5000 600).2.1 = [.late]) ∧
    (let d := { falling .test with sup := { (falling .test).sup with overspeedForce := true } }
     (d.evaluate 5000 400).2.2 ≠ [] ∧ (d.evaluate 5000 401).2.2 = [] ∧ d.params.mainSpeed = 400) ∧
    (let d := { falling .test with sup := { (falling .test).sup with lateForce := true } }
     d.sup.lateForce = true ∧ (d.evaluate 1000 (-5)).1.sup.lastPrediction = none) ∧
    ((falling .test).sup.clock < 2000 ∧ (falling .test).sup.stallRun ≤ 10) ∧
    (let d := { falling .test with sup := { (falling .test).sup with stallRun := 9 } }
     (d.evaluate 5000 19).2.1.contains .stall = true ∧ (d.evaluate 5000 20).2.1.contains .stall = false) := by decide +kernel

/-! ## Witnesses: chapter 5 -/

theorem witness_presets :
    (Ready (inPhase .running) ∧ (List.replicate 12 1001).length = 12 ∧ (14 : Nat) < 15 ∧ (inPhase .running).phase ≠ .evacuate ∧
      (inPhase .running).ilu.relay.line = true) ∧
    (Ready (inPhase .evacuate) ∧ (inPhase .evacuate).phase = .evacuate ∧ (inPhase .evacuate).ilu.relay.line = false) :=
  ⟨shows (by decide +kernel), shows (by decide +kernel)⟩

/-- A channel in a fade of 100 ms from 200 to 800. -/
def fadingChannel : ChannelRun :=
  { active := 200, fade := some { start := 200, target := 800, started := 0, duration := 100, origin := .go, evals := 0 } }

theorem witness_restore_and_fades :
    (Ready (inPhase .evacuate) ∧ ((inPhase .evacuate).fireFull = true ∨ (inPhase .evacuate).phase = .evacuate)) ∧
    (Ready base ∧ base.fireFull = false ∧ base.phase ≠ .evacuate ∧ base.hlu.emergencyDemand = true) ∧
    (let s := { base with now := 20, hlu := { base.hlu with channels := base.hlu.channels.set 11 fadingChannel } }
     s.held = none ∧ s.hlu.channels[11]? = some fadingChannel ∧ 0 + 20 * (0 + 1) ≤ s.now ∧ 20 * (0 + 1) < 100) ∧
    100 ≤ 20 * (4 + 1) :=
  ⟨shows (by decide +kernel), shows (by decide +kernel), by decide +kernel, by decide⟩

theorem witness_output_code :
    (ChannelConfig.defaultFor 0).trim ≤ 31 ∧ 1000 ≤ 1000 ∧ (ChannelConfig.defaultFor 0).curve = .square := by decide

/-! ## Witnesses: chapter 6 -/

/-- A SMOKE device at every address of a list, enabled, in zone 2, and a scan list of them. -/
def onLoop (s : State) (as : List Nat) : State :=
  { s with
    settings := { s.settings with
      devices := s.settings.devices.mapIdx fun i d => if i + 1 ∈ as then { d with enabled := true, zone := 2 } else d,
      scanList := as },
    fdu := { s.fdu with devices := s.fdu.devices.mapIdx fun i d => if i + 1 ∈ as then DeviceRecord.reset true else d } }

/-- A poll of an address whose slot has ended. -/
def polled (s : State) (a : Nat) (f : DeviceRecord → DeviceRecord) : State :=
  let s := onLoop s [1, 64]
  { s with
    now := 25,
    fdu := { s.fdu with
      poll := some { kind := .scan, address := a, started := 0 }, slotDue := 25, devices := s.fdu.devices.modify (a - 1) f } }

theorem witness_slot_start :
    (let s := onLoop base [1, 64]
     s.held = none ∧ s.fdu.poll = none ∧ s.fdu.slotDue ≤ s.now ∧ s.fdu.contDue = true ∧
       (addresses.all fun a => !(s.fdu.device a).retry) = true) ∧
    (let s := polled base 64 fun d => { d with retry := true }
     (s.fdu.device 64).retry = true ∧ (∀ b ∈ List.range 64, (s.fdu.device b).retry = false)) ∧
    (let s := onLoop base [1, 64]
     let f := { s.fdu with contDue := false, interleave := 3, watch := [1, 2, 64], watchPtr := some 1 }
     f.watchPtr = some 1 ∧ f.watch = [] ++ 1 :: [2, 64] ∧ 1 ∉ ([] : List Nat) ∧ [2, 64] ++ f.watch = [2] ++ 64 :: [1, 2, 64] ∧
       (∀ b ∈ [2], b ∉ s.settings.scanList) ∧ 64 ∈ s.settings.scanList ∧ (∀ a ∈ [2], a ∉ s.settings.scanList)) ∧
    (let s := onLoop base [1, 64]
     let c := { s.settings with devices := s.settings.devices.set 63 { s.settings.device 64 with enabled := false } }
     let f := { s.fdu with scanPtr := 1 }
     (∀ p, f.watchPtr = some p → p ∉ f.watch) ∧ 1 < c.scanList.length ∧ (c.device (c.scanList.getD ((f.scanPtr + 1) % 2) 0)).enabled = true ∧
       (c.device (c.scanList.getD ((f.scanPtr + 0) % 2) 0)).enabled = false) ∧
    (∀ a ∈ base.settings.scanList, (base.settings.device a).enabled = false) ∧
    (let s := onLoop base [1, 64]
     ∀ a ∈ s.fdu.watch, a ∉ s.settings.scanList) := by
  refine ⟨by decide +kernel, by decide +kernel, by decide +kernel, ?_, by decide +kernel, by decide +kernel⟩
  exact ⟨fun p h => (by cases h), by decide +kernel, by decide +kernel, by decide +kernel⟩

/-- A good reply of a device of a type, with its sum: the type code and the status of these tests are bytes like any
others, since the manual numbers neither (log 64). -/
def replyWith (ty : DeviceType) (value : Nat) (operated fault : Bool) : Reception :=
  { firstByte := some 2000, complete := some 20000, lateByte := false,
    bytes := { typeCode := 165, value, status := 90, sum := (1 + (256 - value)) % 256 },
    names := some ty, operated, fault, test := false }

/-- A good reply of a SMOKE device. -/
def reply (value : Nat) : Reception := replyWith .smoke value false false

/-- A reply whose sum is one more than R111 chooses. -/
def wrongSum (r : Reception) : Reception := { r with bytes := { r.bytes with sum := r.bytes.sum + 1 } }

theorem witness_poll_replies :
    (let s := polled base 64 id
     s.held = none ∧ s.fdu.poll = some { kind := .scan, address := 64, started := 0 } ∧ 0 + 25 ≤ s.now ∧
       (s.fdu.devices[63]?).isSome = true ∧ (s.fdu.device 64).state = .normal ∧ (s.fdu.device 64).miss ≠ 2 ∧
       judgeSlot s.fdu.mode Reception.silent Reception.silent = .noReply ∧
       judgeSlot s.fdu.mode (wrongSum (reply 5)) Reception.silent = .error ∧
       judgeSlot s.fdu.mode (reply 59) Reception.silent = .good (reply 59).reply ∧ 59 < (s.settings.device 64).preAlarm ∧
       (s.settings.device 64).preAlarm ≤ (s.settings.device 64).alarm ∧ s.fdu.isolated (s.settings.device 64).zone = false) ∧
    (let s := polled base 1 fun d => { d with miss := 2, state := .alarm }
     (s.fdu.device 1).miss = 2 ∧ (s.fdu.device 1).state = .alarm) ∧
    (let s := polled base 1 fun d => { d with miss := 2 }
     (s.fdu.device 1).miss = 2 ∧ (s.fdu.device 1).state ≠ .alarm ∧ (s.fdu.device 1).state ≠ .missing) ∧
    (let s := polled base 1 fun d => { d with miss := 3, state := .missing }
     (s.fdu.device 1).state = .missing ∧ (s.fdu.device 1).mismatch = false) := by decide +kernel

/-- Zone 2 has its delay, and the public is in. -/
def delayed : State :=
  let s := inPhase .houseOpen
  { s with settings := { s.settings with zones := s.settings.zones.set 1 { cls := .auditorium, delay := true } } }

theorem witness_confirmed_alarm :
    (let s := polled delayed 64 fun d => { d with confirm := 2 }
     s.held = none ∧ (s.fdu.device 64).state = .normal ∧ (s.fdu.device 64).mismatch = false ∧
       judgeSlot s.fdu.mode (reply 100) Reception.silent = .good (reply 100).reply ∧
       (reply 100).reply.type = .known (s.settings.device 64).type ∧ (s.settings.device 64).alarm ≤ 100 ∧
       (s.fdu.device 64).confirm = 2 ∧ s.fdu.isolated 2 = false ∧ s.fdu.fire.walk = none ∧ s.fdu.fire.state = .quiet ∧
       s.fdu.watch.Nodup ∧ (s.settings.device 64).type = .smoke ∧ (s.settings.zone 2).delay = true ∧ s.phase = .houseOpen) ∧
    (let s := polled (inPhase .dark) 1 fun d => { d with confirm := 2, state := .preAlarm }
     (s.fdu.device 1).state = .preAlarm ∧ (s.settings.zone 2).delay = false) := by decide +kernel

/-- A poll of address 1 (or 64) of another type of device, and what its last reply left. -/
def polledType (ty : DeviceType) (f : DeviceRecord → DeviceRecord) : State :=
  let s := polled base 1 f
  { s with settings := { s.settings with devices := s.settings.devices.modify 0 fun d => { d with type := ty } } }

/-- The hypotheses that every good reply of a device in a zone that is not isolated has. -/
def goodReply (s : State) (ra : Reception) : Bool :=
  s.held.isNone && (s.fdu.poll.map (·.address)) == some 1 && (s.fdu.devices[0]?).isSome && !(s.fdu.device 1).mismatch &&
    decide (judgeSlot s.fdu.mode ra Reception.silent = .good ra.reply) && !ra.reply.test && decide s.fdu.watch.Nodup &&
    !s.fdu.isolated (s.settings.device 1).zone

theorem witness_device_changes :
    (let s := polled base 1 id
     goodReply s (reply 60) = true ∧ (s.fdu.device 1).state = .normal ∧ (s.settings.device 1).preAlarm = 60 ∧
       (s.settings.device 1).alarm = 100 ∧ goodReply s (reply 99) = true) ∧
    (let s := polled base 1 fun d => { d with state := .preAlarm }
     goodReply s (reply 59) = true ∧ (s.fdu.device 1).state = .preAlarm ∧ (s.fdu.device 1).clear = 0) ∧
    (let s := polled base 1 fun d => { d with state := .preAlarm, clear := 1 }
     goodReply s (reply 59) = true ∧ (s.fdu.device 1).clear ≠ 0) ∧
    (let s := polledType .callpoint id
     goodReply s (replyWith .callpoint 0 true false) = true ∧ (s.fdu.device 1).confirm = 0) ∧
    (let s := polled base 1 id
     goodReply s (replyWith .smoke 99 false true) = true ∧ (s.fdu.device 1).state = .normal) ∧
    (let s := polled base 1 fun d => { d with state := .fault }
     goodReply s (replyWith .smoke 59 false true) = true ∧ goodReply s (reply 59) = true ∧ (s.fdu.device 1).recovery = 0) ∧
    (let s := polled base 1 fun d => { d with state := .fault, recovery := 1 }
     goodReply s (reply 59) = true ∧ (s.fdu.device 1).recovery ≠ 0) ∧
    (let s := polled base 1 id
     goodReply s (replyWith .heat 99 false false) = true ∧ (replyWith .heat 99 false false).reply.type ≠ .known (s.settings.device 1).type) ∧
    (let s := polled base 1 fun d => { d with state := .alarm }
     goodReply s (replyWith .heat 99 false false) = true ∧ goodReply s (reply 99) = true ∧ (s.fdu.device 1).state = .alarm) := by
  decide +kernel

/-- The moments of a good reply at their limits, each passed by 1 in turn, and the ends against one another. -/
theorem witness_replies_judged :
    let r : Reception := { reply 7 with firstByte := some 8000, complete := some 20000 }
    let later : Reception := { reply 8 with complete := some 20000 }
    let sooner : Reception := { reply 9 with complete := some 19999 }
    r.names = some .smoke ∧ (165 + 7 + 90 + r.bytes.sum) % 256 = 0 ∧ { r with names := none }.names = none ∧
      judgeSlot .oneEnd r sooner = .good r.reply ∧ judgeSlot .oneEnd Reception.silent r = .noReply ∧
      (∀ bad ∈ [{ r with firstByte := some 8001 }, { r with complete := some 20001 }, { r with complete := none },
        { r with lateByte := true }, wrongSum r], judgeSlot .oneEnd bad r = .error ∧ judgeSlot .twoEnd bad r = .good r.reply ∧
        judgeSlot .twoEnd Reception.silent bad = .error) ∧
      judgeSlot .twoEnd r later = .good r.reply ∧ judgeSlot .twoEnd r sooner = .good sooner.reply ∧
      judgeSlot .twoEnd Reception.silent Reception.silent = .noReply := by decide +kernel

/-- R112, TABLE XLII: 200 + 200 + 100 + 12 is 512; a sum one off is an error, and its reply is not evaluated. -/
theorem test_reply_sum :
    (let r : Reception := { reply 0 with bytes := ⟨200, 200, 100, 12⟩ }
     judgeSlot .oneEnd r Reception.silent = .good { type := .known .smoke, value := 200, operated := false, fault := false, test := false } ∧
       judgeSlot .oneEnd (wrongSum r) Reception.silent = .error ∧ judgeSlot .twoEnd (wrongSum r) r = .good r.reply ∧
       judgeSlot .oneEnd { r with names := none } Reception.silent =
         .good { type := .other 200, value := 200, operated := false, fault := false, test := false }) ∧
    answers (.pollSlotEnd (wrongSum (reply 60)) Reception.silent) (polled base 1 id) (fun t =>
      (t.fdu.device 1).errors = 1 && (t.fdu.device 1).miss = 1 && (t.fdu.device 1).state = .normal) = true := by decide +kernel

theorem test_pre_alarm :
    answers (.pollSlotEnd (reply 60) Reception.silent) (polled base 1 id) (fun t =>
      (t.fdu.device 1).state = .preAlarm && t.fdu.watch = [1]) = true := by decide +kernel

/-- Device 1, of a type, in zone 2, which is isolated. -/
def shielded (ty : DeviceType) (f : DeviceRecord → DeviceRecord) : State :=
  let s := polledType ty f
  { s with fdu := { s.fdu with isolation := s.fdu.isolation.set 1 (some 9000) } }

/-- The hypotheses that every good reply that is not judged has, for a device in a state. -/
def unjudged (s : State) (ra : Reception) (st : DeviceState) : Bool :=
  s.held.isNone && (s.fdu.poll.map (·.address)) == some 1 && decide ((s.fdu.devices[0]?).map (·.state) = some st) &&
    decide (judgeSlot s.fdu.mode ra Reception.silent = .good ra.reply) && decide s.fdu.watch.Nodup &&
    (ra.reply.test || (s.fdu.device 1).mismatch || decide (ra.reply.type ≠ .known (s.settings.device 1).type) ||
      (s.fdu.isolated 2 && decide ((s.settings.device 1).zone = 2) && isolable (s.settings.device 1).type))

/-- A good reply in self-test. -/
def testing (r : Reception) : Reception := { r with test := true }

theorem witness_unjudged_replies :
    (∀ st ∈ ([.normal, .preAlarm, .alarm, .missing, .fault] : List DeviceState),
      unjudged (shielded .smoke fun d => { d with state := st }) (reply 255) st = true ∧
      unjudged (shielded .beam fun d => { d with state := st, recovery := 1 }) (replyWith .beam 255 true false) st = true ∧
      unjudged (polled base 1 fun d => { d with state := st }) (testing (reply 255)) st = true ∧
      unjudged (polled base 1 fun d => { d with state := st, mismatch := true }) (reply 255) st = true ∧
      unjudged (polled base 1 fun d => { d with state := st, mismatch := true }) (replyWith .heat 255 false false) st = true) ∧
    (shielded .smoke id).fdu.isolated 2 = true ∧ ((shielded .smoke id).settings.device 1).zone = 2 := by decide +kernel

theorem witness_isolated_heat :
    (let s := shielded .heat fun d => { d with confirm := 1 }
     s.fdu.isolated 2 = true ∧ (s.settings.device 1).type = .heat ∧ (s.fdu.device 1).state = .normal ∧
       (s.settings.device 1).alarm ≤ 100 ∧ (s.fdu.device 1).confirm = 1 ∧ s.fdu.fire.walk = none ∧ s.fdu.watch.Nodup ∧
       judgeSlot s.fdu.mode (replyWith .heat 100 false false) Reception.silent = .good (replyWith .heat 100 false false).reply) ∧
    (let s := shielded .callpoint id
     s.fdu.isolated 2 = true ∧ (s.settings.device 1).type ≠ .smoke ∧ (s.settings.device 1).type ≠ .beam) := by decide +kernel

/-- R123: in an isolated zone a SMOKE device's reading of 255 is recorded and no more, and a HEAT device confirms its alarm. -/
theorem test_isolated_replies :
    answers (.pollSlotEnd (reply 255) Reception.silent) (shielded .smoke id) (fun t =>
        (t.fdu.device 1).value = 255 && (t.fdu.device 1).state = .normal && (t.fdu.device 1).confirm = 0 && t.fdu.watch = []) = true ∧
      answers (.pollSlotEnd (replyWith .heat 100 false false) Reception.silent) (shielded .heat fun d => { d with confirm := 1 })
        (fun t => (t.fdu.device 1).state = .alarm) = true := by decide +kernel

/-- R116, R117: a reply in self-test resets no count, and one of a latched device ends at the type step. -/
theorem test_unjudged_replies :
    answers (.pollSlotEnd (testing (reply 5)) Reception.silent) (polled base 1 fun d => { d with state := .preAlarm, confirm := 2, clear := 1 })
        (fun t => (t.fdu.device 1).confirm = 2 && (t.fdu.device 1).clear = 1 && (t.fdu.device 1).test) = true ∧
      answers (.pollSlotEnd (reply 5) Reception.silent) (polled base 1 fun d => { d with state := .fault, mismatch := true, recovery := 1 })
        (fun t => (t.fdu.device 1).state = .fault && (t.fdu.device 1).value = 5) = true := by decide +kernel

theorem test_type_mismatch :
    answers (.pollSlotEnd (replyWith .heat 5 false false) Reception.silent) (polled base 1 id) (fun t =>
      (t.fdu.device 1).state = .fault && (t.fdu.device 1).mismatch) = true := by decide +kernel

theorem witness_continuity :
    (let s := { base with now := 30000 }
     s.held = none ∧ s.fdu.contNext ≤ s.now) ∧
    (let s := { base with now := 10, fdu := { base.fdu with failRun := 1, poll := some { kind := .continuity, address := 0, started := 0 } } }
     s.fdu.mode = .oneEnd ∧ s.fdu.failRun = 1 ∧ 0 + 10 ≤ s.now ∧ s.now ≤ 0 + 10) ∧
    (let s := { base with now := 10, fdu := { base.fdu with mode := .twoEnd, passRun := 1, poll := some { kind := .continuity, address := 0, started := 0 } } }
     s.fdu.mode = .twoEnd ∧ s.fdu.passRun = 1 ∧ s.now ≤ 0 + 10) ∧
    (let s := polled base 64 fun d => { d with walk := some 25 }
     (s.fdu.devices[64 - 1]?.bind (·.walk)) = some 25 ∧ 25 ≤ s.now) := by decide +kernel

/-! ## Witnesses: chapter 7 -/

/-- Zones 1 to 5 of class STAGE, so many of them isolated until 1000 ms. -/
def isolatedZones (n : Nat) (p : Phase) : State :=
  let s := inPhase p
  { s with
    settings := { s.settings with zones := s.settings.zones.mapIdx fun i z => if i < 5 then { z with cls := .stage } else z },
    fdu := { s.fdu with isolation := (List.range 16).map fun i => if i < n then some 1000 else none } }

theorem witness_isolation :
    (Ready (inPhase .dark) ∧ ((inPhase .dark).settings.zone 16).cls = .auditorium) ∧
    (Ready (isolatedZones 4 .dark) ∧ ((isolatedZones 4 .dark).settings.zone 5).cls = .stage ∧
      (isolatedZones 4 .dark).fdu.isolated 5 = false ∧ 4 ≤ (isolatedZones 4 .dark).fdu.isolatedCount ∧
      (isolatedZones 4 .dark).fdu.isolated 1 = true ∧ (isolatedZones 4 .dark).fireFull = false ∧
      (isolatedZones 4 .dark).fdu.zoneStatus 5 ≠ .alarm ∧ (isolatedZones 4 .dark).fdu.underWalk 5 = false) ∧
    (Ready (isolatedZones 3 .dark) ∧ (isolatedZones 3 .dark).fdu.isolatedCount < 4) ∧
    (let s := isolatedZones 1 .dark
     let s := { s with fdu := s.fdu.setFire { s.fdu.fire with walk := some ⟨2, 0, 0⟩ } }
     Ready s ∧ s.fdu.underWalk 2 = true ∧ (s.settings.zone 2).cls = .stage) ∧
    (let s := isolatedZones 0 .dark
     let s := { s with fdu := { s.fdu with status := s.fdu.status.set 1 .alarm } }
     Ready s ∧ s.fdu.zoneStatus 2 = .alarm) ∧
    (let s := { isolatedZones 4 .dark with now := 1000 }
     s.fdu.expiry 4 = some 1000 ∧ 1000 ≤ s.now) :=
  ⟨shows (by decide +kernel), shows (by decide +kernel), shows (by decide +kernel), shows (by decide +kernel),
    shows (by decide +kernel), by decide +kernel⟩

/-- A fire state with its timer at 0. -/
def alert (st : FireState) : State := fire .running fun f => f.setFire { f.fire with state := st, timer := some 0 }

theorem witness_alert_and_full :
    (Ready (alert (.staffAlert .awaitingAck)) ∧ (alert (.staffAlert .awaitingAck)).fdu.fire.timer = some 0) ∧
    (Ready (alert (.staffAlert .investigating)) ∧ (alert (.staffAlert .investigating)).fdu.fire.state ≠ .staffAlert .awaitingAck) ∧
    (Ready (inPhase .running) ∧ (inPhase .running).fireFull = false) ∧
    (Ready silencedFull ∧ silencedFull.fireFull = true ∧ silencedFull.fdu.fire.silenced = true) ∧
    (let s := settle { silencedFull with fdu := silencedFull.fdu.setFire { silencedFull.fdu.fire with silenced := false } }
     Ready s ∧ s.fireFull = true ∧ s.fdu.fire.silenced = false) :=
  ⟨shows (by decide +kernel), shows (by decide +kernel), shows (by decide +kernel), shows (by decide +kernel),
    shows (by decide +kernel)⟩

/-- An evacuation call that waits its turn. -/
def evacEntry : CallEntry :=
  { id := 1, source := .safety, cls := .evac, slot := some 3, zones := 0xFF#8, bell := 0, repeats := 0, gap := 0, plays := 0,
    state := .waiting 5000, arrival := 1, pool := false }

theorem witness_silence_and_reset :
    (let s := settle { silencedFull with
       fdu := silencedFull.fdu.setFire { silencedFull.fdu.fire with silenced := false, evacCall := some 1 },
       clu := { base.clu with entries := [evacEntry], nextId := 2, nextArrival := 2 } }
     Ready s ∧ s.fireFull = true ∧ s.fdu.fire.silenced = false ∧ s.fdu.fire.evacCall = some 1) ∧
    (Ready (inPhase .running) ∧ (inPhase .running).fdu.fire.state = .quiet) ∧
    (let s := { silencedFull with fdu := { silencedFull.fdu with
       devices := silencedFull.fdu.devices.set 0 { DeviceRecord.reset true with state := .alarm, value := 59 } } }
     Ready s ∧ s.fdu.fire.state ≠ .quiet ∧ s.fdu.fire.silenced = true ∧ s.fdu.devices.length = 64 ∧ (s.fdu.device 1).state = .alarm ∧
       (s.fdu.device 1).operated = false ∧ (s.fdu.device 1).value < (s.settings.device 1).preAlarm) ∧
    (let s := { silencedFull with fdu := { silencedFull.fdu with
       devices := silencedFull.fdu.devices.set 0 { DeviceRecord.reset true with state := .alarm, value := 60 } } }
     Ready s ∧ s.fdu.fire.state ≠ .quiet ∧ s.fdu.fire.silenced = true ∧ (s.fdu.device 1).state = .alarm ∧
       (s.settings.device 1).type = .smoke ∧ (s.settings.device 1).preAlarm ≤ (s.fdu.device 1).value) ∧
    (let s := { silencedFull with fdu := { silencedFull.fdu with
       devices := silencedFull.fdu.devices.set 63 { DeviceRecord.reset true with state := .alarm, operated := true } } }
     Ready s ∧ (s.fdu.device 64).state = .alarm ∧ (s.fdu.device 64).operated = true) :=
  ⟨shows (by decide +kernel), shows (by decide +kernel), shows (by decide +kernel), shows (by decide +kernel),
    shows (by decide +kernel)⟩

theorem witness_walk_test :
    (Ready (inPhase .dark) ∧ (inPhase .dark).phase = .dark ∧ (inPhase .dark).fdu.fire.state = .quiet ∧
      (inPhase .dark).fdu.fire.walk = none ∧ (inPhase .dark).fdu.isolated 16 = false) ∧
    (Ready (isolatedZones 1 .dark) ∧ (isolatedZones 1 .dark).fdu.isolated 1 = true) ∧
    (Ready silencedFull ∧ silencedFull.phase = .dark ∧ silencedFull.fdu.fire.state ≠ .quiet) ∧
    (Ready (inPhase .prepare) ∧ (inPhase .prepare).phase ≠ .dark) ∧
    (Ready (fire .dark fun f => f.setFire { f.fire with walk := some ⟨1, 0, 0⟩ }) ∧
      (fire .dark fun f => f.setFire { f.fire with walk := some ⟨1, 0, 0⟩ }).fdu.fire.walk = some ⟨1, 0, 0⟩) :=
  ⟨shows (by decide +kernel), shows (by decide +kernel), shows (by decide +kernel), shows (by decide +kernel),
    shows (by decide +kernel)⟩

/-- A walk test of zone 2, in DARK, with a device one reply before its confirming number. -/
def walking : State :=
  let s := polled base 1 fun d => { d with confirm := 2 }
  { s with fdu := s.fdu.setFire { s.fdu.fire with walk := some ⟨2, 0, 254⟩ } }

theorem witness_walk_confirmation :
    goodReply walking (reply 100) = true ∧ (walking.fdu.device 1).state = .normal ∧ (walking.settings.device 1).type = .smoke ∧
      (walking.settings.device 1).alarm ≤ 100 ∧ (walking.fdu.device 1).confirm = 2 ∧ walking.fdu.fire.walk = some ⟨2, 0, 254⟩ ∧
      (walking.settings.device 1).zone = 2 := by decide +kernel

theorem test_walk_confirmation :
    answers (.pollSlotEnd (reply 100) Reception.silent) walking (fun t =>
      (t.fdu.device 1).state = .normal && (t.fdu.device 1).walk = some 5025 && t.fdu.fire.walk = some ⟨2, 0, 255⟩ &&
        t.fdu.fire.state = .quiet) = true := by decide +kernel

/-! ## Witnesses: chapter 8 -/

/-- An entry of the host's, QUEUED. -/
def entry (id : Nat) (cls : CallClass) : CallEntry :=
  { id, source := .link, cls, slot := some 3, zones := 0x03#8, bell := 0, repeats := 2, gap := 5, plays := 0, state := .queued,
    arrival := id, pool := false }

/-- Templates 0 to 2 make calls: HOUSE for FOYER and BARS, HOUSE for STALLS, EVAC for every zone. -/
def withTemplates (s : State) : State :=
  { s with settings := { s.settings with
      templates := [⟨.houseClass, some 3, 0x03#8, 0, 2, 5⟩, ⟨.houseClass, some 3, 0x04#8, 0, 1, 0⟩, ⟨.evac, none, 0xFF#8, 5, 0, 0⟩] } }

/-- The host's reservation and the pool's places for HOUSE calls are used up. -/
def crowded : State :=
  let s := withTemplates (inPhase .prepare)
  { s with clu := { s.clu with
      nextId := 12, nextArrival := 12,
      entries := (List.range 11).map fun i =>
        { entry (i + 1) .showClass with state := .waiting 9000, slot := some (i + 9), pool := decide (5 ≤ i) } } }

theorem witness_calls_taken :
    (let s := withTemplates (inPhase .prepare)
     Ready s ∧ s.clu.nextArrival ≤ 4294967295 ∧ templateOk (s.settings.template 0) = true ∧ s.phase ≠ .evacuate ∧
       (s.settings.template 0).zones ≠ 0 ∧ s.clu.reservedInUse .link < 5 ∧ (s.settings.template 3).zones = 0) ∧
    (let s := withTemplates (inPhase .evacuate)
     Ready s ∧ s.phase = .evacuate ∧ (s.settings.template 2).cls = .evac ∧ (s.settings.template 0).cls = .houseClass) ∧
    (let s := withTemplates (inPhase .running)
     Ready s ∧ s.phase = .running ∧ withoutAudience (s.settings.template 1).zones = 0) ∧
    (let s := withTemplates (calls .prepare fun c => { c with
       entries := [{ entry 1 .houseClass with state := .waiting 900 }], nextId := 2, nextArrival := 2 })
     Ready s ∧ s.phase ≠ .running ∧ (s.settings.template 0).slot = some 3 ∧ (s.settings.template 0).zones = (entry 1 .houseClass).zones) ∧
    (Ready crowded ∧ 5 ≤ crowded.clu.reservedInUse .link ∧ 6 ≤ crowded.clu.poolInUse ∧
      (crowded.settings.template 0).cls = .houseClass ∧ crowded.clu.poolInUse < 8) ∧
    checkedBody { cls := 3, slot := 63, zones := 1, bell := 7, repeats := 1, gap := 0 } =
      some ⟨.houseClass, some 63, 1, 7, 1, 0⟩ :=
  ⟨shows (by decide +kernel), shows (by decide +kernel), shows (by decide +kernel), shows (by decide +kernel),
    shows (by decide +kernel), by decide +kernel⟩

/-- In RUNNING, template 1 calls HOUSE for FOYER, BARS and STALLS, and entry 1 is what it merges with. -/
def mergeInRunning : State :=
  let s := withTemplates (calls .running fun c => { c with
    entries := [{ entry 1 .houseClass with state := .waiting 900 }], nextId := 2, nextArrival := 2 })
  { s with settings := { s.settings with templates := s.settings.templates.set 1 ⟨.houseClass, some 3, 0x07#8, 0, 9, 60⟩ } }

theorem witness_call_merges :
    Ready mergeInRunning ∧ mergeInRunning.phase = .running ∧ templateOk (mergeInRunning.settings.template 1) = true ∧
      withoutAudience (mergeInRunning.settings.template 1).zones = (entry 1 .houseClass).zones ∧ (0x03#8 : ZoneSet) ≠ 0 :=
  shows (by decide +kernel)

theorem test_merge_in_running :
    answers (.callTemplate 1) mergeInRunning (fun t => t.clu.entries.map (fun e => (e.id, e.repeats, e.gap)) = [(1, 9, 60)]) = true := by
  decide +kernel

/-- A body or a template number that no call can have, at the ends of the ranges. -/
theorem witness_call_fields :
    Admits base ∧
    (∀ b ∈ ([⟨4, 0, 1, 0, 1, 0⟩, ⟨0, 64, 1, 0, 1, 0⟩, ⟨0, 254, 1, 0, 1, 0⟩, ⟨0, 0, 0, 0, 1, 0⟩, ⟨0, 0, 1, 8, 1, 0⟩,
        ⟨2, 0, 1, 0, 0, 0⟩, ⟨3, 0, 1, 0, 0, 0⟩, ⟨0, 255, 1, 0, 1, 0⟩] : List CallBody), checkedBody b = none) ∧
    15 < 16 := ⟨⟨rfl, rfl, by decide⟩, by decide +kernel, by decide⟩

/-- The part under an alarm, one reply before a further device is confirmed at address 64. -/
def furtherAlarm (s : State) : State :=
  let s := polled s 64 fun d => { d with confirm := 2 }
  { s with fdu := s.fdu.setFire { s.fdu.fire with count := 255 } }

/-- FULL and silenced, with the evacuation call of template 2 kept in the queue. -/
def keptEvacuation : State :=
  let s := withTemplates silencedFull
  settle { s with
    settings := { s.settings with fireTimes := { s.settings.fireTimes with evacTemplate := 2 } },
    fdu := s.fdu.setFire { s.fdu.fire with evacCall := some 1 },
    clu := { base.clu with entries := [{ evacEntry with slot := none, bell := 5 }], nextId := 2, nextArrival := 2 } }

/-- The hypotheses of a confirmed alarm at address 64. -/
def confirms (s : State) : Bool :=
  s.held.isNone && (s.fdu.poll.map (·.address)) == some 64 && decide (25 ≤ s.now) && (s.fdu.devices[63]?).isSome &&
    decide ((s.fdu.device 64).state = .normal) && !(s.fdu.device 64).mismatch &&
    decide (judgeSlot s.fdu.mode (reply 100) Reception.silent = .good (reply 100).reply) &&
    decide ((s.settings.device 64).type = .smoke ∧ (s.settings.device 64).alarm ≤ 100) && (s.fdu.device 64).confirm == 2 &&
    !s.fdu.isolated (s.settings.device 64).zone && s.fdu.fire.walk.isNone && decide s.fdu.watch.Nodup

theorem witness_further_alarm :
    (Ready (furtherAlarm (alert (.staffAlert .investigating))) ∧ confirms (furtherAlarm (alert (.staffAlert .investigating))) = true ∧
      (furtherAlarm (alert (.staffAlert .investigating))).fdu.fire.state = .staffAlert .investigating) ∧
    (Ready (furtherAlarm silencedFull) ∧ confirms (furtherAlarm silencedFull) = true ∧
      (furtherAlarm silencedFull).fdu.fire.state = .full ∧ (furtherAlarm silencedFull).settings.fireTimes.evacTemplate = 255) ∧
    (let s := furtherAlarm keptEvacuation
     let T : Template := { s.settings.template 2 with cls := .evac, repeats := 0 }
     Ready s ∧ confirms s = true ∧ s.fdu.fire.state = .full ∧ s.settings.fireTimes.evacTemplate = 2 ∧ templateOk T = true ∧
       s.clu.entries = [{ evacEntry with slot := T.slot, zones := T.zones, bell := 5 }] ∧ s.fdu.fire.evacCall = some evacEntry.id ∧
       (s.clu.decideCall s.now s.phase .safety T).2 = .admitted 1 true 0xFF#8) :=
  ⟨shows (by decide +kernel), shows (by decide +kernel), shows (by decide +kernel)⟩

/-- A second alarm in STAFF-ALERT is FULL at once (R138), and a further alarm in FULL sounds the silenced house again (R143). -/
theorem test_further_alarm :
    answers (.pollSlotEnd (reply 100) Reception.silent)
        (furtherAlarm (fire .dark fun f => f.setFire { f.fire with state := .staffAlert .awaitingAck })) (fun t =>
        t.fdu.fire.cause = some .secondAlarm && t.fdu.fire.count = 255 && t.phase = .dark) = true ∧
      answers (.pollSlotEnd (reply 100) Reception.silent) (furtherAlarm keptEvacuation) (fun t =>
        !t.fdu.fire.silenced && t.lines.sounders = List.replicate 4 true && t.fdu.fire.evacCall = some 1) = true := by decide +kernel

/-- The announcer at a stage of a play of entry 1. -/
def playing (a : Announcer) (f : Clu → Clu) (e : CallEntry) : State :=
  calls .prepare fun c => f { c with
    announcer := a, entries := [{ e with state := .playing 0x03#8 }], nextId := 2, nextArrival := 2 }

theorem witness_cancel_and_reset :
    (let s := playing (.speaking none true 90000) id (entry 1 .houseClass)
     Ready s ∧ s.clu.find 1 = some { entry 1 .houseClass with state := .playing 0x03#8 } ∧ (∀ e ∈ s.clu.entries, e.id ≠ 255)) ∧
    (Ready (inPhase .prepare) ∧ (inPhase .prepare).clu.failed = false) ∧
    (Ready (calls .prepare fun c => { c with failed := true }) ∧
      (calls .prepare fun c => { c with failed := true }).lmu.limitState 7 ≠ .low) ∧
    (let s := { monitor .prepare 7 .low with clu := { base.clu with failed := true } }
     Ready s ∧ s.clu.failed = true ∧ s.lmu.limitState 7 = .low) :=
  ⟨shows (by decide +kernel), shows (by decide +kernel), shows (by decide +kernel), shows (by decide +kernel)⟩

theorem witness_plays_made :
    (let s := playing (.settling 0) id { entry 1 .houseClass with bell := 1 }
     Ready s ∧ s.settings.bell 1 = [(20, 10)] ∧ s.clu.announcer ≠ .idle) ∧
    (let s := playing (.settling 0) id (entry 1 .houseClass)
     Ready s ∧ s.clu.failed = false ∧ s.clu.busy = false ∧ (entry 1 .houseClass).bell = 0 ∧ (entry 1 .houseClass).slot ≠ none) ∧
    Ready (playing (.bell [(20, 10)] true 0) id { entry 1 .houseClass with bell := 1 }) ∧
    Ready (playing (.bell [(10, 10), (10, 10)] false 0) id { entry 1 .houseClass with bell := 2 }) ∧
    Ready (playing (.bell [(20, 10)] false 0) id { entry 1 .houseClass with bell := 1 }) ∧
    Ready (playing (.speaking (some 0) false 450) id (entry 1 .houseClass)) ∧
    (let c := { base.clu with entries := [entry 1 .houseClass, entry 2 .showClass], nextId := 3, nextArrival := 3 }
     c.announcer = .idle ∧ (c.entries.map (·.arrival)).Nodup ∧ classRank .showClass < classRank .houseClass ∧
       playZones .prepare .showClass 0x03#8 ≠ 0) :=
  ⟨shows (by decide +kernel), shows (by decide +kernel), .of (by decide +kernel), .of (by decide +kernel), .of (by decide +kernel),
    .of (by decide +kernel), by decide +kernel⟩

/-- An entry of a class is speaking, and template 2 calls EVAC, template 1 ALERT. -/
def speakingOf (cls : CallClass) : State :=
  let s := withTemplates (playing (.speaking none true 90000) id { entry 1 cls with repeats := 2 })
  { s with settings := { s.settings with templates := s.settings.templates.set 1 ⟨.alert, some 9, 0xFF#8, 0, 1, 0⟩ } }

/-- A queue without a place: three SAFETY calls and eight of the pool, of a class. -/
def fullQueue (cls : CallClass) : Clu :=
  { base.clu with
    nextId := 12, nextArrival := 12,
    entries := (List.range 11).map fun i =>
      { entry (i + 1) cls with source := .safety, state := .waiting 9000, slot := some i, pool := decide (3 ≤ i) } }

theorem witness_preemption :
    (∀ cls ∈ ([.showClass, .houseClass, .alert, .evac] : List CallClass),
      (readyB (speakingOf cls) = true ∧ ((speakingOf cls).clu.playing.map (·.cls)) = some cls ∧
        (speakingOf cls).clu.reservedInUse .link < 5 ∧ templateOk ((speakingOf cls).settings.template 2) = true ∧
        templateOk ((speakingOf cls).settings.template 1) = true)) ∧
    ((speakingOf .houseClass).settings.template 1).cls = .alert ∧ ((speakingOf .houseClass).settings.template 2).cls = .evac := by
  decide +kernel

theorem witness_eviction :
    ∀ cls ∈ ([.houseClass, .showClass, .alert] : List CallClass),
      3 ≤ (fullQueue cls).reservedInUse .safety ∧ 8 ≤ (fullQueue cls).poolInUse ∧
        (fullQueue cls).entries.all (fun e => decide (e.cls = cls) && decide (e.state.effective = none)) = true ∧
        ((fullQueue cls).entries.map (·.arrival)).Nodup ∧ (fullQueue cls).nextArrival ≤ 4294967295 ∧
        readyB { base with clu := fullQueue cls } = true := by decide +kernel

theorem test_preemption :
    answers (.callTemplate 2) (speakingOf .alert) (fun t =>
      t.clu.entries.map (·.state) = [.queued, .queued] && t.clu.announcer = .stopping (some 50) 500) = true := by decide +kernel

/-- A play of an entry of a class, beside a WAITING entry of the host's EVAC call. -/
def speakingBeside (cls waiting : CallClass) (t : Nat) : State :=
  let s := withTemplates (calls .prepare fun c => { c with
    announcer := .speaking none true 90000, nextId := 3, nextArrival := 3,
    entries := [{ entry 1 cls with state := .playing 0x03#8 },
      { entry 2 waiting with slot := none, zones := 0xFF#8, bell := 5, repeats := 0, gap := 0, state := .waiting t }] })
  { s with settings := { s.settings with templates := s.settings.templates.set 1 ⟨.alert, none, 0xFF#8, 5, 1, 0⟩ } }

theorem witness_merge_preempts :
    ∀ cls ∈ ([.showClass, .houseClass, .alert, .evac] : List CallClass), ∀ w ∈ ([(.evac, 2), (.alert, 1)] : List (CallClass × Nat)),
      let s := speakingBeside cls w.1 9000
      readyB s = true ∧ (s.clu.playing.map fun e => (e.id, e.cls)) = some (1, cls) ∧ templateOk (s.settings.template w.2) = true ∧
        (s.settings.template w.2).cls = w.1 ∧
        (s.clu.find 2).map (fun m => (m.slot, m.zones, m.cls)) =
          some ((s.settings.template w.2).slot, (s.settings.template w.2).zones, w.1) := by decide +kernel

theorem test_merge_preempts :
    answers (.callTemplate 2) (speakingBeside .showClass .evac 9000) (fun t =>
      t.clu.entries.map (·.id) = [2] && t.clu.announcer = .stopping (some 50) 500) = true := by decide +kernel

/-- The arrival numbers at the top of their range, and past it. -/
def lateQueue (next : Nat) : State :=
  withTemplates (calls .prepare fun c => { c with
    announcer := .stopping none 500, nextId := 1, nextArrival := next,
    entries := [{ entry 7 .showClass with arrival := 4294967294, slot := some 9 },
      { entry 9 .houseClass with arrival := 4294967290, slot := some 8 }] })

theorem witness_renumbering :
    (∀ n ∈ ([4294967295, 4294967296] : List Nat), readyB (lateQueue n) = true ∧ templateOk ((lateQueue n).settings.template 0) = true) ∧
      (4294967295 ≤ 4294967295 ∧ ¬ (4294967296 ≤ 4294967295)) ∧ readyB { base with clu := { fullQueue .houseClass with nextArrival := 4294967296 } } = true := by
  decide +kernel

/-- Entry 9 came before entry 7, and keeps its place (R156). -/
theorem test_renumbering :
    answers (.callTemplate 0) (lateQueue 4294967296) (fun t =>
      t.clu.entries.map (fun e => (e.id, e.arrival)) = [(7, 2), (9, 1), (1, 3)] && t.clu.nextArrival = 4) = true := by decide +kernel

/-- The newest pool entry of class HOUSE gives way (R157). -/
theorem test_eviction :
    ((fullQueue .houseClass).decideCall 0 .prepare .safety ⟨.evac, none, 0xFF#8, 5, 0, 0⟩).1.clu.entries.map (·.arrival) =
      [1, 2, 3, 4, 5, 6, 7, 8, 9, 10, 12] := by decide +kernel

theorem witness_bell_only :
    (let s := playing (.settling 0) (fun c => { c with failed := true }) (entry 1 .houseClass)
     Ready s ∧ s.clu.failed = true ∧ s.clu.announcer = .settling 0 ∧ (entry 1 .houseClass).slot ≠ none) ∧
    (let s := playing (.settling 0) (fun c => { c with bellOnly := true }) { entry 1 .houseClass with repeats := 0, gap := 1 }
     Ready s ∧ s.clu.bellOnly = true) ∧
    (let s := playing (.bell [(20, 10)] false 0) (fun c => { c with bellOnly := true }) { entry 1 .houseClass with bell := 1, repeats := 1 }
     Ready s ∧ s.clu.failed = false) ∧
    (let s := playing (.settling 0) id { entry 1 .houseClass with slot := none }
     Ready s ∧ s.clu.busy = false) ∧
    (let s := playing (.settling 0) (fun c => { c with busy := true }) (entry 1 .houseClass)
     Ready s ∧ s.clu.busy = true ∧ s.clu.bellOnly = false) ∧
    (let s := playing (.settling 0) id (entry 1 .houseClass)
     Ready s ∧ s.clu.announcer ≠ .idle ∧ s.clu.busy = false) ∧
    (Ready (inPhase .prepare) ∧ (inPhase .prepare).clu.announcer = .idle ∧ ∀ f ∈ (inPhase .prepare).clu.entries, f.state ≠ .queued) :=
  ⟨shows (by decide +kernel), shows (by decide +kernel), shows (by decide +kernel), shows (by decide +kernel),
    shows (by decide +kernel), shows (by decide +kernel), shows (by decide +kernel)⟩

/-- A play that FAILED found in SETTLING stays bell-only after ANNOUNCER-RESET (R164). -/
theorem test_bell_only_kept :
    answers .announcerReset (playing (.settling 0) (fun c => { c with failed := true }) (entry 1 .houseClass)) (fun t =>
      !t.clu.failed && t.clu.bellOnly && answers .settlingEnd t fun u =>
        u.clu.entries.map (fun e => (e.plays, e.state)) = [(1, .waiting 5000)] && !u.lines.play) = true := by decide +kernel

theorem witness_plays_end :
    (let s := playing (.speaking none true 90000) (fun c => { c with busy := true }) { entry 1 .houseClass with plays := 1 }
     Ready s ∧ s.clu.busy = true ∧ (2 : Nat) ≤ min 255 (1 + 1)) ∧
    (let s := playing (.speaking none true 90000) (fun c => { c with busy := true }) (entry 1 .houseClass)
     Ready s ∧ min 255 (0 + 1) < 2 ∧ 0 < (entry 1 .houseClass).gap) ∧
    (let s := playing (.speaking none true 90000) (fun c => { c with busy := true }) { entry 1 .evac with repeats := 0, gap := 0 }
     Ready s ∧ s.clu.busy = true) ∧
    (let s := calls .prepare fun c => { c with
       entries := [{ entry 1 .showClass with state := .waiting 0 }], announcer := .stopping none 500, nextId := 2, nextArrival := 2 }
     Ready s ∧ s.clu.announcer ≠ .idle) ∧
    (let s := playing (.speaking none false 0) id (entry 1 .houseClass)
     Ready s ∧ s.clu.noStarts = 0) ∧
    (let s := playing (.speaking none false 0) (fun c => { c with noStarts := 1 }) (entry 1 .houseClass)
     Ready s ∧ s.clu.noStarts = 1 ∧ s.clu.failed = false) ∧
    Ready (playing (.speaking none true 0) (fun c => { c with busy := true }) (entry 1 .houseClass)) ∧
    (let s := calls .prepare fun c => { c with announcer := .stopping (some 0) 450, busy := true }
     Ready s ∧ s.clu.busy = true ∧ s.clu.failed = false) ∧
    (let s := calls .prepare fun c => { c with announcer := .stopping (some 0) 450 }
     Ready s ∧ s.clu.busy = false ∧ ∀ f ∈ s.clu.entries, f.state ≠ .queued) ∧
    (let s := calls .prepare fun c => { c with announcer := .stopping none 0, busy := true }
     Ready s ∧ s.clu.failed = false ∧ ∀ f ∈ s.clu.entries, f.state ≠ .queued) :=
  ⟨shows (by decide +kernel), shows (by decide +kernel), shows (by decide +kernel), shows (by decide +kernel),
    shows (by decide +kernel), shows (by decide +kernel), .of (by decide +kernel), shows (by decide +kernel),
    shows (by decide +kernel), shows (by decide +kernel)⟩

/-- In RUNNING, with the announcer in a state: entry 1 calls HOUSE for STALLS alone, entry 2 for FOYER and BARS. -/
def barred (a : Announcer) (busy : Bool) (st : EntryState) : State :=
  calls .running fun c => { c with
    announcer := a, busy, nextId := 3, nextArrival := 3,
    entries := [{ entry 1 .houseClass with zones := 0x04#8, state := st }, { entry 2 .houseClass with state := .waiting 9000 }] }

theorem witness_barred_and_ready :
    (let s := barred .idle false .queued
     QueueOk s.clu ∧ s.clu.announcer = .idle ∧ (s.clu.entries.map (·.arrival)).Nodup ∧
       ((0x04#8 : ZoneSet) &&& ~~~0b00011100#8) = 0) ∧
    (let s := barred .idle false (.waiting 0)
     Ready s ∧ s.phase = .running ∧ s.clu.announcer = .idle ∧ ∀ f ∈ s.clu.entries, f.state ≠ .queued) ∧
    (∀ cls ∈ ([.showClass, .houseClass, .alert, .evac] : List CallClass), ∀ w ∈ ([.evac, .alert] : List CallClass),
      readyB (speakingBeside cls w 0) = true ∧ ((speakingBeside cls w 0).clu.find 2).map (·.state) = some (.waiting 0)) ∧
    (let s := calls .prepare fun c => { c with
       announcer := .stopping none 500, nextId := 2, nextArrival := 2, entries := [{ entry 1 .evac with state := .waiting 0 }] }
     Ready s ∧ s.clu.announcer = .stopping none 500) ∧
    (let s := calls .prepare fun c => { c with nextId := 2, nextArrival := 2, entries := [{ entry 1 .evac with state := .waiting 0 }] }
     Ready s ∧ s.phase ≠ .running ∧ s.clu.announcer = .idle) :=
  ⟨(Ready.of (s := barred .idle false .queued) (by decide +kernel)).queue |> fun h => ⟨h, by decide +kernel⟩, shows (by decide +kernel),
    by decide +kernel, shows (by decide +kernel), shows (by decide +kernel)⟩

theorem witness_busy_falls :
    (let s := playing (.settling 0) (fun c => { c with busy := true }) (entry 1 .houseClass)
     Ready s ∧ s.clu.busy = true ∧ s.clu.announcer = .settling 0) ∧
    (let s := calls .prepare fun c => { c with announcer := .stopping none 500, busy := true }
     Ready s ∧ ∀ f ∈ s.clu.entries, f.state ≠ .queued) ∧
    (let s := barred (.stopping none 500) true .queued
     Ready s ∧ s.phase = .running ∧ (s.clu.entries.map (·.arrival)).Nodup ∧
       (s.clu.entries.filter fun f => f.state = .queued).map (·.id) = [1]) ∧
    (let s := calls .prepare fun c => { c with
       announcer := .stopping none 500, busy := true, nextId := 2, nextArrival := 2, entries := [entry 1 .houseClass] }
     Ready s ∧ s.phase ≠ .running ∧ (entry 1 .houseClass).state = .queued) :=
  ⟨shows (by decide +kernel), shows (by decide +kernel), shows (by decide +kernel), shows (by decide +kernel)⟩

theorem witness_strobe_ends :
    (let s := barred (.stopping (some 0) 450) false .queued
     Ready s ∧ s.phase = .running ∧ s.clu.busy = false ∧ (s.clu.entries.map (·.arrival)).Nodup ∧
       (s.clu.entries.filter fun f => f.state = .queued).map (·.id) = [1]) ∧
    (let s := calls .prepare fun c => { c with
       announcer := .stopping (some 0) 450, busy := true, failed := true, nextId := 2, nextArrival := 2,
       entries := [entry 1 .houseClass] }
     Ready s ∧ s.phase ≠ .running ∧ s.clu.failed = true ∧ (entry 1 .houseClass).state = .queued) ∧
    (let s := calls .prepare fun c => { c with
       announcer := .stopping none 0, busy := true, nextId := 2, nextArrival := 2, entries := [entry 1 .houseClass] }
     Ready s ∧ s.clu.failed = false ∧ s.phase ≠ .running) :=
  ⟨shows (by decide +kernel), shows (by decide +kernel), shows (by decide +kernel)⟩

/-- R158 and R162: the STOP strobe ends with BUSY low, and the entry QUEUED is played. -/
theorem test_strobe_end_selects :
    answers .stopStrobeEnd (calls .prepare fun c => { c with
        announcer := .stopping (some 0) 450, nextId := 2, nextArrival := 2, entries := [entry 1 .houseClass] }) (fun t =>
      t.clu.announcer = .settling 200 && t.clu.entries.map (·.state) = [.playing 0x03#8]) = true := by decide +kernel

/-- R158 and R162: BUSY falls, STOPPING ends, and the first entry is BARRED; R166: an EVAC entry returns and preempts. -/
theorem test_busy_falls_and_ready :
    answers .busyFall (barred (.stopping none 500) true .queued) (fun t =>
        t.clu.entries.map (·.id) = [2] && t.clu.announcer = .idle) = true ∧
      answers (.readyTime 2) (speakingBeside .alert .evac 0) (fun t =>
        t.clu.entries.map (·.state) = [.queued, .queued] && t.clu.announcer = .stopping (some 50) 500) = true := by decide +kernel

/-! ## Witnesses: the steps of TABLE XIX -/

/-- A state with a plan of one step, of an action, at the moment it falls due. -/
def due (a : StepAction) (s : State) : State :=
  { s with pfu := { s.pfu with
      runningCopy := some { plan with steps := (steps.take 1).map fun st => { st with action := a } }, table := [.pending],
      perf := { s.pfu.perf with clocks := { s.pfu.perf.clocks with act1 := ⟨.running, 10000⟩ } } } }

/-- A step of the action alone is due. -/
def isDue (a : StepAction) (s : State) : Bool :=
  s.pfu.dueSteps = [0] && (s.pfu.pendingStep 0).map (·.action) = some a

/-- PLAN's reservation is used up, and `k` places of the pool. -/
def planCrowded (k : Nat) : State :=
  let s := withTemplates (inPhase .prepare)
  { s with clu := { s.clu with
      nextId := 14, nextArrival := 14,
      entries := (List.range (5 + k)).map fun i =>
        { entry (i + 1) .showClass with
          source := .plan, state := .waiting 9000, slot := some (i + 9), pool := decide (5 ≤ i) } } }

theorem witness_due_calls :
    (let s := due (.call 3) (withTemplates (inPhase .running))
     Ready s ∧ isDue (.call 3) s = true ∧ (s.settings.template 3).zones = 0) ∧
    (let s := due (.bell 0 0x60#8) (inPhase .running)
     Ready s ∧ isDue (.bell 0 0x60#8) s = true) ∧
    (let s := due (.bell 8 0x60#8) (inPhase .running)
     Ready s ∧ isDue (.bell 8 0x60#8) s = true) ∧
    (let s := due (.call 0) (withTemplates (inPhase .evacuate))
     Ready s ∧ isDue (.call 0) s = true ∧ s.phase = .evacuate ∧ (s.settings.template 0).cls = .houseClass ∧
       templateOk (s.settings.template 0) = true) ∧
    (let s := due (.call 1) (withTemplates (inPhase .running))
     Ready s ∧ isDue (.call 1) s = true ∧ s.phase = .running ∧ (s.settings.template 1).cls = .houseClass ∧
       withoutAudience (s.settings.template 1).zones = 0 ∧ templateOk (s.settings.template 1) = true) ∧
    (let s := due (.call 0) (planCrowded 6)
     Ready s ∧ isDue (.call 0) s = true ∧ s.clu.reservedInUse .plan = 5 ∧ s.clu.poolInUse = 6 ∧
       (s.settings.template 0).cls = .houseClass ∧ (s.clu.mergeTarget (s.settings.template 0) 0x03#8).isNone) ∧
    (let s := due (.call 0) (planCrowded 5)
     Ready s ∧ isDue (.call 0) s = true ∧ s.clu.reservedInUse .plan = 5 ∧ s.clu.poolInUse = 5 ∧
       (s.clu.mergeTarget (s.settings.template 0) 0x03#8).isNone) ∧
    (let s := due (.bell 7 0xFF#8) (inPhase .running)
     Ready s ∧ isDue (.bell 7 0xFF#8) s = true ∧ s.clu.entries = [] ∧ withoutAudience 0xFF#8 = 0xE3#8 ∧
       s.clu.reservedInUse .plan < 5 ∧ s.clu.nextArrival ≤ 4294967295) ∧
    (let s := due (.call 0) (withTemplates (calls .prepare fun c => { c with
       announcer := .stopping none 500, nextId := 2, nextArrival := 2, entries := [entry 1 .houseClass] }))
     Ready s ∧ isDue (.call 0) s = true ∧ s.clu.entries = [] ++ entry 1 .houseClass :: [] ∧
       (s.clu.mergeTarget (s.settings.template 0) 0x03#8).isSome) :=
  ⟨shows (by decide +kernel), shows (by decide +kernel), shows (by decide +kernel), shows (by decide +kernel),
    shows (by decide +kernel), shows (by decide +kernel), shows (by decide +kernel), shows (by decide +kernel),
    shows (by decide +kernel)⟩

theorem witness_due_lights :
    (let s := due (.lights 16 0) (inPhase .running)
     Ready s ∧ isDue (.lights 16 0) s = true) ∧
    (let s := due (.lights 15 0) (inPhase .evacuate)
     Ready s ∧ isDue (.lights 15 0) s = true ∧ s.ilu.relay.line = false) ∧
    (let s := due (.lights 15 0) (inPhase .running)
     Ready s ∧ isDue (.lights 15 0) s = true ∧ s.ilu.relay.line = true ∧ s.hlu.channels.length = 12) ∧
    (let s := due (.lights 1 6001) (inPhase .running)
     Ready s ∧ isDue (.lights 1 6001) s = true ∧ s.ilu.relay.line = true) :=
  ⟨shows (by decide +kernel), shows (by decide +kernel), shows (by decide +kernel), shows (by decide +kernel)⟩

theorem witness_due_lower :
    (let s := due .curtainLower (inPhase .running)
     Ready s ∧ isDue .curtainLower s = true ∧ s.phase = .running) ∧
    (let s := due .curtainLower (curtain .interval fun _ => down)
     Ready s ∧ isDue .curtainLower s = true ∧ s.ctc.state = .down) ∧
    (let s := due .curtainLower (curtain .interval fun c => { c with edge := true })
     Ready s ∧ isDue .curtainLower s = true ∧ s.ctc.state = .up ∧ s.ctc.edge = true) ∧
    (let s := due .curtainLower (curtain .interval fun _ => heldAt 500)
     Ready s ∧ isDue .curtainLower s = true ∧ s.ctc.state = .held ∧ s.ctc.edge = false ∧ s.ctc.floor = false) ∧
    (let s := due .curtainLower (curtain .closed fun c => { c with floor := true })
     Ready s ∧ isDue .curtainLower s = true ∧ s.ctc.state = .up ∧ s.ctc.edge = false ∧ s.ctc.floor = true) :=
  ⟨shows (by decide +kernel), shows (by decide +kernel), shows (by decide +kernel), shows (by decide +kernel),
    shows (by decide +kernel)⟩

theorem witness_due_raise :
    (let s := due .curtainRaise (inPhase .stopped)
     Ready s ∧ isDue .curtainRaise s = true ∧ s.phase = .stopped) ∧
    (let s := due .curtainRaise silencedFull
     Ready s ∧ isDue .curtainRaise s = true ∧ s.phase = .dark ∧ s.fireFull = true) ∧
    (let s := due .curtainRaise (curtain .interval fun _ => { down with overtravel := true })
     Ready s ∧ isDue .curtainRaise s = true ∧ s.fireFull = false ∧ s.ctc.overtravel = true) ∧
    (let s := due .curtainRaise (inPhase .interval)
     Ready s ∧ isDue .curtainRaise s = true ∧ s.ctc.state = .up ∧ s.lmu.limitState 0 ≠ .high ∧
       s.ctc.faults.contains .encoder = false ∧ s.ctc.overtravel = false) ∧
    (let s := due .curtainRaise (curtain .interval fun _ => heldAt 8979)
     Ready s ∧ isDue .curtainRaise s = true ∧ s.ctc.state = .held ∧ s.ctc.top = false ∧
       pos s + 20 < s.settings.curtain.travel) ∧
    (let s := due .curtainRaise (curtain .interval fun _ => heldAt 8980)
     Ready s ∧ isDue .curtainRaise s = true ∧ s.settings.curtain.travel ≤ pos s + 20 ∧
       s.settings.curtain.travel ≤ pos s + 100) ∧
    (let s := due .curtainRaise (curtain .interval fun _ => { heldAt 8899 with top := true })
     Ready s ∧ isDue .curtainRaise s = true ∧ s.ctc.top = true ∧ pos s + 100 < s.settings.curtain.travel) :=
  ⟨shows (by decide +kernel), shows (by decide +kernel), shows (by decide +kernel), shows (by decide +kernel),
    shows (by decide +kernel), shows (by decide +kernel), shows (by decide +kernel)⟩

theorem witness_due_test :
    (let s := due .curtainTest (inPhase .closed)
     Ready s ∧ isDue .curtainTest s = true ∧ s.phase = .closed) ∧
    (let s := due .curtainTest (monitor .houseOpen 1 .low)
     Ready s ∧ isDue .curtainTest s = true ∧ s.lmu.limitState 1 = .low) ∧
    (let s := due .curtainTest (curtain .interval fun _ => heldAt 500)
     Ready s ∧ isDue .curtainTest s = true ∧ s.ctc.state = .held ∧ s.lmu.limitState 1 ≠ .low ∧
       s.ctc.faults.contains .encoder = false) ∧
    (let s := due .curtainTest (curtain .interval fun c => { c with edge := true })
     Ready s ∧ isDue .curtainTest s = true ∧ s.ctc.state = .up ∧ s.ctc.edge = true) ∧
    (let s := due .curtainTest (inPhase .houseOpen)
     Ready s ∧ isDue .curtainTest s = true ∧ s.ctc.state = .up ∧ s.ctc.edge = false ∧ s.ctc.floor = false) ∧
    (let s := due .curtainTest (curtain .interval fun c => { c with floor := true })
     Ready s ∧ isDue .curtainTest s = true ∧ s.ctc.state = .up ∧ s.ctc.edge = false ∧ s.ctc.floor = true) :=
  ⟨shows (by decide +kernel), shows (by decide +kernel), shows (by decide +kernel), shows (by decide +kernel),
    shows (by decide +kernel), shows (by decide +kernel)⟩

/-- TABLE XIX: a BELL step in RUNNING rings as source PLAN without the audience zones, and a LIGHTS step starts its own fade. -/
theorem test_steps_issued :
    answers .stepDue (due (.bell 7 0xFF#8) (inPhase .running)) (fun t =>
        t.pfu.table = [.done] && t.clu.entries.map (fun e => (e.source, e.bell, e.zones, e.slot)) = [(.plan, 7, 0xE3#8, none)]) = true ∧
      answers .stepDue (due (.lights 2 40) (inPhase .running)) (fun t =>
        t.pfu.table = [.done] && t.hlu.channels.all (fun r => r.fade.map (·.duration) = some 4000)) = true := by decide +kernel

/-- R38, R51: a CURTAIN-RAISE step in an act is refused, and its entry says so. -/
theorem test_step_refused :
    answers .stepDue (due .curtainRaise (inPhase .running)) (fun t => t.pfu.table = [.refused .wrongPhase]) = true := by
  decide +kernel

/-! ## Witnesses: chapters 9 to 11 -/

/-- Line-monitor channel `n` one conversion before a change of its limit state, its turn next. -/
def lineAbout (s : State) (n v : Nat) (side : LimitState) : State :=
  { s with
    now := 5 * (n + 1),
    lmu :=
      { conversions := n,
        channels := s.lmu.channels.set n
          { s.lmu.channel n with held := [v, v, v, v], filtered := some v, candidate := some side, run := 2 } } }

theorem witness_conversions :
    (let l : Limits := ⟨300, 800⟩
     let c : LineChannel := { LineChannel.reset with held := [500, 500, 299] }
     c.held.length = 3 ∧ ([500, 500] : List Nat).length < 3 ∧ (500 + 500 + 299 + 0) / 4 = 324 ∧ (324 < l.low) = False) ∧
    (let s := lineAbout (curtain .prepare fun _ => rising 500) 0 1023 .high
     Ready s ∧ (s.lmu.conversions + 1) * 5 ≤ s.now ∧ s.lmu.channels.length = 8 ∧
       ((s.lmu.channel 0).convert s.now (s.settings.limit 0) 1023).state = .high ∧ s.lmu.limitState 0 = .normal ∧
       s.ctc.state = .raising) ∧
    (let s := lineAbout (inPhase .running) 1 0 .low
     Ready s ∧ ((s.lmu.channel 1).convert s.now (s.settings.limit 1) 0).state = .low ∧ s.phase = .running) ∧
    (let s := lineAbout (inPhase .running) 5 0 .low
     Ready s ∧ ((s.lmu.channel 5).convert s.now (s.settings.limit 5) 0).state = .low) ∧
    (let s := lineAbout (inPhase .running) 7 0 .low
     Ready s ∧ ((s.lmu.channel 7).convert s.now (s.settings.limit 7) 0).state = .low) :=
  ⟨by decide, shows (by decide +kernel), shows (by decide +kernel), shows (by decide +kernel), shows (by decide +kernel)⟩

/-- The desk with a key state and a down set, at 2 ms. -/
def desk (k : KeyState) (keys : List Nat) : State :=
  let s := inPhase .running
  { s with now := 2, dsu := { s.dsu with key := k, down := keys } }

theorem witness_channel_7 :
    (∀ a ∈ ([.idle, .stopping (some 50) 500, .stopping none 500] : List Announcer),
      let s := lineAbout (calls .prepare fun c => { c with announcer := a }) 7 0 .low
      readyB s = true ∧ ((s.lmu.channel 7).convert s.now (s.settings.limit 7) 0).state = .low ∧ s.clu.failed = false ∧
        ∀ f ∈ s.clu.entries, f.state ≠ .queued) ∧
    (∀ a ∈ ([.settling 200, .bell [(1, 1)] true 50, .speaking (some 50) false 500, .speaking none true 90000] : List Announcer),
      let s := lineAbout (playing a id (entry 1 .houseClass)) 7 0 .low
      readyB s = true ∧ ((s.lmu.channel 7).convert s.now (s.settings.limit 7) 0).state = .low ∧ s.clu.failed = false ∧
        s.clu.playing = some { entry 1 .houseClass with state := .playing 0x03#8 }) ∧
    (let s := lineAbout (barred (.stopping none 500) true .queued) 7 0 .low
     readyB s = true ∧ s.clu.announcer = .stopping none 500 ∧ (s.clu.entries.map (·.arrival)).Nodup ∧
       (s.clu.entries.filter fun f => f.state = .queued).map (·.id) = [1]) ∧
    (let s := lineAbout (playing (.settling 200) (fun c => { c with failed := true }) (entry 1 .houseClass)) 7 0 .low
     readyB s = true ∧ s.clu.failed = true) := by decide +kernel

/-- R163: channel 7 LOW stops a play in SPEAKING, which counts as done, and lets one in SETTLING go on. -/
theorem test_channel_7 :
    answers (.lineConversion 0) (lineAbout (playing (.speaking none true 90000) id (entry 1 .houseClass)) 7 0 .low) (fun t =>
        t.clu.failed && t.lines.stop && t.clu.entries.map (fun e => (e.plays, e.state)) = [(1, .waiting 5040)]) = true ∧
      answers (.lineConversion 0) (lineAbout (playing (.settling 200) id (entry 1 .houseClass)) 7 0 .low) (fun t =>
        t.clu.failed && t.clu.announcer = .settling 200) = true := by decide +kernel

theorem witness_column :
    (let s := desk .idle []
     s.held = none ∧ s.dsu.columnDue ≤ s.now ∧ s.dsu.scanAt + 1 < s.dsu.order.length) ∧
    (let s := desk (.held 3 none) [3]
     s.dsu.columnDue ≤ s.now ∧ (3 : Nat) / 6 = s.dsu.column) ∧
    (let s := desk (.pressDebounce 20) [5]
     s.dsu.columnDue ≤ s.now) := by decide +kernel

/-- The last column of a scan, with another order and dwell in force. -/
def lastColumn (k : KeyState) (keys : List Nat) : State :=
  let s := desk k keys
  { s with
    dsu := { s.dsu with scanAt := 7 },
    settings := { s.settings with desk := { s.settings.desk with order := [7, 0], dwell := 4 } } }

theorem witness_last_column :
    (let s := lastColumn .idle []
     s.held = none ∧ s.dsu.columnDue ≤ s.now ∧ s.dsu.order.length ≤ s.dsu.scanAt + 1) ∧
    (let s := lastColumn (.held 6 none) [6, 42]
     s.dsu.columnDue ≤ s.now ∧ s.dsu.order.length ≤ s.dsu.scanAt + 1 ∧ s.dsu.column = 7 ∧
       s.settings.desk.order ≠ s.dsu.order) := by decide +kernel

/-- R183, R184: the keys of columns that the new order does not name leave the down set. -/
theorem test_last_column :
    answers (.columnRead 0b000001#6) (lastColumn (.held 6 none) [6, 42]) (fun t =>
      t.dsu.down = [42] && t.dsu.key = .releaseDebounce none && t.dsu.order = [7, 0] && t.dsu.columnDue = 6) = true := by
  decide +kernel

/-- Key 3 is long and stops the show. -/
def longKey (s : State) (m : DeskMode) : State :=
  { s with settings := { s.settings with
      desk := { s.settings.desk with mode := m }, keys := s.settings.keys.set 3 { action := .showStop, long := true } } }

theorem witness_desk_timers :
    (let s := longKey (desk (.pressDebounce 2) [3]) .act
     s.held = none ∧ 2 ≤ s.now ∧ s.dsu.down = [3] ∧ (s.settings.key 3).long = true) ∧
    (let s := longKey (desk (.pressDebounce 2) [47]) .report
     (s.settings.key 47).long = false ∧ s.settings.desk.mode = .report) ∧
    (let s := desk (.pressDebounce 2) [0, 47]
     s.dsu.down = 0 :: 47 :: []) ∧
    (desk (.releaseDebounce (some 2)) []).dsu.key = .releaseDebounce (some 2) ∧
    (let s := longKey (desk (.held 3 (some 2)) [3]) .act
     s.dsu.key = .held 3 (some 2) ∧ s.settings.desk.mode = .act ∧ (s.settings.key 3).action = .showStop ∧ s.phase = .running) ∧
    (let s := inPhase .dark
     let s := longKey { s with now := 2, dsu := { s.dsu with key := .held 3 (some 2), down := [3], refusedUntil := some 2, flashDue := 2 } } .act
     s.phase = .dark ∧ s.dsu.refusedUntil = some 2 ∧ s.dsu.flashDue ≤ s.now) := by decide +kernel

/-- Key 3 fires at 2 ms, with its action, in a mode of the desk. -/
def keyed (s : State) (m : DeskMode) (a : KeyAction) (long : Bool) : State :=
  settle { s with
    now := 2,
    settings := { s.settings with
      desk := { s.settings.desk with mode := m }, keys := s.settings.keys.set 3 { action := a, long } },
    dsu := { s.dsu with key := if long then .held 3 (some 2) else .pressDebounce 2, down := [3] } }

theorem witness_key_fires :
    (∀ x ∈ ([(inPhase .prepare, .phase .openHouse), (inPhase .running, .showStop), (inPhase .running, .evacuate),
        (inPhase .running, .fireFull), (withTemplates (inPhase .running), .call 2),
        (curtain .prepare fun _ => rising 500, .curtainHalt), (inPhase .running, .lightsGo 15), (inPhase .running, .houseFull),
        (alert (.staffAlert .awaitingAck), .fireAck),
        (fire .evacuate fun f => f.setFire { f.fire with state := .full }, .fireSilence), (inPhase .running, .none)] :
        List (State × KeyAction)),
      readyB (keyed x.1 .act x.2 true) = true ∧ readyB (keyed x.1 .both x.2 true) = true ∧
        readyB (keyed x.1 .report x.2 true) = true ∧ (keyed x.1 .act x.2 true).settings.key 3 = { action := x.2, long := true }) ∧
    (let s := keyed (withTemplates (inPhase .running)) .both (.call 2) false
     s.settings.key 3 = { action := .call 2, long := false } ∧ s.dsu.key = .pressDebounce 2 ∧ s.dsu.down = [3] ∧
       s.clu.reservedInUse .desk < 3 ∧ templateOk (s.settings.template 2) = true ∧
       playZones s.phase .evac (s.settings.template 2).zones ≠ 0 ∧ s.clu.entries = []) ∧
    (keyed (alert (.staffAlert .awaitingAck)) .act .fireAck true).fdu.fire.state = .staffAlert .awaitingAck ∧
    (keyed (curtain .prepare fun _ => rising 500) .act .curtainHalt true).ctc.state = .raising ∧
    (keyed (inPhase .running) .act .houseFull true).ilu.relay.line = true := by decide +kernel

theorem witness_key_phases :
    (∀ x ∈ ([(inPhase .houseOpen, .phase .begin), (inPhase .interval, .phase .begin), (inPhase .resuming, .phase .begin),
        (inPhase .running, .phase .interval), (lastAct, .phase .endShow), (inPhase .stopped, .phase .endShow),
        (inPhase .stopped, .phase .resume), (inPhase .prepare, .curtainLower),
        (curtain .prepare fun c => { c with floor := true }, .curtainLower), (curtain .interval fun _ => heldAt 20, .curtainLower),
        (curtain .prepare fun _ => heldAt 8979, .curtainRaise), (curtain .prepare fun _ => heldAt 8980, .curtainRaise),
        (curtain .prepare fun _ => { heldAt 8899 with top := true }, .curtainRaise)] : List (State × KeyAction)),
      readyB (keyed x.1 .act x.2 true) = true ∧ readyB (keyed x.1 .both x.2 true) = true ∧
        (keyed x.1 .act x.2 true).settings.key 3 = { action := x.2, long := true } ∧
        (keyed x.1 .act x.2 true).dsu.key = .held 3 (some 2)) ∧
    (∀ p ∈ ([.houseOpen, .interval, .resuming] : List Phase), mayBegin (keyed (inPhase p) .act (.phase .begin) true) = true) ∧
    (let s := keyed (inPhase .running) .act (.phase .interval) true
     s.phase = .running ∧ s.pfu.perf.act < s.pfu.perf.acts ∧ s.pfu.runningCopy = some plan) ∧
    (let s := keyed lastAct .act (.phase .endShow) true
     s.phase = .running ∧ s.pfu.perf.act = s.pfu.perf.acts) ∧
    (let s := keyed (inPhase .stopped) .act (.phase .resume) true
     s.pfu.perf.suspendedClock = some (actClock 1) ∧ s.fireQuiet = true ∧ s.pfu.perf.resume = some .resuming) ∧
    (let s := keyed (inPhase .prepare) .act .curtainLower true
     s.phase = .prepare ∧ s.ctc.state = .up ∧ s.ctc.edge = false ∧ s.ctc.floor = false) ∧
    (let s := keyed (curtain .prepare fun _ => heldAt 8979) .act .curtainRaise true
     s.phase = .prepare ∧ s.fireFull = false ∧ s.lmu.limitState 0 ≠ .high ∧ s.ctc.faults.contains .encoder = false ∧
       s.ctc.overtravel = false ∧ s.ctc.state = .held ∧ s.ctc.top = false ∧ pos s + 20 < s.settings.curtain.travel) := by
  decide +kernel

/-- R187: a key's BEGIN and CURTAIN-LOWER are decided as those of source DESK. -/
theorem test_key_begin_and_lower :
    answers .longTimerExpiry (keyed (inPhase .interval) .act (.phase .begin) true) (fun t =>
        t.phase = .running && t.pfu.perf.act = 2) = true ∧
      answers .longTimerExpiry (keyed (inPhase .prepare) .both .curtainLower true) (fun t =>
        t.ctc.cause = some .request && !t.lines.brake) = true := by decide +kernel

theorem witness_key_refused :
    (∀ x ∈ ([(inPhase .dark, .phase .openHouse), (inPhase .dark, .phase .begin), (inPhase .dark, .phase .interval),
        (inPhase .dark, .phase .endShow), (inPhase .dark, .phase .resume), (inPhase .dark, .showStop), (inPhase .dark, .evacuate),
        (inPhase .stopped, .curtainLower), (inPhase .stopped, .curtainRaise), (inPhase .stopped, .curtainHalt),
        (inPhase .evacuate, .lightsGo 0), (inPhase .evacuate, .houseFull), (inPhase .dark, .fireAck), (inPhase .dark, .fireSilence),
        (inPhase .dark, .call 15), (fire .evacuate fun f => f.setFire { f.fire with state := .full }, .fireFull),
        (curtain .interval fun _ => heldAt 500, .phase .begin),
        (fire .stopped fun f => f.setFire { f.fire with state := .staffAlert .awaitingAck }, .phase .resume)] :
        List (State × KeyAction)), readyB (keyed x.1 .both x.2 true) = true) ∧
    (inPhase .dark).phase = .dark ∧ (inPhase .dark).fdu.fire.state = .quiet ∧ ((inPhase .dark).settings.template 15).zones = 0 ∧
    (inPhase .stopped).ctc.state = .up ∧ (inPhase .evacuate).ilu.relay.line = false ∧
    (curtain .interval fun _ => heldAt 500).ctc.state ≠ .up ∧
    (fire .stopped fun f => f.setFire { f.fire with state := .staffAlert .awaitingAck }).fireQuiet = false ∧
    (fire .evacuate fun f => f.setFire { f.fire with state := .full }).fdu.fire.silenced = false := by decide +kernel

theorem witness_frames :
    (base.held = none ∧ base.lp.frame = none ∧ base.lp.restarting = false ∧ base.lp.inbound.length < 2) ∧
    (let s := { base with now := 50, lp := { base.lp with frame := some 0 } }
     s.lp.frame = some 0 ∧ 0 + 50 ≤ s.now) ∧
    (let f : InboundFrame := { kind := .request .status, reply := some (.done .empty) }
     2 ≤ [f, f].length) := by decide +kernel

theorem witness_outbound :
    (let s := { base with lp := Lp.afterPowerOn }
     s.lp.line = some (.notice { cls := .unstated .reset, time := 0, body := .reset .powerOn }) ∧ s.lp.readyReply = none ∧
       s.lp.notices.length = 1) ∧
    (let f : InboundFrame := { kind := .request .restart, reply := some (.done .empty) }
     let s := { base with lp := { base.lp with line := some (.reply 0 0), inbound := [f] } }
     s.held = none ∧ s.lp.readyReply = some (.done .empty) ∧ f.kind = .request .restart ∧ f.reply = some (.done .empty)) ∧
    (let f : InboundFrame := { kind := .request .status, reply := some (.done .empty) }
     f.kind ≠ .request .restart) := by
  refine ⟨⟨rfl, rfl, rfl⟩, by decide +kernel, by decide +kernel⟩

theorem witness_frame_bytes :
    (List.replicate 59 255).length ≤ 59 ∧
    (let s := { base with lp := { base.lp with frame := some 0 } }
     s.held = none ∧ s.lp.restarting = false ∧ s.lp.frame = some 0) ∧
    ((61 : Nat) > 60) ∧ (true = false ∨ [5] ≠ ([] : List Nat)) ∧
    ((List.replicate 61 0).length ≤ 60 + 1 ∧ 60 + 1 ≤ (List.replicate 61 0).length ∧
      (60 + ((List.replicate 61 0).take (60 + 1)).sum) % 256 ≠ 0) ∧
    ([0, 255, 9].length > 1 + 1 ∧ (1 + ([0, 255, 9].take (1 + 1)).sum) % 256 = 0) ∧ base.lp.frame = none := by decide +kernel

/-- The bytes of a frame of two body bytes, by TABLE LXIX. -/
theorem test_frame_bytes : (frameBytes 7 [1, 2]).take 3 = [0xC3, 3, 7] ∧ ((frameBytes 7 [1, 2]).drop 1).sum % 256 = 0 := by
  decide +kernel

theorem witness_reply_parts :
    (let f : InboundFrame := { kind := .request .status, reply := some (.done .empty) }
     let s := { base with lp := { base.lp with line := some (.reply 0 1), inbound := [f] } }
     s.held = none ∧ s.lp.line = some (.reply 0 (0 + 1))) ∧
    (let f : InboundFrame := { kind := .request .status, reply := some (.done .empty) }
     let s := { base with lp := { base.lp with line := some (.reply 2 0), inbound := [f] } }
     s.lp.line = some (.reply 2 0) ∧ f.kind ≠ .request .restart) ∧
    (requestOf .status = some .status ∧ requestOf .sampleRead = some .sampleRead) := by decide +kernel

theorem witness_restart_counts_status : Ready base := .of (by decide +kernel)

theorem witness_settings :
    (Ready base ∧ base.phase = .dark ∧ (64 : Nat) ≤ 64 ∧ (base.fdu.device 64).state ≠ .alarm ∧ (base.fdu.devices[64 - 1]?).isSome = true ∧
      base.fdu.watch.Nodup ∧ base.settings.devices.length = 64) ∧
    (Ready (inPhase .running) ∧ (inPhase .running).phase ≠ .dark ∧ (inPhase .running).phase ≠ .prepare) ∧
    (Ready (inPhase .prepare) ∧ (inPhase .prepare).phase = .prepare) ∧
    (let s := { base with fdu := { base.fdu with devices := base.fdu.devices.set 0 { DeviceRecord.reset true with state := .alarm } } }
     Ready s ∧ (s.fdu.device 1).state = .alarm) ∧
    (1 ≤ [(40, 40)].length ∧ ∀ x ∈ [((40 : Nat), (40 : Nat))], 1 ≤ x.1 ∧ x.1 ≤ 40 ∧ 1 ≤ x.2 ∧ x.2 ≤ 40) ∧
    classCode .houseClass = 3 :=
  ⟨shows (by decide +kernel), shows (by decide +kernel), shows (by decide +kernel), shows (by decide +kernel), by decide, by decide⟩

theorem witness_read_ranges :
    (Ready (inPhase .running) ∧ (inPhase .running).pfu.table.length = 3 ∧ (inPhase .running).pfu.table[0]? = some .pending ∧
      (inPhase .running).pfu.runningCopy = some plan ∧ (plan.steps.map (·.anchor.clock))[0]? = some .act1 ∧
      ((inPhase .running).pfu.perf.clocks.get .act1).run = .running ∧ ((inPhase .running).store.sector .a).state = .sealed) ∧
    (3 < 2 + 2 ∧ 24 < 25 ∧ 23 < 24 ∧ 4 < 5) ∧
    (∀ i ∈ ([.unknown 0, .channel 12, .preset 15, .device 0, .device 65, .zone 0, .zone 17, .template 16, .bell 0, .bell 8, .limits 8,
        .keyBinding 48, .lampBinding 8] : List ConfigItem), itemOk i = false) :=
  ⟨shows (by decide +kernel), by decide, by decide⟩

/-- 5 s into act 1 the note at 10 s is 5000 ms ahead, and a step of another clock has no time to its due time (R40). -/
theorem test_step_remaining :
    (List.range 3).map (fun i => (inPhase .running).pfu.readStep i) =
      [⟨0, .pending, some 5000⟩, ⟨1, .pending, none⟩, ⟨2, .pending, none⟩] := by decide +kernel

theorem witness_reading :
    (Ready (inPhase .prepare) ∧ (inPhase .prepare).store.busy = false ∧ ((inPhase .prepare).store.sector .a).state ≠ .empty ∧
      0 + 3 ≤ (inPhase .prepare).pfu.table.length ∧ itemOk (.keyBinding 47) = true ∧ 42 + 6 ≤ 48 ∧ 33 + 32 ≤ 65) ∧
    (Ready (inPhase .dark) ∧ (inPhase .dark).pfu.table = []) :=
  ⟨shows (by decide +kernel), shows (by decide +kernel)⟩

/-- Each item at the ends of its range, and one past them. -/
theorem witness_configuration :
    (Ready (inPhase .prepare) ∧ (inPhase .prepare).phase ≠ .dark) ∧
    (Ready (isolatedZones 1 .dark) ∧ (isolatedZones 1 .dark).fdu.isolated 1 = true ∧
      CallClass.evac ≠ .alert ∧ ((isolatedZones 1 .dark).settings.zone 1).cls ≠ .auditorium ∧
      (isolatedZones 1 .dark).fdu.isolated 16 = false) ∧
    (Ready base ∧ base.phase = .dark ∧ (base.settings.device 1).preAlarm = 60 ∧ (base.settings.limit 7).high ≤ 1023 ∧
      base.settings.curtain.mainSpeed = 400) ∧
    (let v : CurtainParams := { CurtainParams.defaults with travel := 2000, counts := 50, slowSpeed := 399, mainSpeed := 800 }
     ¬ v.slowSpeed ≤ 300) ∧
    (let v : CurtainParams := { CurtainParams.defaults with travel := 15000, counts := 2000, slowSpeed := 300, mainSpeed := 301, slowZone := 2000 }
     v.slowSpeed < v.mainSpeed ∧ v.slowSpeed < base.settings.curtain.mainSpeed) ∧
    ((List.range 64).map (· + 1)).Nodup ∧ ((List.range 64).map (· + 1)).length ≤ 64 ∧ ¬ [1, 1].Nodup ∧
    classCode .evac = 0 ∧ classCode .houseClass = 3 := by
  refine ⟨shows (by decide +kernel), shows (by decide +kernel), shows (by decide +kernel), by decide, by decide, by decide, by decide,
    by decide, by decide, by decide⟩

/-- The slow speed carried is tested against the main speed in force also (R47). -/
theorem test_curtain_against_in_force :
    answers (.configSet (.curtain { CurtainParams.defaults with mainSpeed := 800, slowSpeed := 300 }))
        { base with settings := { base.settings with curtain := { CurtainParams.defaults with mainSpeed := 300, slowSpeed := 100 } } }
        (fun t => t.settings.curtain.mainSpeed = 300) = true := by decide +kernel

theorem witness_readings :
    (let s := inPhase .interval
     Ready s ∧ s.phase = .interval) ∧
    (let s := curtain .prepare fun _ => inDescent (falling .request) (heldAt 4000)
     Ready s ∧ s.ctc.descent.isSome = true) ∧
    (let s := { base with hlu := { base.hlu with channels := base.hlu.channels.set 11 fadingChannel } }
     s.hlu.channels[11]? = some fadingChannel ∧ s.hlu.channels[0]? = some { active := 1000, fade := none }) ∧
    (let c := { base.clu with entries := [entry 1 .houseClass, { entry 2 .showClass with state := .waiting 9 }] }
     (entry 1 .houseClass).state = .queued ∧ c.entries.length = 2) ∧
    (base.settings.lamps.length = 8 ∧ base.settings.channels.length = 12 ∧ base.settings.keys.length = 48 ∧
      base.settings.bells.length = 7 ∧ base.settings.templates.length = 16 ∧ base.settings.presets.length = 15) := by
  refine ⟨shows (by decide +kernel), shows (by decide +kernel), by decide +kernel, by decide +kernel, by decide +kernel⟩

theorem witness_interlock_read : Ready (inPhase .running) := .of (by decide +kernel)

/-! ## Ill-formed commands, one for each check -/

theorem test_wf_refuses :
    (∀ c ∈ ([.planOpen none { header with name := [65] }, .planOpen none { header with name := List.replicate 12 256 },
        .planOpen none { header with acts := 256 }, .planOpen none { header with interval1 := 65536 },
        .planOpen none { header with interval2 := 65536 }, .planOpen none { header with interval3 := 65536 },
        .planOpen none { header with prepare := ⟨256, 0⟩ }, .planOpen none { header with houseOpen := ⟨0, 65536⟩ },
        .planOpen none { header with running := ⟨256, 0⟩ }, .planOpen none { header with interval := ⟨256, 0⟩ },
        .planOpen none { header with closed := ⟨256, 0⟩ }, .planPut none 256 1 [], .planPut none 0 256 [],
        .planPut none 0 1 (List.replicate 8 ⟨0, 0, 0, 0, 0, 0⟩), .planPut none 0 1 [⟨256, 0, 0, 0, 0, 0⟩],
        .planPut none 0 1 [⟨0, 32768, 0, 0, 0, 0⟩], .planPut none 0 1 [⟨0, -32769, 0, 0, 0, 0⟩],
        .planPut none 0 1 [⟨0, 0, 256, 0, 0, 0⟩], .planPut none 0 1 [⟨0, 0, 0, 256, 0, 0⟩],
        .planPut none 0 1 [⟨0, 0, 0, 0, 0, 65536⟩], .planSeal none 256, .planRead none (.slots 256 1),
        .planRead none (.slots 0 256), .stepRead 256 1, .stepRead 0 256, .extend 65536, .encoderCountChange 65536,
        .presetWrite 256 (List.replicate 12 0), .presetWrite 0 [0], .presetWrite 0 (List.replicate 12 65536),
        .lightsGo 256 0, .lightsGo 0 65536, .fadeEvaluation 12, .walkIndicationExpiry 0, .walkIndicationExpiry 65,
        .deviceRead 256, .deviceCounts 256 1, .deviceCounts 1 256, .zoneIsolate 256 1, .zoneIsolate 1 65536, .zoneRestore 256,
        .isolationExpiry 0, .isolationExpiry 17, .walkTest 256, .templateWrite 256 ⟨0, 0, 0, 0, 0, 0⟩,
        .templateWrite 0 ⟨256, 0, 0, 0, 0, 0⟩, .call ⟨0, 256, 0, 0, 0, 0⟩, .call ⟨0, 0, 0, 256, 0, 0⟩, .call ⟨0, 0, 0, 0, 256, 0⟩,
        .call ⟨0, 0, 0, 0, 0, 256⟩, .callTemplate 256, .readyTime 0, .readyTime 256, .callCancel 256, .queueRead 256 1,
        .queueRead 0 256, .lineConversion 1024, .unknownKind (.notRequest 256)] : List Instr), c.wf = false) ∧
    (∀ r ∈ ([reply 256, { reply 1 with bytes := ⟨256, 1, 90, 0⟩ }, { reply 1 with bytes := ⟨165, 1, 256, 0⟩ },
        { reply 1 with bytes := ⟨165, 1, 90, 256⟩ }, { reply 1 with firstByte := some 25000 }, { reply 1 with complete := some 25000 },
        { reply 1 with complete := some 1999 }, { reply 1 with firstByte := none },
        { reply 1 with firstByte := none, complete := none, lateByte := true }] : List Reception),
      (Instr.pollSlotEnd r (reply 1)).wf = false ∧ (Instr.pollSlotEnd (reply 1) r).wf = false) := by decide +kernel

theorem test_wf_accepts :
    ∀ c ∈ ([.planOpen (some .a) header, .planPut (some .a) 0 3 records, .lineConversion 1023, .fadeEvaluation 11,
      .pollSlotEnd (reply 255) Reception.silent, .walkIndicationExpiry 64, .isolationExpiry 16, .readyTime 255] : List Instr),
      c.wf = true := by decide +kernel

/-! ## Reset -/

/-- The release of a power-on reset of a part whose store was never written gives `State.reset` (R2, R49, R194, R200). -/
theorem test_reset_release :
    exec .resetRelease { State.reset with held := some .powerOn, lp := Lp.reset false, lines := FieldLines.held, now := 7 } =
      .next State.reset := by rfl

/-- R45, R145, R177: every output goes to its de-energised state. -/
theorem test_reset_assert :
    answers (.resetAssert .resetInput) (inPhase .running) (fun t =>
      t.held = some .resetInput && t.lines.retarder = 500 && !t.ilu.relay.line && t.lines.column = none) = true := by decide +kernel

/-! ## Chapter 1: TABLE XIII -/

/-- The decision of the request that has just joined the inbound buffer. -/
def decided (t : State) : Option Reply := (t.lp.inbound.getLast?).bind (·.reply)

theorem test_arm :
    answers (.arm (some .a)) (inPhase .dark) (fun t =>
      t.phase = .prepare && t.pfu.perf.plan = some .a && t.pfu.table = [.pending, .pending, .pending] && !t.pfu.perf.proven &&
        decided t = some (.done (.phase .prepare 0 0))) = true := by decide +kernel

theorem test_arm_blank_sector :
    answers (.arm (some .d)) (inPhase .dark) (fun t => decided t = some (.refused .noPlan .none)) = true := by decide +kernel

/-- The step at the house's opening is issued at once (R37, R38). -/
theorem test_open_house :
    answers .openHouse (inPhase .prepare) (fun t =>
      t.phase = .houseOpen && t.pfu.table = [.pending, .done, .pending] && t.pfu.perf.clocks.houseOpen = ⟨.running, 0⟩) = true := by
  decide +kernel

theorem test_begin_not_proven :
    answers .begin
      { inPhase .houseOpen with
        pfu := { (inPhase .houseOpen).pfu with perf := { (inPhase .houseOpen).pfu.perf with proven := false } } }
      (fun t => t.phase = .houseOpen && decided t = some (.refused .notProven .none)) = true := by decide +kernel

theorem test_begin_act_two :
    answers .begin (inPhase .interval) (fun t =>
      t.phase = .running && t.pfu.perf.act = 2 && t.pfu.perf.clocks.act2 = ⟨.running, 0⟩ &&
        t.pfu.perf.clocks.interval1.run = .ended && t.pfu.table = [.pending, .pending, .skipped]) = true := by decide +kernel

theorem test_interval :
    answers .interval (inPhase .running) (fun t =>
      t.phase = .interval && t.pfu.perf.intervalNo = 1 && t.pfu.perf.intervalLen = 600 && t.pfu.table[0]? = some .skipped) = true := by
  decide +kernel

theorem test_end_before_last_act :
    answers .endShow (inPhase .running) (fun t => decided t = some (.refused .wrongPhase .none)) = true := by decide +kernel

theorem test_end : answers .endShow lastAct (fun t => t.phase = .closed && t.pfu.table[2]? = some .skipped) = true := by
  decide +kernel

/-- TABLE XIII: SHOW-STOP in an act keeps RESUMING as the resume phase and pauses the act's clock. -/
theorem test_show_stop :
    answers .showStop (inPhase .running) (fun t =>
      t.phase = .stopped && t.pfu.perf.resume = some .resuming && t.pfu.perf.stopCause = .link && t.pfu.perf.stops = 1 &&
        t.pfu.perf.clocks.act1 = ⟨.paused, 5000⟩ && t.ctc.state = .preDrop && !t.ilu.hoist.line) = true := by decide +kernel

theorem test_show_stop_in_dark :
    answers .showStop (inPhase .dark) (fun t => decided t = some (.refused .wrongPhase .none)) = true := by decide +kernel

theorem test_resume :
    answers .resume (inPhase .stopped) (fun t =>
      t.phase = .resuming && t.pfu.perf.resume = none && t.pfu.perf.stopCause = .none && t.pfu.perf.stops = 1) = true := by
  decide +kernel

/-- R15, R175: the outputs go to their safe states (the fire state stands at FULL already). -/
theorem test_evacuate :
    answers .evacuate (fire .running fun f => f.setFire { f.fire with state := .full }) (fun t =>
      t.phase = .evacuate && !t.ilu.relay.line && !t.ilu.release.line &&
        t.lines.sounders = [true, true, true, true] && t.pfu.table = List.replicate 3 .skipped) = true := by
  decide +kernel

theorem test_close : answers .close (inPhase .evacuate) (fun t => t.phase = .closed) = true := by decide +kernel

theorem test_disarm :
    answers .disarm (inPhase .closed) (fun t =>
      t.phase = .dark && t.pfu.perf.plan = none && t.pfu.perf.acts = 0 && !t.pfu.perf.proven &&
        t.pfu.perf.clocks.closed.run = .ended) = true := by decide +kernel

/-! ## Chapter 2: the store, and TABLE XXI -/

theorem test_plan_put_then_end :
    answers (.storeOperationEnd true)
      { base with now := 400,
                  store := { base.store with planA := openA, inFlight := some { op := .put .a 1 (records.drop 1), started := 0 } } }
      (fun t => t.store.planA.slots.take 4 = records.map Slot.written ++ [.blank] && !t.store.busy) = true := by decide +kernel

theorem test_seal_with_gap :
    answers (.planSeal (some .a) 2) { base with store := { base.store with planA := openA } }
      (fun t => (match decided t with | some (.refused r _) => decide (r = .planBad ∨ r = .badField ∨ r = .wrongState) | _ => false) &&
        !t.store.busy) = true := by decide +kernel

/-- An interval of 900 s at 665 s. -/
def at665 : State :=
  let s := inPhase .interval
  { s with pfu := { s.pfu with
      perf := { s.pfu.perf with
        intervalLen := 900, clocks := { s.pfu.perf.clocks with interval1 := ⟨.running, 665000⟩ } } } }

/-- TABLE XXI: EXTEND 120 at 665,000 ms gives 1020 s, 355 s remaining. -/
theorem test_extend :
    answers (.extend 120) at665 (fun t => t.pfu.perf.intervalLen = 1020 && decided t = some (.done (.extended 120 1020 355))) = true := by
  decide +kernel

/-- TABLE XXI: EXTEND 5 is refused. -/
theorem test_extend_too_short : answers (.extend 5) at665 (fun t => decided t = some (.refused .badField .none)) = true := by
  decide +kernel

theorem test_step_due :
    answers .stepDue noteDue (fun t => t.pfu.table = [.done, .pending, .pending] && t.pfu.dueSteps = []) = true := by decide +kernel

theorem test_interval_expired : answers .intervalExpired intervalOver (fun t => t.pfu.expirySent && t.phase = .interval) = true := by
  decide +kernel

/-! ## Chapters 3 and 4: TABLES XXX to XXXII -/

theorem test_curtain_raise :
    answers .curtainRaise (curtain .prepare fun _ => down) (fun t =>
      t.ctc.state = .raising && t.ilu.hoist.line && t.ilu.release.line && t.ctc.raiseDeadline = some 120000 && !t.lines.brake) = true := by
  decide +kernel

theorem test_curtain_raise_in_act :
    answers .curtainRaise (inPhase .running) (fun t => decided t = some (.refused .wrongPhase .none)) = true := by decide +kernel

theorem test_curtain_lower :
    answers .curtainLower (inPhase .interval) (fun t =>
      t.ctc.cause = some .request && !t.ilu.release.line && t.lines.warning && t.lines.retarder = 500) = true := by decide +kernel

theorem test_arrival_proves :
    answers (.floorChange true) (curtain .prepare fun c => inDescent (falling .test) { c with count := 0 }) (fun t =>
      t.ctc.state = .down && t.pfu.perf.proven && (t.ctc.history.head?.bind (·.ending)) = some .arrived) = true := by decide +kernel

/-- A window of a descent with the figures before it. -/
def window (prev p clock u : Nat) (f : Supervision → Supervision) : State :=
  curtain .prepare fun _ =>
    inDescent { falling .request with u, sup := f { (falling .request).sup with prevPos := prev, clock } } (heldAt p)

/-- The figures a window leaves. -/
def figures (t : State) : Option (Nat × Option Int × Option Int) :=
  t.ctc.descent.map fun d => (d.u, d.sup.lastTarget, d.sup.lastPrediction)

/-- TABLE XXX, window 1. -/
theorem test_window_1 : answers .descentWindow (window 9000 8970 100 500 id) (fun t => figures t = some (450, some 400, some 33332)) = true := by
  decide +kernel

/-- 4.11.3, in the ramp: 450 becomes 512 against a target of 275. -/
theorem test_window_ramp :
    answers .descentWindow (window 1290 1250 5000 450 id) (fun t => (figures t).map (fun x => (x.1, x.2.1)) = some (512, some 275)) = true := by
  decide +kernel

/-- 4.11.3, truncation toward zero: 600 becomes 598. -/
theorem test_evaluate_truncates :
    (let d := { falling .request with u := 600 }
     (d.evaluate 1010 150).1.u) = 598 := by decide +kernel

/-- TABLE XXXI, windows 212 and 215. -/
theorem test_evaluate_overspeed :
    (let d := { falling .request with u := 600, sup := { (falling .request).sup with overspeedRun := 1, clock := 21200 } }
     let e := d.evaluate 940 350
     e.1.u = 1000 ∧ e.1.sup.overspeedForce = true ∧ e.2.1.contains .overspeed = true ∧ e.1.sup.lastPrediction = some 23885) ∧
    (let d := { falling .request with u := 1000, sup := { (falling .request).sup with overspeedForce := true, clock := 21500 } }
     let e := d.evaluate 877 130
     e.1.u = 990 ∧ e.1.sup.overspeedForce = false ∧ e.1.sup.lastPrediction = some 28246) := by decide +kernel

/-- TABLE XXXII, windows 21 and 22. -/
theorem test_evaluate_late :
    (let d := { falling .request with u := 350, sup := { (falling .request).sup with predictionRun := 1, clock := 2100 } }
     let e := d.evaluate 5010 100
     e.1.u = 200 ∧ e.1.sup.predictionRun = 2 ∧ e.1.sup.lastPrediction = some 48866) ∧
    (let d := { falling .request with u := 200, sup := { (falling .request).sup with predictionRun := 2, clock := 2200 } }
     let e := d.evaluate 5000 100
     e.1.u = 0 ∧ e.1.sup.lateForce = true ∧ e.2.1.contains .late = true) := by decide +kernel

theorem test_edge_holds :
    answers (.edgeTrip true) (curtain .prepare fun _ => inDescent (afterHolds 0 none) (heldAt 500)) (fun t =>
      t.ctc.holdTimer = some 5000 && t.lines.brake && (t.ctc.descent.map (·.record.holds)) = some 1) = true := by decide +kernel

/-! ## Chapter 5: TABLE XXXVI -/

/-- TABLE XXXVI: codes at level 1000. -/
theorem test_output_codes :
    ∀ x ∈ ([(0, 126, 3), (15, 2047, 1023), (23, 3071, 2303), (31, 4095, 4095)] : List (Nat × Nat × Nat)),
      outputCode ⟨.foyer, x.1, .linear, false, 0⟩ 1000 = x.2.1 ∧ outputCode ⟨.foyer, x.1, .square, false, 0⟩ 1000 = x.2.2 := by
  decide +kernel

theorem test_preset_write_clamps :
    answers (.presetWrite 14 (List.replicate 12 1001)) (inPhase .running) (fun t =>
      t.settings.presetLevel 14 11 = 1000 && t.settings.presetLevel 13 11 = 0) = true := by decide +kernel

theorem test_lights_go :
    answers (.lightsGo 15 0) (inPhase .running) (fun t => t.hlu.channels = List.replicate 12 { active := 1000, fade := none }) = true := by
  decide +kernel

theorem test_lights_overridden :
    answers .houseFull (inPhase .evacuate) (fun t => decided t = some (.refused .overridden .none)) = true := by decide +kernel

theorem test_fade :
    answers (.fadeEvaluation 11) { base with now := 20, hlu := { base.hlu with channels := base.hlu.channels.set 11 fadingChannel } }
      (fun t => (t.hlu.channels[11]?.map (·.active)) = some 320) = true := by decide +kernel

/-! ## Chapters 6 and 7 -/

/-- The third confirming reply of a SMOKE device in a delayed zone, with the public in, calls the staff (R118, R135). -/
theorem test_staff_alert :
    answers (.pollSlotEnd (reply 100) Reception.silent) (polled delayed 64 fun d => { d with confirm := 2 }) (fun t =>
      t.fdu.fire.state = .staffAlert .awaitingAck && t.phase = .houseOpen && t.fdu.fire.timer = some 30025) = true := by decide +kernel

/-- In a zone without delay it is FULL, and the house is evacuated (R16, R135). -/
theorem test_direct_full :
    answers (.pollSlotEnd (reply 100) Reception.silent) (polled (inPhase .dark) 64 fun d => { d with confirm := 2 }) (fun t =>
      t.fdu.fire.cause = some .direct && t.phase = .dark && t.lines.sounders = [true, true, true, true]) = true := by decide +kernel

theorem test_third_miss :
    answers (.pollSlotEnd Reception.silent Reception.silent) (polled base 1 fun d => { d with miss := 2 }) (fun t =>
      (t.fdu.device 1).state = .missing && (t.fdu.device 1).miss = 3) = true := by decide +kernel

theorem test_continuity_broken :
    answers (.continuityResult false)
      { base with now := 10, fdu := { base.fdu with failRun := 1, poll := some { kind := .continuity, address := 0, started := 0 } } }
      (fun t => t.fdu.mode = .twoEnd && t.fdu.loopBroken) = true := by decide +kernel

theorem test_zone_isolate_limit :
    answers (.zoneIsolate 5 60) (isolatedZones 4 .dark) (fun t => decided t = some (.refused .limit .none)) = true := by decide +kernel

theorem test_zone_isolate_clamps :
    answers (.zoneIsolate 5 3601) (isolatedZones 3 .dark) (fun t => t.fdu.expiry 5 = some 3600000) = true := by decide +kernel

theorem test_fire_ack :
    answers .fireAck (alert (.staffAlert .awaitingAck)) (fun t =>
      t.fdu.fire.state = .staffAlert .investigating && t.fdu.fire.timer = some 180000) = true := by decide +kernel

theorem test_investigation_expires :
    answers .fireTimerExpiry
      (fire .closed fun f => f.setFire { f.fire with state := .staffAlert .investigating, timer := some 0 }) (fun t =>
      t.fdu.fire.cause = some .investigationExpired && t.fireFull && t.phase = .closed) = true := by decide +kernel

theorem test_fire_reset_sounding :
    answers .fireReset (fire .evacuate fun f => f.setFire { f.fire with state := .full })
      (fun t => decided t = some (.refused .wrongState .none)) = true := by decide +kernel

/-! ## Chapter 8: TABLE LVII -/

/-- Row 1 of TABLE LVII. -/
theorem test_call_admitted :
    answers (.call ⟨3, 10, 0x03#8, 2, 3, 20⟩) (inPhase .interval) (fun t =>
      decided t = some (.done (.call 1 false 0x03#8)) && t.clu.announcer = .settling 200 && t.clu.nextId = 2) = true := by decide +kernel

/-- Rows 6 and 7 of TABLE LVII, in RUNNING. -/
theorem test_call_barred :
    answers (.call ⟨2, 14, 0x0C#8, 0, 1, 0⟩) (inPhase .running) (fun t => decided t = some (.refused .zonesBarred .none)) = true ∧
      answers (.call ⟨3, 11, 0x05#8, 1, 1, 0⟩) (inPhase .running) (fun t => decided t = some (.done (.call 1 false 0x01#8))) = true := by
  decide +kernel

/-- Row 4 of TABLE LVII: the play ends, and the entry waits for its gap. -/
theorem test_busy_fall :
    answers .busyFall (playing (.speaking none true 90000) (fun c => { c with busy := true }) (entry 1 .houseClass)) (fun t =>
      t.clu.entries.map (fun e => (e.plays, e.state)) = [(1, .waiting 5000)] && t.clu.announcer = .idle) = true := by decide +kernel

theorem test_cancel_playing :
    answers (.callCancel 1) (playing (.speaking none true 90000) id (entry 1 .houseClass)) (fun t =>
      t.clu.entries = [] && t.clu.announcer = .stopping (some 50) 500 && t.lines.stop) = true := by decide +kernel

/-! ## Chapters 9 and 10: TABLE LXI and TABLE LXV -/

/-- TABLE LXI, at 40 ms and at 160 ms. -/
theorem test_line_channel :
    (LineChannel.convert 40 ⟨300, 1023⟩ 240 { LineChannel.reset with held := [415, 410, 405, 250] } =
      { LineChannel.reset with held := [410, 405, 250, 240], filtered := some 326 }) ∧
    (LineChannel.convert 160 ⟨300, 1023⟩ 215 { LineChannel.reset with held := [250, 240, 230, 220], candidate := some .low, run := 2 } =
      { held := [240, 230, 220, 215], filtered := some 226, state := .low, candidate := none, run := 0, lastChange := 160 }) := by
  decide +kernel

/-- 9.5.2: RETARDER is latched and the show is stopped with the cause CURTAIN. -/
theorem test_pressure_lost :
    answers (.lineConversion 0) (lineAbout (inPhase .running) 1 0 .low) (fun t =>
      t.ctc.faults = [.retarder] && t.phase = .stopped && t.pfu.perf.stopCause = .curtain) = true := by decide +kernel

/-- TABLE LXV, at 20 ms: a long key is held and its timer runs. -/
theorem test_debounce :
    answers .debounceExpiry (longKey (desk (.pressDebounce 2) [3]) .act) (fun t => t.dsu.key = .held 3 (some 1002)) = true := by
  decide +kernel

/-- TABLE LXV, at 1020 ms: SHOW-STOP from the desk. -/
theorem test_long_key :
    answers .longTimerExpiry (longKey (desk (.held 3 (some 2)) [3]) .act) (fun t =>
      t.phase = .stopped && t.pfu.perf.stopCause = .desk && t.dsu.key = .held 3 none) = true := by decide +kernel

/-- TABLE LXV, at 2594 ms: a second key rolls over. -/
theorem test_rollover :
    answers (.columnRead 0b011000#6) (desk (.held 3 none) [3]) (fun t => t.dsu.key = .rollover && t.dsu.down = [3, 4]) = true := by
  decide +kernel

/-! ## Chapter 11 -/

theorem test_unknown_kind :
    answers (.unknownKind (.notRequest 200)) base (fun t => decided t = some (.refused .unknownKind .none)) = true := by decide +kernel

theorem test_frame_counted :
    answers (.frameRejected { received := [1, 7, 0], missingStop := false })
        { base with lp := { base.lp with frame := some 0, checksum := 255 } }
        (fun t => t.lp.checksum = 255 && t.lp.frame = none) = true ∧
      answers (.frameRejected { received := [61], missingStop := false }) { base with lp := { base.lp with frame := some 0 } }
        (fun t => t.lp.length = 1 && t.lp.inbound = []) = true ∧
      answers (.frameRejected { received := [61, 5], missingStop := true }) { base with lp := { base.lp with frame := some 0 } }
        (fun t => t.lp.length = 1 && t.lp.checksum = 0) = true ∧
      answers (.frameRejected { received := [1, 7, 0, 9], missingStop := false })
        { base with lp := { base.lp with frame := some 0 } } (fun t => t.lp.checksum = 1) = true := by decide +kernel

theorem test_link_counts :
    answers .linkCounts { base with lp := { base.lp with overrun := 3 } } (fun t =>
      decided t = some (.done (.linkCounts 0 0 0 3)) && t.lp.overrun = 0) = true := by decide +kernel

theorem test_config_phase :
    answers (.configSet (.stopTemplate 3)) (inPhase .prepare) (fun t => decided t = some (.refused .wrongPhase .none)) = true ∧
      answers (.configSet (.stopTemplate 3)) (inPhase .dark) (fun t => t.settings.stopTemplate = 3) = true := by decide +kernel

theorem test_identify :
    answers .identify base (fun t =>
      match decided t with
      | some (.done (.identity part _ _)) => decide (part = "LOMAJEN 460")
      | _ => false) = true := by decide +kernel
end Sys2Proof.Tests
end

section
/-!
What the gates' recomputation leaves as it was, and a change of phase at which no step falls due.
-/

namespace Sys2Proof.Machine

open Sys2Proof.Safety

/-! ## What the gates leave as it was -/

theorem State.takeDrop_frame (b : Bool) (s : State) :
    s.takeDrop b = { s with hlu := (s.takeDrop b).hlu, ilu := (s.takeDrop b).ilu } := by
  unfold State.takeDrop
  split <;> rfl

theorem State.takeCuts_frame (s : State) :
    s.takeCuts = { s with clu := s.takeCuts.clu, fdu := s.takeCuts.fdu, ilu := s.takeCuts.ilu, lp := s.takeCuts.lp } := by
  unfold State.takeCuts
  split <;> rfl

theorem State.regate_frame (s : State) :
    s.regate = { s with hlu := s.regate.hlu, clu := s.regate.clu, fdu := s.regate.fdu, ilu := s.regate.ilu,
                        lp := s.regate.lp } := by
  rw [State.regate, State.takeCuts_frame, State.takeDrop_frame]
  rfl

@[simp] theorem State.regate_now (s : State) : s.regate.now = s.now := by rw [State.regate_frame]
@[simp] theorem State.regate_held (s : State) : s.regate.held = s.held := by rw [State.regate_frame]
@[simp] theorem State.regate_settings (s : State) : s.regate.settings = s.settings := by rw [State.regate_frame]
@[simp] theorem State.regate_pfu (s : State) : s.regate.pfu = s.pfu := by rw [State.regate_frame]
@[simp] theorem State.regate_store (s : State) : s.regate.store = s.store := by rw [State.regate_frame]
@[simp] theorem State.regate_ctc (s : State) : s.regate.ctc = s.ctc := by rw [State.regate_frame]
@[simp] theorem State.regate_lmu (s : State) : s.regate.lmu = s.lmu := by rw [State.regate_frame]
@[simp] theorem State.regate_dsu (s : State) : s.regate.dsu = s.dsu := by rw [State.regate_frame]
@[simp] theorem State.regate_lines (s : State) : s.regate.lines = s.lines := by rw [State.regate_frame]
@[simp] theorem State.regate_free (s : State) : s.regate.free = s.free := by rw [State.regate_frame]
@[simp] theorem State.regate_pending (s : State) : s.regate.pending = s.pending := by rw [State.regate_frame]

/-! ## The load of the lighting map -/

theorem State.loadMap_frame (s : State) : s.loadMap = { s with hlu := s.loadMap.hlu } := by
  unfold State.loadMap
  split
  · split <;> rfl
  · rfl

@[simp] theorem State.loadMap_pfu (s : State) : s.loadMap.pfu = s.pfu := by rw [State.loadMap_frame]
@[simp] theorem State.loadMap_lp (s : State) : s.loadMap.lp = s.lp := by rw [State.loadMap_frame]
@[simp] theorem State.loadMap_clu (s : State) : s.loadMap.clu = s.clu := by rw [State.loadMap_frame]
@[simp] theorem State.loadMap_ilu (s : State) : s.loadMap.ilu = s.ilu := by rw [State.loadMap_frame]
@[simp] theorem State.loadMap_fdu (s : State) : s.loadMap.fdu = s.fdu := by rw [State.loadMap_frame]

/-! ## A change of phase at which no step falls due (R38, R97) -/

@[simp] theorem Pfu.refresh_steps (f : Pfu) : f.refresh.steps = f.steps := rfl

theorem Pfu.dueSteps_congr {f g : Pfu} (ht : g.table = f.table) (hc : g.runningCopy = f.runningCopy)
    (hk : g.perf.clocks = f.perf.clocks) (hl : g.perf.intervalLen = f.perf.intervalLen) : g.dueSteps = f.dueSteps := by
  have hp : g.pendingStep = f.pendingStep := by
    funext i
    simp only [Pfu.pendingStep, Pfu.steps, ht, hc]
  have hu : g.perf.dueTime = f.perf.dueTime := by
    funext st
    rw [Perf.dueTime, Perf.dueTime, hl]
  have hr : g.perf.reached = f.perf.reached := by
    funext st
    rw [Perf.reached, Perf.reached, hk, hu]
  have hd : g.isDue = f.isDue := by
    funext i
    simp only [Pfu.isDue, hp, hr]
  simp only [Pfu.dueSteps, hd, ht]

@[simp] theorem Pfu.refresh_dueSteps (f : Pfu) : f.refresh.dueSteps = f.dueSteps := Pfu.dueSteps_congr rfl rfl rfl rfl

theorem State.loadAndIssue_noneDue {s : State} (h : s.pfu.dueSteps = []) : s.loadAndIssue = s.loadMap := by
  simp [State.loadAndIssue, h, State.hasLights, State.issueSteps]

/-- The record of a change of phase, with its notices and the PHASE notice, before the gates follow. -/
def State.phaseRecord (cause : PhaseCause) (change : Pfu → Pfu × List NoticeBody) (s : State) : State :=
  State.notifyAll ((change s.pfu).2 ++ [(change s.pfu).1.perf.phaseNote cause none])
    { s with pfu := (change s.pfu).1.refresh }

theorem State.changePhase_eq (cause : PhaseCause) (change : Pfu → Pfu × List NoticeBody) (s : State) :
    s.changePhase cause change = (s.phaseRecord cause change).regate.loadAndIssue := by
  unfold State.changePhase State.phaseRecord
  simp only [State.notify, State.notifyAll_append]
  rfl

theorem State.changePhase_noneDue {cause : PhaseCause} {change : Pfu → Pfu × List NoticeBody} {s : State}
    (h : (change s.pfu).1.dueSteps = []) : s.changePhase cause change = (s.phaseRecord cause change).regate.loadMap := by
  rw [State.changePhase_eq, State.loadAndIssue_noneDue]
  simpa [State.phaseRecord] using h

/-- Where no clock runs, no step is due. -/
theorem Pfu.dueSteps_nil {f : Pfu} (h : ∀ i, (f.perf.clocks.get i).run ≠ .running) : f.dueSteps = [] := by
  simp only [Pfu.dueSteps, List.filter_eq_nil_iff]
  intro i _
  unfold Pfu.isDue
  split <;> simp [Perf.reached, h]

theorem Clocks.get_fresh (i : ClockId) : Clocks.fresh.get i = .fresh := by cases i <;> rfl

theorem Pfu.dueSteps_arm (l : PlanLetter) (c : RunningCopy) (now : Nat) (f : Pfu) : (f.arm l c now).dueSteps = [] :=
  Pfu.dueSteps_nil fun i => by simp [Pfu.arm, Perf.arm, Clocks.get_fresh, AnchorClock.fresh]

end Sys2Proof.Machine
end

section
/-!
The performance record, the fire state and the lights, as every operation of the part moves them: `Follows` says once what
an operation can do to them, each operation is shown to do no more, and the invariants of the record, of FULL and of the
override, and the law of curtain-proven, are read off from it.
-/

namespace Sys2Proof.Machine

open Sys2Proof.Safety

/-! ## What an operation can do to the record and the fire state -/

/-- The changes of the performance record other than those of ARM, DISARM, the entry to EVACUATE and reset. -/
inductive RecordMove : Perf → Perf → Prop
  | prove (p : Perf) : p.phase ≠ .dark → RecordMove p { p with proven := true }
  | tick (p : Perf) : RecordMove p { p with clocks := p.clocks.map AnchorClock.tick }
  | openHouse (p : Perf) (now : Nat) : p.phase = .prepare → RecordMove p (p.openHouse now)
  | begin (p : Perf) (now : Nat) : beginPhase p.phase = true → RecordMove p (p.begin now)
  | interval (p : Perf) (length now : Nat) : p.phase = .running → RecordMove p (p.interval length now)
  | extend (p : Perf) (length : Nat) : RecordMove p { p with intervalLen := length }
  | endShow (p : Perf) (now : Nat) : p.phase = .stopped ∨ p.phase = .running → RecordMove p (p.endShow now)
  | showStop (p : Perf) (src : Source) (now : Nat) :
      stopPhase p.phase = true → src ≠ .plan → RecordMove p (p.showStop src now)
  | resume (p : Perf) (now : Nat) : p.phase = .stopped → RecordMove p (p.doResume now)
  | close (p : Perf) (now : Nat) : p.phase = .evacuate → RecordMove p (p.close now)

/-- The record as the fire state FULL leaves it (R16). -/
def Perf.onFull (now : Nat) (p : Perf) : Perf := if evacuablePhase p.phase then p.evacuate now else p

/-- The record and the fire state. -/
def State.view (s : State) : Perf × FireState := (s.pfu.perf, s.fdu.fire.state)

/-- A change of the record and the fire state other than those of ARM, DISARM, FIRE-RESET and reset. -/
inductive Move : Perf × FireState → Perf × FireState → Prop
  | record {p q : Perf} (f : FireState) : RecordMove p q → Move (p, f) (q, f)
  | alert (p : Perf) {f g : FireState} : f ≠ .full → g ≠ .full → Move (p, f) (p, g)
  | full (p : Perf) (f : FireState) (now : Nat) : Move (p, f) (p.onFull now, .full)

/-- Under the override every channel stands at full with no fade. -/
def LightsFull (s : State) : Prop :=
  s.ilu.relay.line = false → ∀ r ∈ s.hlu.channels, r = { active := 1000, fade := none }

/-- An operation does no more to the record, the fire state, the lights and reset than moves. -/
structure Follows (s t : State) : Prop where
  held   : t.held = s.held
  moves  : Relation.ReflTransGen Move s.view t.view
  lights : LightsFull s → LightsFull t

theorem Follows.refl (s : State) : Follows s s := ⟨rfl, .refl, id⟩

theorem Follows.trans {s t u : State} (h : Follows s t) (k : Follows t u) : Follows s u :=
  ⟨k.held.trans h.held, h.moves.trans k.moves, k.lights ∘ h.lights⟩

theorem LightsFull.congr {s t : State} (hc : t.hlu.channels = s.hlu.channels) (hl : t.ilu.relay.line = s.ilu.relay.line)
    (h : LightsFull s) : LightsFull t := fun ht r hr => h (hl ▸ ht) r (hc ▸ hr)

theorem LightsFull.of_lit {s : State} (h : s.override = false) : LightsFull s := fun hl => by simp [State.override, hl] at h

/-- A change of what neither the moves nor the lights read. -/
theorem Follows.of_eq {s t : State} (hh : t.held = s.held) (hp : t.pfu.perf = s.pfu.perf)
    (hf : t.fdu.fire.state = s.fdu.fire.state) (hc : t.hlu.channels = s.hlu.channels)
    (hl : t.ilu.relay.line = s.ilu.relay.line) : Follows s t :=
  ⟨hh, by rw [show t.view = s.view from Prod.ext hp hf], LightsFull.congr hc hl⟩

/-- One move of the record, with the lights as they stand. -/
theorem Follows.of_record {s t : State} (hh : t.held = s.held) (hp : RecordMove s.pfu.perf t.pfu.perf)
    (hf : t.fdu.fire.state = s.fdu.fire.state) (hc : t.hlu.channels = s.hlu.channels)
    (hl : t.ilu.relay.line = s.ilu.relay.line) : Follows s t :=
  ⟨hh, .single (by simpa only [State.view, hf] using Move.record s.fdu.fire.state hp), LightsFull.congr hc hl⟩

/-- A change of the lights while the override is not in force. -/
theorem Follows.of_lit {s t : State} (hh : t.held = s.held) (hp : t.pfu.perf = s.pfu.perf)
    (hf : t.fdu.fire.state = s.fdu.fire.state) (hi : t.ilu = s.ilu) (ho : s.override = false) : Follows s t :=
  ⟨hh, by rw [show t.view = s.view from Prod.ext hp hf],
    fun _ => LightsFull.of_lit (by simpa only [State.override, hi] using ho)⟩

/-- What follows a change of what neither the moves nor the lights read. -/
theorem Follows.after_eq {s t u : State} (k : Follows t u) (hh : t.held = s.held) (hp : t.pfu.perf = s.pfu.perf)
    (hf : t.fdu.fire.state = s.fdu.fire.state) (hc : t.hlu.channels = s.hlu.channels)
    (hl : t.ilu.relay.line = s.ilu.relay.line) : Follows s u := (Follows.of_eq hh hp hf hc hl).trans k

theorem Follows.foldl {α : Type} {f : State → α → State} (hf : ∀ s a, Follows s (f s a)) (l : List α) (s : State) :
    Follows s (l.foldl f s) := by
  induction l generalizing s with
  | nil => exact .refl s
  | cons a l ih => exact (hf s a).trans (ih _)

/-- A condition that every move keeps is kept by what follows. -/
theorem Follows.keeps_view {P : Perf × FireState → Prop} (hP : ∀ {v w}, Move v w → P v → P w) {s t : State}
    (h : Follows s t) (hs : P s.view) : P t.view := by
  have : ∀ v, Relation.ReflTransGen Move s.view v → P v := by
    intro v hv
    induction hv with
    | refl => exact hs
    | tail _ m ih => exact hP m ih
  exact this _ h.moves

/-! ## The reactions of the blocks to one another -/

theorem State.notifyAll_follows (bs : List NoticeBody) (s : State) : Follows s (s.notifyAll bs) := .of_eq rfl rfl rfl rfl rfl

theorem State.notify_follows (b : NoticeBody) (s : State) : Follows s (s.notify b) := s.notifyAll_follows [b]

theorem State.putClu_follows (o : CluOut) (s : State) : Follows s (s.putClu o) := .of_eq rfl rfl rfl rfl rfl

theorem State.drawn_follows (s : State) : Follows s s.drawn := .of_eq rfl rfl rfl rfl rfl

theorem State.finish_follows (s : State) : Follows s s.finish := .of_eq rfl rfl rfl rfl rfl

theorem State.hunting_follows (s : State) : Follows s s.hunting := .of_eq rfl rfl rfl rfl rfl

/-- The emergency-lighting relay's gate is as HLU's demand and the forcing conditions of the moment give it. -/
def RelayCurrent (s : State) : Prop := s.ilu.relay.line = (!s.hlu.emergencyDemand && !s.forced)

theorem IluView.safeForcing_isEmpty (v : IluView) :
    v.safeForcing.isEmpty = !(v.fireFull || decide (v.phase = .evacuate)) := by
  by_cases h : v.phase = .evacuate <;> cases hf : v.fireFull <;> simp [IluView.safeForcing, inForce, hf, h]

theorem State.gates_relay (s : State) : s.gates.ilu.relay.line = (!s.hlu.emergencyDemand && !s.forced) := by
  simp [Ilu.next, IluView.safeForcing_isEmpty, State.iluView, State.forced]

theorem State.gates_relayCurrent (s : State) : RelayCurrent s.gates := s.gates_relay

theorem State.takeDrop_relayCurrent {b : Bool} {s : State} (h : RelayCurrent s) : RelayCurrent (s.takeDrop b) := by
  unfold State.takeDrop
  split
  · exact State.gates_relayCurrent _
  · exact h

theorem State.takeCuts_relay {s : State} (h : RelayCurrent s) : s.takeCuts.ilu.relay.line = s.ilu.relay.line := by
  unfold State.takeCuts
  split
  · rfl
  · rw [State.gates_relay, h]; rfl

theorem State.takeDrop_view (b : Bool) (s : State) : (s.takeDrop b).view = s.view := by
  unfold State.takeDrop
  split <;> rfl

theorem State.takeCuts_view (s : State) : s.takeCuts.view = s.view := by
  unfold State.takeCuts
  split <;> rfl

theorem State.takeCuts_channels (s : State) : s.takeCuts.hlu.channels = s.hlu.channels := by
  unfold State.takeCuts
  split <;> rfl

theorem State.takeCuts_follows {s : State} (h : RelayCurrent s) : Follows s s.takeCuts :=
  ⟨(State.takeCuts_kept s).untouched.held, by rw [State.takeCuts_view],
    LightsFull.congr s.takeCuts_channels (State.takeCuts_relay h)⟩

/-- The lights after the gates are recomputed: where the relay drops, every channel is driven to full (R103). -/
theorem State.takeDrop_lightsFull {s : State} (h : LightsFull s) : LightsFull (s.gates.takeDrop s.ilu.relay.line) := by
  unfold State.takeDrop
  split
  · intro _ r hr
    obtain ⟨_, _, rfl⟩ := List.mem_map.1 (show r ∈ (Hlu.drop s.hlu).channels from hr)
    rfl
  · next hd =>
    intro hl
    refine h ?_
    cases hs : s.ilu.relay.line
    · rfl
    · exact absurd ⟨hs, hl⟩ hd

theorem State.regate_follows (s : State) : Follows s s.regate :=
  Follows.trans (t := s.gates.takeDrop s.ilu.relay.line)
    ⟨(State.takeDrop_kept _ _).untouched.held, by rw [State.takeDrop_view]; exact .refl, State.takeDrop_lightsFull⟩
    (State.takeCuts_follows (State.takeDrop_relayCurrent s.gates_relayCurrent))

theorem State.withClu_follows (f : Clu → CluOut) (s : State) : Follows s (s.withClu f) :=
  (s.putClu_follows _).trans (State.regate_follows _)

theorem State.playEvent_follows (f : Clu → CluOut) (s : State) : Follows s (s.playEvent f) :=
  (s.withClu_follows _).trans (State.withClu_follows _ _)

theorem State.moveCurtain_follows (f : CtcEnv → Ctc → CtcOut) (s : State) : Follows s (s.moveCurtain f).1 :=
  (State.regate_follows _).after_eq rfl rfl rfl rfl rfl

theorem State.takeArrival_follows (r : CtcReport) (s : State) : Follows s (s.takeArrival r) := by
  unfold State.takeArrival
  split
  · split
    · next h => exact .of_record rfl (.prove _ h.1) rfl rfl rfl
    · exact .refl s
  · exact .refl s

theorem State.move_follows (f : CtcEnv → Ctc → CtcOut) (s : State) : Follows s (s.move f) :=
  (s.moveCurtain_follows f).trans (Follows.foldl (fun s r => s.takeArrival_follows r) _ _)

theorem State.placeCall_follows (src : Source) (t : Template) (s : State) : Follows s (s.placeCall src t).1 :=
  (s.putClu_follows _).trans (State.regate_follows _)

theorem State.announce_follows (n : Nat) (f : Template → Template) (s : State) : Follows s (s.announce n f).1 := by
  unfold State.announce
  split
  · exact .refl s
  · exact s.placeCall_follows _ _

theorem State.cancelKept_follows (id : Option Nat) (s : State) : Follows s (s.cancelKept id).1 := by
  unfold State.cancelKept
  split
  · exact .refl s
  · split
    · exact s.withClu_follows _
    · exact .refl s

theorem State.unlessRefused_follows {f : State → State} (hf : ∀ s, Follows s (f s)) (r : Option Reason) (s : State) :
    Follows s (s.unlessRefused r f).1 := by
  unfold State.unlessRefused
  split
  · exact .refl s
  · exact hf s

theorem State.startRaise_follows (s : State) : Follows s s.startRaise := by
  dsimp only [State.startRaise]
  split
  · exact (s.move_follows _).trans (State.move_follows _ _)
  · exact s.move_follows _

theorem State.decideRaise_follows (s : State) : Follows s s.decideRaise.1 :=
  State.unlessRefused_follows State.startRaise_follows _ s
theorem State.decideLower_follows (s : State) : Follows s s.decideLower.1 := State.unlessRefused_follows (State.move_follows _) _ s
theorem State.decideTest_follows (s : State) : Follows s s.decideTest.1 := State.unlessRefused_follows (State.move_follows _) _ s

theorem State.decideGo_follows (p t : Nat) (s : State) : Follows s (s.decideGo p t).1 := by
  unfold State.decideGo
  split
  · exact .refl s
  · split
    · exact .refl s
    · next h => exact .of_lit rfl rfl rfl rfl (by simpa using h)

theorem State.decideHouseFull_follows (s : State) : Follows s s.decideHouseFull.1 := by
  unfold State.decideHouseFull
  split
  · exact .refl s
  · next h => exact .of_lit rfl rfl rfl rfl (by simpa using h)

theorem State.stopFade_follows (s : State) : Follows s s.stopFade := by
  unfold State.stopFade
  split
  · exact .refl s
  · next h => exact .of_lit rfl rfl rfl rfl (by simpa using h)

theorem State.loadMap_follows (s : State) : Follows s s.loadMap := by
  unfold State.loadMap
  split
  · split
    · exact .refl s
    · next h => exact .of_lit rfl rfl rfl rfl (by simpa using h)
  · exact .refl s

theorem State.issueAction_follows (i : Nat) (a : StepAction) (s : State) : Follows s (s.issueAction i a).1 := by
  cases a with
  | call n => exact s.placeCall_follows _ _
  | bell p z => exact s.placeCall_follows _ _
  | lights p t => exact s.decideGo_follows p t
  | curtainLower => exact s.decideLower_follows
  | curtainRaise => exact s.decideRaise_follows
  | curtainTest => exact s.decideTest_follows
  | note c => exact s.notify_follows _

theorem State.issueStep_follows (i : Nat) (s : State) : Follows s (s.issueStep i) := by
  unfold State.issueStep
  split
  · exact .refl s
  · split
    · exact (s.issueAction_follows i _).trans (.of_eq rfl rfl rfl rfl rfl)
    · exact .refl s

theorem State.issueSteps_follows (is : List Nat) (s : State) : Follows s (s.issueSteps is) :=
  Follows.foldl (fun s i => s.issueStep_follows i) is s

theorem State.loadAndIssue_follows (s : State) : Follows s s.loadAndIssue := by
  dsimp only [State.loadAndIssue]
  split
  · exact ((s.drawn_follows.trans (State.issueSteps_follows _ _)).trans (State.loadMap_follows _)).trans
      (State.issueSteps_follows _ _)
  · exact s.loadMap_follows.trans (State.issueSteps_follows _ _)

/-- A change of phase does no more than its change of the record. -/
theorem State.changePhase_follows (cause : PhaseCause) (change : Pfu → Pfu × List NoticeBody) (s : State) :
    Follows { s with pfu := (change s.pfu).1 } (s.changePhase cause change) :=
  ((State.regate_follows _).trans (State.loadAndIssue_follows _)).after_eq rfl rfl rfl rfl rfl

/-- A change of phase by one move of the record. -/
theorem State.changePhase_follows_record {cause : PhaseCause} {change : Pfu → Pfu × List NoticeBody} {s : State}
    (h : RecordMove s.pfu.perf (change s.pfu).1.perf) : Follows s (s.changePhase cause change) :=
  Follows.trans (t := { s with pfu := (change s.pfu).1 }) (.of_record rfl h rfl rfl rfl) (s.changePhase_follows cause change)

/-- The record at an entry to STOPPED. -/
def State.stopRecord (src : Source) (s : State) : State :=
  { s with pfu := (s.pfu.setPerf (s.pfu.perf.showStop src s.now)).refresh }

theorem State.enterStopped_follows {src : Source} (hs : src ≠ .plan) {s : State} (h : stopPhase s.phase = true) :
    Follows s (s.enterStopped src) :=
  Follows.trans (t := s.stopRecord src) (.of_record rfl (.showStop _ _ _ h hs) rfl rfl rfl)
    ((((State.announce_follows _ _ _).trans (State.notify_follows _ _)).trans (State.move_follows _ _)).trans
      (State.stopFade_follows _))

theorem State.decideShowStop_follows {src : Source} (hs : src ≠ .plan) (s : State) : Follows s (s.decideShowStop src).1 := by
  unfold State.decideShowStop
  split
  · next h => exact State.enterStopped_follows hs h
  · exact .refl s

theorem State.takeReport_follows (r : CtcReport) (s : State) : Follows s (s.takeReport r) := by
  unfold State.takeReport
  split
  · exact s.takeArrival_follows _
  · split
    · exact s.notify_follows _
    · exact .refl s
  · split
    · exact s.decideShowStop_follows (by decide)
    · exact .refl s
  · split
    · exact s.decideShowStop_follows (by decide)
    · exact .refl s
  · exact .refl s

theorem State.withCtc_follows (f : CtcEnv → Ctc → CtcOut) (s : State) : Follows s (s.withCtc f) :=
  (s.moveCurtain_follows f).trans (Follows.foldl (fun s r => s.takeReport_follows r) _ _)

/-! ## The entries to FULL, EVACUATE and STAFF-ALERT -/

theorem State.fullCalls_follows (s : State) : Follows s s.fullCalls.1 :=
  ((s.cancelKept_follows _).trans (State.announce_follows _ _ _)).trans (.of_eq rfl rfl rfl rfl rfl)

theorem State.callsAndFlush_follows (s : State) : Follows s s.callsAndFlush.1 := by
  dsimp only [State.callsAndFlush]
  split
  · exact (s.drawn_follows.trans (State.withClu_follows _ _)).trans (State.fullCalls_follows _)
  · exact (s.drawn_follows.trans (State.fullCalls_follows _)).trans (State.withClu_follows _ _)

theorem State.takeForcing_follows (b : Bool) (s : State) : Follows s (s.takeForcing b) := by
  unfold State.takeForcing
  split
  · exact s.regate_follows
  · exact s.move_follows _

/-- The record and the fire state enter FULL together, with the lights as they stand. -/
theorem Follows.of_full {s t : State} (hh : t.held = s.held) (hp : t.pfu.perf = s.pfu.perf.onFull s.now)
    (hf : t.fdu.fire.state = .full) (hc : t.hlu.channels = s.hlu.channels)
    (hl : t.ilu.relay.line = s.ilu.relay.line) : Follows s t :=
  ⟨hh, .single (by simpa only [State.view, hp, hf] using Move.full _ _ _), LightsFull.congr hc hl⟩

theorem State.fullRecord_evacuateRecord_follows {s : State} (cause : FullCause) (h : evacuablePhase s.phase = true) :
    Follows s (s.fullRecord cause).evacuateRecord :=
  .of_full rfl (if_pos h).symm rfl rfl rfl

theorem State.fullRecord_follows {s : State} (cause : FullCause) (h : evacuablePhase s.phase = false) :
    Follows s (s.fullRecord cause) :=
  .of_full rfl (if_neg (by simpa [State.phase] using h)).symm rfl rfl rfl

theorem State.enterFull_follows (cause : FullCause) (s : State) : Follows s (s.enterFull cause) := by
  unfold State.enterFull
  cases h : evacuablePhase s.phase
  · exact ((State.fullRecord_follows cause h).trans (State.fullCalls_follows _)).trans
      ((State.notify_follows _ _).trans (State.takeForcing_follows _ _))
  · exact ((State.fullRecord_evacuateRecord_follows cause h).trans (State.callsAndFlush_follows _)).trans
      (((State.notify_follows _ _).trans (State.notify_follows _ _)).trans (State.takeForcing_follows _ _))

/-- The record and the fire state at an entry to EVACUATE by a request that makes the fire state FULL. -/
def State.evacuateFull (src : Source) (s : State) : State :=
  (s.evacuateRecord.notify (s.evacuateRecord.pfu.perf.phaseNote (.request .evacuate src) none)).fullRecord .evacuate

theorem State.evacuateFull_follows (src : Source) {s : State} (h : evacuablePhase s.phase = true) :
    Follows s (s.evacuateFull src) :=
  .of_full rfl (if_pos h).symm rfl rfl rfl

theorem State.evacuateRecord_follows {s : State} (h : evacuablePhase s.phase = true) (hf : s.fdu.fire.state = .full) :
    Follows s s.evacuateRecord :=
  .of_full rfl (if_pos h).symm hf rfl rfl

theorem State.enterEvacuate_follows (src : Source) {s : State} (h : evacuablePhase s.phase = true) :
    Follows s (s.enterEvacuate src) := by
  by_cases hf : s.fdu.fire.state = .full
  · have e : s.enterEvacuate src = ((s.evacuateRecord.notify
        (s.evacuateRecord.pfu.perf.phaseNote (.request .evacuate src) none)).withClu (Clu.flush s.now)).takeForcing s.forced := by
      simp only [State.enterEvacuate, hf, if_true]; rfl
    rw [e]
    exact ((State.evacuateRecord_follows h hf).trans (State.notify_follows _ _)).trans
      ((State.withClu_follows _ _).trans (State.takeForcing_follows _ _))
  · have e : s.enterEvacuate src = ((s.evacuateFull src).callsAndFlush.1.notify
        ((s.evacuateFull src).callsAndFlush.1.fdu.fire.note s.fdu.fire.state (s.evacuateFull src).callsAndFlush.2.1
          (s.evacuateFull src).callsAndFlush.2.2)).takeForcing s.forced := by
      simp only [State.enterEvacuate, hf, if_false]; rfl
    rw [e]
    exact ((State.evacuateFull_follows src h).trans (State.callsAndFlush_follows _)).trans
      ((State.notify_follows _ _).trans (State.takeForcing_follows _ _))

theorem State.decideEvacuate_follows (src : Source) (s : State) : Follows s (s.decideEvacuate src).1 := by
  unfold State.decideEvacuate
  split
  · next h => exact State.enterEvacuate_follows src h
  · exact .refl s

/-- The fire state moves among those other than FULL, with the rest as it stands. -/
theorem Follows.of_alert {s t : State} (hh : t.held = s.held) (hp : t.pfu.perf = s.pfu.perf)
    (hf : s.fdu.fire.state ≠ .full) (hg : t.fdu.fire.state ≠ .full) (hc : t.hlu.channels = s.hlu.channels)
    (hl : t.ilu.relay.line = s.ilu.relay.line) : Follows s t :=
  ⟨hh, .single (by simpa only [State.view, hp] using Move.alert _ hf hg), LightsFull.congr hc hl⟩

/-- The record at an entry to STAFF-ALERT (R136). -/
def State.alertRecord (s : State) : State :=
  State.notifyAll (s.fdu.fire.walkNote (.staffAlert .awaitingAck))
    { s with
      fdu := s.fdu.setFire
        { s.fdu.fire with
          state := .staffAlert .awaitingAck, timer := some (s.now + s.settings.fireTimes.acknowledge * 1000), entry := s.now,
          walk := none } }

theorem State.enterStaffAlert_follows {s : State} (h : s.fdu.fire.state ≠ .full) : Follows s s.enterStaffAlert :=
  have ha : Follows s s.alertRecord := .of_alert rfl rfl h (by simp [State.alertRecord]) rfl rfl
  (ha.trans (State.announce_follows s.settings.fireTimes.staffTemplate (fun t => { t with cls := .alert }) _)).trans
    (.of_eq rfl rfl rfl rfl rfl)

/-- FULL with the sounders no longer silenced. -/
def State.loud (s : State) : State := { s with fdu := s.fdu.setFire { s.fdu.fire with silenced := false } }

theorem State.resound_follows (s : State) : Follows s s.resound := by
  have ha : Follows s (s.loud.announce s.settings.fireTimes.evacTemplate evacuationCall).1 :=
    (State.announce_follows _ _ _).after_eq rfl rfl rfl rfl rfl
  refine ha.trans ?_
  unfold State.resound
  by_cases h : s.fdu.fire.silenced = true <;> simp only [h] <;> exact .of_eq rfl rfl rfl rfl rfl

theorem State.takeAlarm_follows (a : Nat) (s : State) : Follows s (s.takeAlarm a) := by
  unfold State.takeAlarm
  dsimp only
  split
  · next h =>
    have h' : s.fdu.fire.state ≠ .full := by simp [h]
    split
    · exact (State.enterStaffAlert_follows (by exact h')).after_eq rfl rfl rfl rfl rfl
    · exact (State.enterFull_follows _ _).after_eq rfl rfl rfl rfl rfl
  · exact (State.enterFull_follows _ _).after_eq rfl rfl rfl rfl rfl
  · exact (State.resound_follows _).after_eq rfl rfl rfl rfl rfl

end Sys2Proof.Machine
end

section
/-!
What every command can do to the record, the fire state and the lights: one lemma for each decision and each event, and
from them the law of `exec`.
-/

namespace Sys2Proof.Machine

open Sys2Proof.Safety

/-! ## FDU's operations leave the fire state as it is -/

/-- An operation of FDU leaves the fire state as it is. -/
def KeepsFire (g : Fdu → FduOut) : Prop := ∀ f, (g f).fdu.fire.state = f.fire.state

theorem KeepsFire.andThen {o : FduOut} {f : Fdu} {g : Fdu → FduOut} (ho : o.fdu.fire.state = f.fire.state)
    (hg : KeepsFire g) : (o.andThen g).fdu.fire.state = f.fire.state := (hg o.fdu).trans ho

@[simp] theorem Fdu.unwatch_fire (a : Nat) (f : Fdu) : (f.unwatch a).fire = f.fire := rfl

@[simp] theorem Fdu.offerWatch_fire (a : Nat) (f : Fdu) : (f.offerWatch a).fire = f.fire := by
  unfold Fdu.offerWatch
  split
  · split <;> rfl
  · split <;> rfl

@[simp] theorem Fdu.rederive_fire (c : Settings) (f : Fdu) : (f.rederive c).fdu.fire = f.fire := rfl

@[simp] theorem Fdu.change_fire (c : Settings) (a : Nat) (cause : DeviceCause) (g : DeviceRecord → DeviceRecord) (f : Fdu) :
    (f.change c a cause g).fdu.fire = f.fire := by simp [Fdu.change]

theorem Fdu.miss_fire (c : Settings) (kind : PollKind) (a : Nat) (f : Fdu) : (f.miss c kind a).fdu.fire = f.fire := by
  unfold Fdu.miss
  dsimp only
  repeat' split
  all_goals simp

theorem Fdu.preAlarmStep_fire (c : Settings) (a : Nat) (f : Fdu) : (f.preAlarmStep c a).fdu.fire = f.fire := by
  unfold Fdu.preAlarmStep
  dsimp only
  split
  · rfl
  · split
    · split
      · simp
      · rfl
    · split
      · split
        · rfl
        · split
          · rfl
          · simp
      · rfl

theorem Fdu.walkConfirm_fire (c : Settings) (now a : Nat) (f : Fdu) :
    (f.walkConfirm c now a).fdu.fire.state = f.fire.state := by simp [Fdu.walkConfirm]

theorem Fdu.fromTestStep_fire (c : Settings) (now a : Nat) (r : LoopReply) : KeepsFire (Fdu.fromTestStep c now a r) := by
  intro f
  unfold Fdu.fromTestStep
  dsimp only
  generalize (if alarmCondition (c.device a) r = true then (f.device a).confirm + 1 else 0) = confirm
  split
  · rfl
  · split
    · rfl
    · split
      · split
        · rw [Fdu.walkConfirm_fire]; rfl
        · simp [Fdu.enterAlarm]
      · split
        · simp
        · rw [Fdu.preAlarmStep_fire]; rfl

theorem Fdu.recoveryStep_fire (c : Settings) (now a : Nat) (r : LoopReply) : KeepsFire (Fdu.recoveryStep c now a r) := by
  intro f
  unfold Fdu.recoveryStep
  split
  · rfl
  · split
    · rfl
    · exact KeepsFire.andThen (by simp) (Fdu.fromTestStep_fire c now a r)

theorem Fdu.mismatchStep_fire (c : Settings) (a : Nat) (r : LoopReply) (f : Fdu) :
    (f.mismatchStep c a r).fdu.fire = f.fire := by
  unfold Fdu.mismatchStep
  split
  · rfl
  · split
    · rfl
    · simp

theorem Fdu.evaluateSteps_fire (c : Settings) (now a : Nat) (r : LoopReply) : KeepsFire (Fdu.evaluateSteps c now a r) := by
  intro f
  unfold Fdu.evaluateSteps
  dsimp only
  split
  · rw [Fdu.mismatchStep_fire]; rfl
  · split
    · rfl
    · exact Fdu.recoveryStep_fire c now a r _
    all_goals exact Fdu.fromTestStep_fire c now a r _

theorem Fdu.goodReply_fire (c : Settings) (now a : Nat) (r : LoopReply) (f : Fdu) :
    (f.goodReply c now a r).fdu.fire.state = f.fire.state := by
  unfold Fdu.goodReply
  refine KeepsFire.andThen (KeepsFire.andThen ?_ (Fdu.evaluateSteps_fire c now a r)) (fun f => by simp [FduOut.of])
  split
  · simp
  · rfl

theorem Fdu.endSlot_fire (c : Settings) (now : Nat) (p : Poll) (ra rb : Reception) (f : Fdu) :
    (f.endSlot c now p ra rb).fdu.fire.state = f.fire.state := by
  unfold Fdu.endSlot
  dsimp only
  split
  · rfl
  · split
    · exact Fdu.goodReply_fire c now _ _ _
    · rw [Fdu.miss_fire]
    · rw [Fdu.miss_fire]; rfl

theorem Fdu.eachDevice_fire {g : Nat → Fdu → FduOut} (hg : ∀ a, KeepsFire (g a)) (as : List Nat) :
    KeepsFire (Fdu.eachDevice g as) := by
  intro f
  suffices h : ∀ o : FduOut, (as.foldl (fun o a => o.andThen (g a)) o).fdu.fire.state = o.fdu.fire.state from h (FduOut.of f)
  induction as with
  | nil => exact fun o => rfl
  | cons a as ih => exact fun o => (ih _).trans (hg a _)

theorem Fdu.isolate_fire (c : Settings) (z t : Nat) (f : Fdu) : (f.isolate c z t).fdu.fire.state = f.fire.state := by
  unfold Fdu.isolate
  dsimp only
  split
  · rfl
  · refine KeepsFire.andThen (Fdu.eachDevice_fire (fun a f => ?_) _ _) (fun f => rfl)
    unfold Fdu.quieten
    dsimp only
    split
    · split
      · simp
      · split
        · simp
        · rfl
    · rfl

theorem Fdu.reconfigure_fire (c : Settings) (a : Nat) (f : Fdu) : (f.reconfigure c a).fdu.fire = f.fire := by
  simp [Fdu.reconfigure]

theorem Fdu.continuity_fire (b : Bool) (f : Fdu) : (f.continuity b).fdu.fire = f.fire := by
  unfold Fdu.continuity
  dsimp only
  repeat' split
  all_goals rfl

theorem Fdu.sounderChannel_fire (n : Nat) (st : LimitState) (f : Fdu) : (f.sounderChannel n st).fdu.fire = f.fire := by
  unfold Fdu.sounderChannel
  split <;> rfl

theorem Fdu.sendScan_fire (c : Settings) (f : Fdu) : (f.sendScan c).fire = f.fire := by
  unfold Fdu.sendScan
  split <;> rfl

theorem Fdu.startSlot_fire (c : Settings) (f : Fdu) : (f.startSlot c).fire = f.fire := by
  unfold Fdu.startSlot
  dsimp only
  split
  · rfl
  · split
    · rfl
    · split
      · split
        · rfl
        · rw [Fdu.sendScan_fire]
      · rw [Fdu.sendScan_fire]

theorem State.putFdu_follows {o : FduOut} {s : State} (h : o.fdu.fire.state = s.fdu.fire.state) : Follows s (s.putFdu o) :=
  .of_eq rfl rfl h rfl rfl

theorem State.withFdu_follows {o : FduOut} {s : State} (h : o.fdu.fire.state = s.fdu.fire.state) : Follows s (s.withFdu o) := by
  unfold State.withFdu
  dsimp only
  split
  · exact (State.putFdu_follows h).trans (State.takeAlarm_follows _ _)
  · exact State.putFdu_follows h

/-! ## The decisions of requests -/

/-- A request does no more than moves. -/
def DecisionFollows (d : State → State × Decision) : Prop := ∀ s, Follows s (d s).1

theorem DecisionFollows.read (d : State → Decision) : DecisionFollows fun s => (s, d s) := fun s => .refl s

theorem State.decideOpenHouse_follows (src : Source) : DecisionFollows (State.decideOpenHouse src) := by
  intro s
  unfold State.decideOpenHouse
  split
  · next h =>
    dsimp only
    refine State.changePhase_follows_record ?_
    exact .openHouse _ _ h
  · exact .refl s

@[simp] theorem Pfu.begin_perf (now : Nat) (f : Pfu) : (f.begin now).1.perf = f.perf.begin now := by
  unfold Pfu.begin
  split
  · split <;> rfl
  · split <;> rfl
  all_goals rfl

theorem State.beginRefusal_none {s : State} : s.beginRefusal = none ↔ beginPhase s.phase = true ∧ s.ctc.state = .up ∧
    s.pfu.perf.proven = true ∧ s.fireQuiet = true ∧ s.lmu.limitState 6 = .normal := by
  unfold State.beginRefusal
  repeat' split
  all_goals simp_all

theorem State.decideBegin_follows (src : Source) : DecisionFollows (State.decideBegin src) := by
  intro s
  unfold State.decideBegin
  split
  · exact .refl s
  · next h =>
    refine State.changePhase_follows_record ?_
    rw [Pfu.begin_perf]
    exact .begin _ _ (State.beginRefusal_none.1 h).1

theorem State.decideInterval_follows (src : Source) : DecisionFollows (State.decideInterval src) := by
  intro s
  unfold State.decideInterval
  split
  · next h =>
    dsimp only
    refine State.changePhase_follows_record ?_
    exact .interval _ _ _ h.1
  · exact .refl s

@[simp] theorem Pfu.endShow_perf (now : Nat) (f : Pfu) : (f.endShow now).1.perf = f.perf.endShow now := rfl

theorem State.decideEnd_follows (src : Source) : DecisionFollows (State.decideEnd src) := by
  intro s
  unfold State.decideEnd
  split
  · next h =>
    dsimp only
    refine State.changePhase_follows_record ?_
    exact .endShow _ _ (h.imp id And.left)
  · exact .refl s

theorem State.decideResume_follows (src : Source) : DecisionFollows (State.decideResume src) := by
  intro s
  unfold State.decideResume
  split
  · exact .refl s
  · next h =>
    split
    · exact .refl s
    · dsimp only
      refine State.changePhase_follows_record ?_
      exact .resume _ _ (not_not.1 h)

theorem State.decideClose_follows : DecisionFollows State.decideClose := by
  intro s
  unfold State.decideClose
  split
  · exact .refl s
  · next h =>
    split
    · exact .refl s
    · dsimp only
      refine State.changePhase_follows_record ?_
      exact .close _ _ (not_not.1 h)

theorem State.decideFireFull_follows : DecisionFollows State.decideFireFull := by
  intro s
  unfold State.decideFireFull
  split
  · exact s.enterFull_follows _
  · exact s.enterFull_follows _
  · split
    · exact s.resound_follows
    · exact .refl s

theorem State.decideFireAck_follows : DecisionFollows State.decideFireAck := by
  intro s
  unfold State.decideFireAck
  dsimp only
  split
  · next h => exact .of_alert rfl rfl (by simp [h]) (by simp) rfl rfl
  · exact .refl s

theorem State.decideFireSilence_follows : DecisionFollows State.decideFireSilence := by
  intro s
  unfold State.decideFireSilence
  dsimp only
  split
  · exact ((State.cancelKept_follows _ _).trans (State.notify_follows _ _)).after_eq rfl rfl rfl rfl rfl
  · exact .refl s

theorem State.decideCallTemplate_follows (src : Source) (n : Nat) : DecisionFollows (State.decideCallTemplate src n) := by
  intro s
  unfold State.decideCallTemplate
  split
  · exact .refl s
  · exact s.placeCall_follows _ _

theorem State.decideHalt_follows : DecisionFollows State.decideHalt := by
  intro s
  unfold State.decideHalt
  split
  · exact s.withCtc_follows _
  · split
    · exact s.withCtc_follows _
    · exact .refl s
  all_goals exact .refl s

theorem State.decideClear_follows : DecisionFollows State.decideClear := by
  intro s
  unfold State.decideClear
  split
  case h_4 | h_5 | h_6 => exact .refl s
  all_goals exact s.withCtc_follows _

theorem State.startOperation_follows (op : StoreOp) : DecisionFollows (State.startOperation op) :=
  fun _ => .of_eq rfl rfl rfl rfl rfl

theorem State.decidePlanOpen_follows (l : Option PlanLetter) (h : PlanHeader) : DecisionFollows (State.decidePlanOpen l h) := by
  intro s
  unfold State.decidePlanOpen
  split
  · exact .refl s
  · exact .refl s
  · split
    · exact .refl s
    · exact .of_eq rfl rfl rfl rfl rfl

theorem State.decidePlanPut_follows (l : Option PlanLetter) (first count : Nat) (rs : List StepRecord) :
    DecisionFollows (State.decidePlanPut l first count rs) := by
  intro s
  unfold State.decidePlanPut
  split
  · exact .refl s
  · split
    · exact .refl s
    · split
      · exact .refl s
      · split
        · exact .refl s
        · split
          · exact .refl s
          · split
            · exact .refl s
            · exact s.startOperation_follows _

theorem State.decidePlanSeal_follows (l : Option PlanLetter) (count : Nat) :
    DecisionFollows (State.decidePlanSeal l count) := by
  intro s
  unfold State.decidePlanSeal
  split
  · exact .refl s
  · split
    · exact .refl s
    · split
      · exact .refl s
      · split
        · exact .refl s
        · split
          · exact .refl s
          · exact s.startOperation_follows _

theorem State.decidePlanErase_follows (l : Option PlanLetter) : DecisionFollows (State.decidePlanErase l) := by
  intro s
  unfold State.decidePlanErase
  split
  · exact .refl s
  · split
    · exact .refl s
    · exact s.startOperation_follows _

theorem State.decidePlanRead_follows (l : Option PlanLetter) (x : PlanSelect) : DecisionFollows (State.decidePlanRead l x) := by
  intro s
  unfold State.decidePlanRead
  cases x
  all_goals
    dsimp only
    repeat' split
    all_goals exact .refl s

theorem State.decideStepRead_follows (first count : Nat) : DecisionFollows (State.decideStepRead first count) := by
  intro s
  unfold State.decideStepRead
  split
  · exact .refl s
  · split <;> exact .refl s

theorem State.decideExtend_follows (n : Nat) : DecisionFollows (State.decideExtend n) := by
  intro s
  unfold State.decideExtend
  split
  · exact .refl s
  · split
    · exact .refl s
    · exact .of_record rfl (.extend _ _) rfl rfl rfl

theorem State.decideIsolate_follows (z n : Nat) : DecisionFollows (State.decideIsolate z n) := by
  intro s
  unfold State.decideIsolate
  repeat' split
  all_goals first | exact .refl s | exact State.putFdu_follows (Fdu.isolate_fire _ _ _ _)

theorem State.endIsolation_follows (z : Nat) (s : State) : Follows s (s.endIsolation z) := .of_eq rfl rfl rfl rfl rfl

theorem State.decideZoneRestore_follows (z : Nat) : DecisionFollows (State.decideZoneRestore z) := by
  intro s
  unfold State.decideZoneRestore
  split
  · exact .refl s
  · split
    · exact .refl s
    · exact s.endIsolation_follows z

theorem State.decideWalkTest_follows (z : Nat) : DecisionFollows (State.decideWalkTest z) := by
  intro s
  unfold State.decideWalkTest
  repeat' split
  all_goals exact .of_eq rfl rfl rfl rfl rfl

theorem State.decideWalkTestEnd_follows : DecisionFollows State.decideWalkTestEnd := by
  intro s
  unfold State.decideWalkTestEnd
  split <;> exact .of_eq rfl rfl rfl rfl rfl

theorem State.decideTemplateWrite_follows (n : Nat) (b : CallBody) : DecisionFollows (State.decideTemplateWrite n b) := by
  intro s
  unfold State.decideTemplateWrite
  repeat' split
  all_goals exact .of_eq rfl rfl rfl rfl rfl

theorem State.decideCallBody_follows (b : CallBody) : DecisionFollows (State.decideCallBody b) := by
  intro s
  unfold State.decideCallBody
  split
  · exact .refl s
  · exact s.placeCall_follows _ _

theorem State.decideAnnouncerReset_follows : DecisionFollows State.decideAnnouncerReset := by
  intro s
  unfold State.decideAnnouncerReset
  repeat' split
  all_goals exact .of_eq rfl rfl rfl rfl rfl

theorem State.decideCancel_follows (id : Nat) : DecisionFollows (State.decideCancel id) := by
  intro s
  unfold State.decideCancel
  split
  · exact .refl s
  · split
    · exact .refl s
    · exact s.withClu_follows _

theorem State.decideQueueRead_follows (first count : Nat) : DecisionFollows (State.decideQueueRead first count) := by
  intro s
  unfold State.decideQueueRead
  split <;> exact .refl s

theorem State.decidePresetWrite_follows (n : Nat) (l : List Nat) : DecisionFollows (State.decidePresetWrite n l) := by
  intro s
  unfold State.decidePresetWrite
  repeat' split
  all_goals exact .of_eq rfl rfl rfl rfl rfl

theorem State.decideRestore_follows : DecisionFollows State.decideRestore := by
  intro s
  unfold State.decideRestore
  split
  · exact .refl s
  · exact (State.regate_follows _).after_eq rfl rfl rfl rfl rfl

theorem State.decideDeviceRead_follows (a : Nat) : DecisionFollows (State.decideDeviceRead a) := by
  intro s
  unfold State.decideDeviceRead
  split <;> exact .refl s

theorem State.decideDeviceCounts_follows (first count : Nat) : DecisionFollows (State.decideDeviceCounts first count) := by
  intro s
  unfold State.decideDeviceCounts
  split <;> exact .of_eq rfl rfl rfl rfl rfl

theorem State.setDevice_follows (a : Nat) (d : DeviceConfig) (s : State) : Follows s (s.setDevice a d) :=
  .of_eq rfl rfl (by simp [State.setDevice, Fdu.reconfigure_fire]) rfl rfl

/-- An accepted CONFIG-SET leaves the record, the fire state and the lights as they are. -/
theorem State.ownerSet_follows {w : ConfigWrite} {s t : State} (h : s.ownerSet w = .accepted t) : Follows s t := by
  cases w <;> simp only [State.ownerSet, ownerCheck, ownerValue] at h
  case device a v =>
    split at h
    · cases h
    · split at h
      · cases h
      · cases h
        exact s.setDevice_follows a _
  all_goals
    repeat' split at h
    all_goals cases h
    all_goals exact .of_eq rfl rfl rfl rfl rfl

theorem State.decideConfigSet_follows (w : ConfigWrite) : DecisionFollows (State.decideConfigSet w) := by
  intro s
  unfold State.decideConfigSet
  dsimp only
  split
  · exact .refl s
  · split
    · exact .refl s
    · split
      · exact .refl s
      · next h => exact State.ownerSet_follows h

theorem State.decideConfigGet_follows (i : ConfigItem) : DecisionFollows (State.decideConfigGet i) := by
  intro s
  unfold State.decideConfigGet
  split <;> exact .refl s

theorem State.decideConfigStore_follows : DecisionFollows State.decideConfigStore := by
  intro s
  unfold State.decideConfigStore
  repeat' split
  all_goals exact .of_eq rfl rfl rfl rfl rfl

/-! ## The events -/

theorem State.deskRequest_follows (a : KeyAction) : DecisionFollows (State.deskRequest a) := by
  intro s
  cases a with
  | phase r =>
    cases r with
    | openHouse => exact s.decideOpenHouse_follows _
    | begin => exact s.decideBegin_follows _
    | interval => exact s.decideInterval_follows _
    | endShow => exact s.decideEnd_follows _
    | resume => exact s.decideResume_follows _
  | showStop => exact s.decideShowStop_follows (by decide)
  | evacuate => exact s.decideEvacuate_follows _
  | fireFull => exact s.decideFireFull_follows
  | call n => exact s.decideCallTemplate_follows _ _
  | curtainLower => exact s.decideLower_follows
  | curtainRaise => exact s.decideRaise_follows
  | curtainHalt => exact s.decideHalt_follows
  | lightsGo p => exact s.decideGo_follows _ _
  | houseFull => exact s.decideHouseFull_follows
  | fireAck => exact s.decideFireAck_follows
  | fireSilence => exact s.decideFireSilence_follows
  | none => exact .refl s

theorem State.issueKey_follows (k : Nat) (a : KeyAction) (s : State) : Follows s (s.issueKey k a) := by
  unfold State.issueKey
  split
  · exact .refl s
  · dsimp only
    split
    · exact (s.deskRequest_follows a).trans (.of_eq rfl rfl rfl rfl rfl)
    all_goals exact s.deskRequest_follows a

theorem State.fireKey_follows (k : Nat) (s : State) : Follows s (s.fireKey k) := by
  unfold State.fireKey
  dsimp only
  split
  · exact s.issueKey_follows _ _
  · exact s.notify_follows _
  · exact (s.notify_follows _).trans (State.issueKey_follows _ _ _)

theorem State.withDsu_follows (o : DsuOut) (s : State) : Follows s (s.withDsu o) := by
  unfold State.withDsu
  dsimp only
  split
  · exact (State.fireKey_follows _ _).after_eq rfl rfl rfl rfl rfl
  · exact .of_eq rfl rfl rfl rfl rfl

theorem State.fireTimerEnd_follows (s : State) : Follows s s.fireTimerEnd := by
  unfold State.fireTimerEnd
  split
  · exact s.enterFull_follows _
  · exact .refl s

theorem State.deliver_follows (n : Nat) (st : LimitState) (s : State) : Follows s (s.deliver n st) := by
  unfold State.deliver
  split
  · split
    · exact s.withCtc_follows _
    · exact s.regate_follows
  · split
    · exact s.withCtc_follows _
    · exact .refl s
  · exact State.putFdu_follows (by rw [Fdu.sounderChannel_fire])
  · exact State.putFdu_follows (by rw [Fdu.sounderChannel_fire])
  · exact State.putFdu_follows (by rw [Fdu.sounderChannel_fire])
  · exact State.putFdu_follows (by rw [Fdu.sounderChannel_fire])
  · split <;> exact .of_eq rfl rfl rfl rfl rfl
  · split
    · exact s.playEvent_follows _
    · exact .refl s
  · exact .refl s

theorem State.convert_follows (code : Nat) (s : State) : Follows s (s.convert code) := by
  unfold State.convert
  dsimp only
  split
  · exact .of_eq rfl rfl rfl rfl rfl
  · exact (State.deliver_follows _ _ _).after_eq rfl rfl rfl rfl rfl

theorem State.endOperation_follows (b : Bool) (s : State) : Follows s (s.endOperation b) := by
  unfold State.endOperation
  split
  · exact .refl s
  · dsimp only
    split <;> exact .of_eq rfl rfl rfl rfl rfl

theorem State.endSlot_follows (ra rb : Reception) (s : State) : Follows s (s.endSlot ra rb) := by
  unfold State.endSlot
  split
  · exact State.withFdu_follows (Fdu.endSlot_fire _ _ _ _ _ _)
  · exact .refl s

theorem State.issueDue_follows (s : State) : Follows s s.issueDue := s.issueSteps_follows _

/-- A channel at full with no fade stays so at an evaluation (R93). -/
theorem State.evaluateFade_follows (i : Nat) (s : State) : Follows s { s with hlu := s.hlu.evaluate i } := by
  refine ⟨rfl, .refl, fun h hl r hr => ?_⟩
  obtain ⟨j, hj, rfl⟩ := List.mem_iff_getElem.1 (show r ∈ s.hlu.channels.modify i ChannelRun.evaluate from hr)
  have hc := h hl _ (List.getElem_mem (by simpa using hj))
  rw [List.getElem_modify]
  split <;> simp [hc, ChannelRun.evaluate]

theorem State.rejectFrame_follows (f : FrameBytes) (s : State) : Follows s (s.rejectFrame f) := by
  unfold State.rejectFrame
  split <;> exact .of_eq rfl rfl rfl rfl rfl

/-! ## The frames of a command's meaning -/

theorem State.event_follows {f : State → State} {s : State} (hf : Follows s (f s)) (due : Bool) :
    Follows s (s.event due f) := by
  unfold State.event
  split
  · exact .refl s
  · exact hf.trans (State.finish_follows _)

theorem State.ctcInput_follows (same : Bool) (track : Ctc → Ctc) (react : CtcEnv → Ctc → CtcOut) (s : State) :
    Follows s (s.ctcInput same track react) := by
  unfold State.ctcInput
  split
  · exact .of_eq rfl rfl rfl rfl rfl
  · split
    · exact .refl s
    · exact (s.withCtc_follows _).trans (State.finish_follows _)

theorem State.busyInput_follows (level : Bool) (f : Clu → CluOut) (s : State) : Follows s (s.busyInput level f) := by
  unfold State.busyInput
  split
  · exact .of_eq rfl rfl rfl rfl rfl
  · split
    · exact .refl s
    · exact (s.playEvent_follows _).trans (State.finish_follows _)

theorem State.encoderInput_follows (n : Nat) (s : State) : Follows s (s.encoderInput n) := by
  unfold State.encoderInput
  dsimp only
  split
  · exact s.drawn_follows.trans (State.ctcInput_follows _ _ _ _)
  · exact s.ctcInput_follows _ _ _

/-- What a request's frame comes to: LP alone takes it, or the decision is made of the state that hunts. -/
theorem State.receive_cases (kind : ReplyKind) (d : State → State × Decision) (s : State) :
    Follows s (s.receive kind d) ∨ Follows (d s.hunting).1 (s.receive kind d) := by
  unfold State.receive
  split
  · exact .inl (.refl s)
  · split
    · exact .inl s.hunting_follows
    · split
      · exact .inl (.of_eq rfl rfl rfl rfl rfl)
      · exact .inr (.of_eq rfl rfl rfl rfl rfl)

theorem State.receive_follows {d : State → State × Decision} (hd : DecisionFollows d) (kind : ReplyKind) (s : State) :
    Follows s (s.receive kind d) :=
  (s.receive_cases kind d).elim id fun h => s.hunting_follows.trans ((hd _).trans h)

theorem State.answer_follows {d : State → State × Decision} (hd : DecisionFollows d) (kind : RequestKind) (fits : Bool)
    (s : State) : Follows s (s.answer kind fits d) := by
  refine State.receive_follows (fun s => ?_) _ s
  split
  · exact hd s
  · exact .refl s

theorem State.answer_cases (kind : RequestKind) (d : State → State × Decision) (s : State) :
    Follows s (s.answer kind true d) ∨ Follows (d s.hunting).1 (s.answer kind true d) := State.receive_cases _ _ s

theorem State.frameSent_cases (s : State) :
    Follows s s.frameSent ∨ ∃ l c, s.frameSent = State.assertReset c { s with lp := l } := by
  unfold State.frameSent
  split
  · exact .inl (.refl s)
  · exact .inl (.of_eq rfl rfl rfl rfl rfl)
  · exact .inl (.of_eq rfl rfl rfl rfl rfl)
  · unfold State.replySent
    dsimp only
    split
    · split
      · exact .inr ⟨_, _, rfl⟩
      · exact .inl (.of_eq rfl rfl rfl rfl rfl)
    · exact .inl (.of_eq rfl rfl rfl rfl rfl)

end Sys2Proof.Machine
end

section
/-!
The law of `exec` and of the step for the record, the fire state and the lights, and the obligations it settles.
-/

namespace Sys2Proof.Machine

open Sys2Proof.Safety

/-! ## The commands that do more than moves -/

/-- ARM of a plan that DARK takes: the record starts afresh, with the fire state as it is and not FULL (R6). -/
def Arms (s t : State) : Prop :=
  s.phase = .dark ∧ s.fireFull = false ∧ ∃ l c, Follows { s with pfu := s.pfu.arm l c s.now } t ∧
    t.pfu.perf = (s.pfu.arm l c s.now).perf

/-- DISARM in PREPARE or CLOSED (R18). -/
def Disarms (s t : State) : Prop :=
  (s.phase = .prepare ∨ s.phase = .closed) ∧ Follows { s with pfu := (s.pfu.disarm s.now).1 } t

/-- FIRE-RESET: the fire state becomes QUIET (R139, R144). -/
def FireResets (s t : State) : Prop :=
  ∃ u : State, u.held = s.held ∧ u.pfu = s.pfu ∧ u.fdu.fire.state = .quiet ∧ u.hlu = s.hlu ∧ u.ilu = s.ilu ∧ Follows u t

theorem State.decideArm_cases (l : Option PlanLetter) (s : State) :
    Follows s (s.decideArm l).1 ∨ Arms s (s.decideArm l).1 := by
  unfold State.decideArm
  cases l with
  | none => exact .inl (.refl s)
  | some l =>
    dsimp only
    split
    · exact .inl (.refl s)
    · next hp =>
      split
      · exact .inl (.refl s)
      · next hf =>
        split
        · exact .inl (.refl s)
        · split
          · exact .inl (.refl s)
          · split
            · exact .inl (.refl s)
            · exact .inl (.of_eq rfl rfl rfl rfl rfl)
            · next c _ =>
              have h := State.changePhase_follows (.request .arm .link) (fun f => (f.arm l c s.now, [])) s
              refine .inr ⟨not_not.1 hp, Bool.eq_false_iff.2 hf, l, c, h, ?_⟩
              dsimp only
              rw [State.changePhase_noneDue (Pfu.dueSteps_arm l c s.now s.pfu)]
              simp [State.phaseRecord]

/-- Where a request's frame is taken, LP alone moves besides the decision. -/
theorem State.answer_pfu_cases (kind : RequestKind) (d : State → State × Decision) (s : State) :
    Follows s (s.answer kind true d) ∨
      (s.answer kind true d).pfu = (d s.hunting).1.pfu ∧ Follows (d s.hunting).1 (s.answer kind true d) := by
  unfold State.answer State.receive
  split
  · exact .inl (.refl s)
  · split
    · exact .inl s.hunting_follows
    · split
      · exact .inl (.of_eq rfl rfl rfl rfl rfl)
      · exact .inr ⟨rfl, .of_eq rfl rfl rfl rfl rfl⟩

theorem execArm_cases (l : Option PlanLetter) (s : State) :
    Follows s (s.answer .arm true (State.decideArm l)) ∨ Arms s (s.answer .arm true (State.decideArm l)) := by
  obtain h | ⟨hp, h⟩ := State.answer_pfu_cases .arm (State.decideArm l) s
  · exact .inl h
  · obtain k | ⟨hd, hf, l, c, k, hr⟩ := s.hunting.decideArm_cases l
    · exact .inl (s.hunting_follows.trans (k.trans h))
    · exact .inr ⟨hd, hf, l, c, (k.trans h).after_eq rfl rfl rfl rfl rfl, hp ▸ hr⟩

@[simp] theorem Pfu.disarm_perf (now : Nat) (f : Pfu) : (f.disarm now).1.perf = f.perf.disarm now := by
  unfold Pfu.disarm
  split <;> rfl

theorem execDisarm_cases (s : State) :
    Follows s (s.answer .disarm true State.decideDisarm) ∨ Disarms s (s.answer .disarm true State.decideDisarm) := by
  refine (State.answer_cases .disarm State.decideDisarm s).elim .inl fun h => ?_
  unfold State.decideDisarm at h
  split at h
  · next hp =>
    exact .inr ⟨hp, ((State.changePhase_follows _ (Pfu.disarm s.now) s.hunting).trans h).after_eq rfl rfl rfl rfl rfl⟩
  · exact .inl (s.hunting_follows.trans h)

/-- The devices returned and the record QUIET, before the staff-alert call is cancelled. -/
def State.fireQuieted (s : State) : State :=
  let t := s.putFdu (Fdu.eachDevice (Fdu.orderReturn s.settings) addresses s.fdu)
  { t with fdu := t.fdu.setFire (t.fdu.fire.quiet t.now) }

theorem State.fireQuieted_held (s : State) : s.fireQuieted.held = s.held := by simp [State.fireQuieted]
theorem State.fireQuieted_pfu (s : State) : s.fireQuieted.pfu = s.pfu := by simp [State.fireQuieted]
theorem State.fireQuieted_state (s : State) : s.fireQuieted.fdu.fire.state = .quiet := by
  simp [State.fireQuieted, FireRecord.quiet]
theorem State.fireQuieted_hlu (s : State) : s.fireQuieted.hlu = s.hlu := by simp [State.fireQuieted]
theorem State.fireQuieted_ilu (s : State) : s.fireQuieted.ilu = s.ilu := by simp [State.fireQuieted]

theorem State.resetFire_follows (s : State) : Follows s.fireQuieted s.resetFire :=
  ((State.cancelKept_follows _ _).trans (State.notify_follows _ _)).trans (State.regate_follows _)

theorem execFireReset_cases (s : State) :
    Follows s (s.answer .fireReset true State.decideFireReset) ∨
      FireResets s (s.answer .fireReset true State.decideFireReset) := by
  refine (State.answer_cases .fireReset State.decideFireReset s).elim .inl fun h => ?_
  unfold State.decideFireReset at h
  dsimp only at h
  split at h
  · exact .inl (s.hunting_follows.trans h)
  · split at h
    · exact .inl (s.hunting_follows.trans h)
    · have hq : Follows s.hunting.fireQuieted _ := s.hunting.resetFire_follows.trans h
      exact .inr ⟨s.hunting.fireQuieted, s.hunting.fireQuieted_held, s.hunting.fireQuieted_pfu,
        s.hunting.fireQuieted_state, s.hunting.fireQuieted_hlu, s.hunting.fireQuieted_ilu, hq⟩

/-- The release of reset starts from the blocks at their reset state. -/
theorem State.releaseReset_follows (cause : ResetCause) (s : State) : Follows s.blocksReset (s.releaseReset cause) := by
  unfold State.releaseReset
  dsimp only
  split
  · exact (((State.notify_follows _ _).trans (State.notify_follows _ _)).trans (State.withCtc_follows _ _)).trans
      (State.finish_follows _)
  · exact ((State.notify_follows _ _).trans (State.withCtc_follows _ _)).trans (State.finish_follows _)

/-- What a command can do to the record, the fire state and the lights. -/
inductive Does (s t : State) : Instr → Prop
  | moves {c : Instr} : Follows s t → Does s t c
  | holds {c : Instr} (l : Lp) (cause : ResetCause) : t = State.assertReset cause { s with lp := l } → Does s t c
  | arms (l : Option PlanLetter) : Arms s t → Does s t (.arm l)
  | disarms : Disarms s t → Does s t .disarm
  | fireResets : FireResets s t → Does s t .fireReset
  | releases : Follows s.blocksReset t → Does s t .resetRelease

theorem next_inj {s t : State} (h : (Host.Outcome.next s : Answer) = .next t) : s = t := by
  cases h
  rfl

theorem exec_does {c : Instr} {s t : State} (h : exec c s = .next t) : Does s t c := by
  cases c <;> obtain rfl := next_inj h
  case resetAssert cause =>
    split
    · exact .moves (.refl s)
    · exact .holds s.lp cause rfl
  case resetRelease =>
    split
    · exact .releases (s.releaseReset_follows _)
    · exact .moves (.refl s)
  case arm l => exact (execArm_cases l s).elim .moves (.arms l)
  case disarm => exact (execDisarm_cases s).elim .moves .disarms
  case fireReset => exact (execFireReset_cases s).elim .moves .fireResets
  case outboundFrameSent =>
    split
    · exact .moves (.refl s)
    · exact s.frameSent_cases.elim .moves fun ⟨l, c, e⟩ => .holds l c e
  all_goals refine .moves ?_
  case openHouse => exact s.answer_follows (State.decideOpenHouse_follows _) _ _
  case begin => exact s.answer_follows (State.decideBegin_follows _) _ _
  case interval => exact s.answer_follows (State.decideInterval_follows _) _ _
  case endShow => exact s.answer_follows (State.decideEnd_follows _) _ _
  case showStop => exact s.answer_follows (State.decideShowStop_follows (by decide)) _ _
  case resume => exact s.answer_follows (State.decideResume_follows _) _ _
  case evacuate => exact s.answer_follows (State.decideEvacuate_follows _) _ _
  case close => exact s.answer_follows State.decideClose_follows _ _
  case performanceRead | curtainRead | interlockRead | sampleRead | deskRead | identify =>
    exact s.answer_follows (.read _) _ _
  case planOpen => exact s.answer_follows (State.decidePlanOpen_follows _ _) _ _
  case planPut => exact s.answer_follows (State.decidePlanPut_follows _ _ _ _) _ _
  case planSeal => exact s.answer_follows (State.decidePlanSeal_follows _ _) _ _
  case planErase => exact s.answer_follows (State.decidePlanErase_follows _) _ _
  case planRead => exact s.answer_follows (State.decidePlanRead_follows _ _) _ _
  case storeOperationEnd => exact State.event_follows (s.endOperation_follows _) _
  case stepRead => exact s.answer_follows (State.decideStepRead_follows _ _) _ _
  case extend => exact s.answer_follows (State.decideExtend_follows _) _ _
  case stepDue => exact State.event_follows s.issueDue_follows _
  case intervalExpired =>
    exact State.event_follows (f := fun s => s.issueDue.sendExpiry) (s.issueDue_follows.trans (.of_eq rfl rfl rfl rfl rfl)) _
  case curtainRaise => exact s.answer_follows State.decideRaise_follows _ _
  case curtainLower => exact s.answer_follows State.decideLower_follows _ _
  case curtainTest => exact s.answer_follows State.decideTest_follows _ _
  case curtainHalt => exact s.answer_follows State.decideHalt_follows _ _
  case curtainClear => exact s.answer_follows State.decideClear_follows _ _
  case encoderCountChange => exact s.encoderInput_follows _
  case topChange | overtravelChange | floorChange | edgeTrip => exact s.ctcInput_follows _ _ _
  case obstructionHoldEnd | raiseTimeout | stopWarningEnd | floorTimerExpiry | descentWindow | timeOnlyLate =>
    exact State.event_follows (s.withCtc_follows _) _
  case presetWrite => exact s.answer_follows (State.decidePresetWrite_follows _ _) _ _
  case lightsGo => exact s.answer_follows (State.decideGo_follows _ _) _ _
  case houseFull => exact s.answer_follows State.decideHouseFull_follows _ _
  case lightsRestore => exact s.answer_follows State.decideRestore_follows _ _
  case lightsRead | fireRead | linkCounts | status | restart =>
    exact s.answer_follows (fun s => .of_eq rfl rfl rfl rfl rfl) _ _
  case fadeEvaluation => exact State.event_follows (s.evaluateFade_follows _) _
  case pollSlotStart =>
    exact State.event_follows (.of_eq rfl rfl (by rw [Fdu.startSlot_fire]) rfl rfl) _
  case pollSlotEnd => exact State.event_follows (s.endSlot_follows _ _) _
  case continuityDue | walkIndicationExpiry | refusedIndicationExpiry | flashHalfPeriod | frameTimeout | frameSync
      | stepDueWithin60S | playStrobeEnd => exact State.event_follows (.of_eq rfl rfl rfl rfl rfl) _
  case continuityResult => exact State.event_follows (State.putFdu_follows (by rw [Fdu.continuity_fire])) _
  case deviceRead => exact s.answer_follows (State.decideDeviceRead_follows _) _ _
  case deviceCounts => exact s.answer_follows (State.decideDeviceCounts_follows _ _) _ _
  case zoneIsolate => exact s.answer_follows (State.decideIsolate_follows _ _) _ _
  case zoneRestore => exact s.answer_follows (State.decideZoneRestore_follows _) _ _
  case isolationExpiry => exact State.event_follows (s.endIsolation_follows _) _
  case fireTimerExpiry => exact State.event_follows s.fireTimerEnd_follows _
  case fireAck => exact s.answer_follows State.decideFireAck_follows _ _
  case fireFull => exact s.answer_follows State.decideFireFull_follows _ _
  case fireSilence => exact s.answer_follows State.decideFireSilence_follows _ _
  case walkTest => exact s.answer_follows (State.decideWalkTest_follows _) _ _
  case walkTestEnd => exact s.answer_follows State.decideWalkTestEnd_follows _ _
  case templateWrite => exact s.answer_follows (State.decideTemplateWrite_follows _ _) _ _
  case call => exact s.answer_follows (State.decideCallBody_follows _) _ _
  case callTemplate => exact s.answer_follows (State.decideCallTemplate_follows _ _) _ _
  case settlingEnd | bellSegmentEnd | noStart | speakingLimitExpiry | stopStrobeEnd | stopTimeout | readyTime =>
    refine State.event_follows ?_ _
    exact s.playEvent_follows _
  case busyRise | busyFall => exact s.busyInput_follows _ _
  case announcerReset => exact s.answer_follows State.decideAnnouncerReset_follows _ _
  case callCancel => exact s.answer_follows (State.decideCancel_follows _) _ _
  case queueRead => exact s.answer_follows (State.decideQueueRead_follows _ _) _ _
  case lineConversion => exact State.event_follows (s.convert_follows _) _
  case columnRead | debounceExpiry | longTimerExpiry => exact State.event_follows (s.withDsu_follows _) _
  case frameRejected => exact State.event_follows (s.rejectFrame_follows _) _
  case frameOverrun =>
    refine State.event_follows ?_ _
    split <;> exact .of_eq rfl rfl rfl rfl rfl
  case unknownKind fault => cases fault <;> exact s.receive_follows (.read _) _
  case configSet => exact s.answer_follows (State.decideConfigSet_follows _) _ _
  case configGet => exact s.answer_follows (State.decideConfigGet_follows _) _ _
  case configStore => exact s.answer_follows State.decideConfigStore_follows _ _

end Sys2Proof.Machine
end

section
/-!
The invariants of the record, of FULL and of the override, kept by every move, and the law of curtain-proven.
-/

namespace Sys2Proof.Machine

open Sys2Proof.Safety

/-! ## A step -/

theorem State.idle_follows (s : State) : Follows s s.idle := by
  unfold State.idle
  split
  · exact .refl s
  · split
    · exact .of_record rfl (.tick _) rfl rfl rfl
    · exact .of_eq rfl rfl rfl rfl rfl
    · exact .of_eq rfl rfl rfl rfl rfl

/-- A step runs a command, or does what the part does of itself. -/
theorem step_cases {s t : State} (h : step s = .next t) :
    Follows s t ∨ ∃ c cs, Does { s with pending := cs } t c := by
  unfold step at h
  split at h
  · exact .inr ⟨_, _, exec_does h⟩
  · obtain rfl := next_inj h
    exact .inl s.idle_follows

/-! ## The clocks -/

theorem Clocks.get_set (c : Clocks) (i j : ClockId) (k : AnchorClock) :
    (c.set i k).get j = if j = i then k else c.get j := by
  cases i <;> cases j <;> rfl

theorem Clocks.get_map (f : AnchorClock → AnchorClock) (c : Clocks) (i : ClockId) : (c.map f).get i = f (c.get i) := by
  cases i <;> rfl

/-- Every clock lies in its range (TABLE X). -/
def Clocks.Ok (c : Clocks) : Prop := ∀ i, (c.get i).value ≤ 86400000

theorem Clocks.Ok.set {c : Clocks} (h : c.Ok) (i : ClockId) {k : AnchorClock} (hk : k.value ≤ 86400000) : (c.set i k).Ok := by
  intro j
  rw [Clocks.get_set]
  split
  · exact hk
  · exact h j

theorem Clocks.Ok.map {c : Clocks} (h : c.Ok) {f : AnchorClock → AnchorClock}
    (hf : ∀ k : AnchorClock, k.value ≤ 86400000 → (f k).value ≤ 86400000) : (c.map f).Ok := by
  intro i
  rw [Clocks.get_map]
  exact hf _ (h i)

theorem Clocks.Ok.start {c : Clocks} (h : c.Ok) (i : ClockId) : (c.start i).Ok := h.set i (Nat.zero_le _)

theorem Clocks.Ok.finish {c : Clocks} (h : c.Ok) (i : ClockId) : (c.finish i).Ok := h.set i (h i)

theorem AnchorClock.continue_value (k : AnchorClock) : k.continue.value = k.value := by
  unfold AnchorClock.continue
  split <;> rfl

theorem Clocks.Ok.continue {c : Clocks} (h : c.Ok) (i : ClockId) : (c.continue i).Ok :=
  h.set i (by rw [AnchorClock.continue_value]; exact h i)

theorem AnchorClock.tick_le (k : AnchorClock) (h : k.value ≤ 86400000) : k.tick.value ≤ 86400000 := by
  unfold AnchorClock.tick
  split
  · exact Nat.min_le_left _ _
  · exact h

theorem AnchorClock.pause_value (k : AnchorClock) : k.pause.value = k.value := by
  unfold AnchorClock.pause
  split <;> rfl

theorem AnchorClock.finishActive_value (k : AnchorClock) : k.finishActive.value = k.value := by
  unfold AnchorClock.finishActive
  split <;> rfl

theorem Clocks.fresh_ok : Clocks.fresh.Ok := by
  intro i
  cases i <;> exact Nat.zero_le _

/-! ## The plan field and the phase -/

theorem RecordMove.planOk {p q : Perf} (h : RecordMove p q) (hp : PlanOk p) : PlanOk q := by
  unfold PlanOk at hp ⊢
  cases h with
  | prove _ => exact hp
  | tick => exact hp
  | extend => exact hp
  | openHouse _ h => simp_all [Perf.openHouse]
  | interval _ _ h => simp_all [Perf.interval]
  | endShow _ h => rcases h with h | h <;> simp_all [Perf.endShow]
  | close _ h => simp_all [Perf.close]
  | showStop src _ h _ => cases hf : p.phase <;> simp_all [stopPhase, Perf.showStop]
  | begin _ h => cases hf : p.phase <;> simp_all [beginPhase, Perf.begin]
  | resume _ h =>
    unfold Perf.doResume
    dsimp only
    split <;> simp_all

theorem Perf.onFull_planOk {p : Perf} (now : Nat) (hp : PlanOk p) : PlanOk (p.onFull now) := by
  unfold Perf.onFull
  split
  · next h =>
    unfold PlanOk at hp ⊢
    cases hf : p.phase <;> simp_all [evacuablePhase, Perf.evacuate]
  · exact hp

/-! ## The stop cause, the resume phase and the ranges -/

end Sys2Proof.Machine

namespace Sys2Proof.Safety

open Sys2Proof.Machine

theorem RecordOk.of_clocks {p : Perf} (h : RecordOk p) {c : Clocks} (hc : c.Ok) : RecordOk { p with clocks := c } :=
  ⟨h.resume, h.cause, h.stops, hc⟩

/-- Outside STOPPED the record carries neither a stop cause nor a resume phase. -/
theorem RecordOk.clear {p : Perf} (h : RecordOk p) (hp : p.phase ≠ .stopped) : p.resume = none ∧ p.stopCause = .none := by
  have hr := h.resume
  have hc := h.cause
  simp only [hp, iff_false] at hr hc
  exact ⟨by simpa using hr, by simpa using hc⟩

/-- A record in another phase than STOPPED, with neither a stop cause nor a resume phase. -/
theorem RecordOk.moved {p : Perf} (hp : p.phase ≠ .stopped) (hr : p.resume = none) (hc : p.stopCause = .none)
    (hs : p.stops ≤ 15) (hk : p.clocks.Ok) : RecordOk p :=
  ⟨by simp [hp, hr], by simp [hp, hc], hs, hk⟩

end Sys2Proof.Safety

namespace Sys2Proof.Machine

open Sys2Proof.Safety

theorem Perf.begin_recordOk {p : Perf} (now : Nat) (h : RecordOk p) : RecordOk (p.begin now) := by
  unfold Perf.begin
  cases hf : p.phase
  case houseOpen | interval =>
    obtain ⟨hr, hc⟩ := h.clear (by simp [hf])
    exact .moved (by simp) hr hc h.stops ((Clocks.Ok.finish h.clocks _).start _)
  case resuming =>
    obtain ⟨hr, hc⟩ := h.clear (by simp [hf])
    exact .moved (by simp) hr hc h.stops (Clocks.Ok.continue h.clocks _)
  all_goals exact h

theorem Perf.endShow_recordOk {p : Perf} (now : Nat) (h : RecordOk p) : RecordOk (p.endShow now) := by
  refine .moved (by simp [Perf.endShow]) rfl rfl h.stops (Clocks.Ok.start ?_ _)
  split
  · exact Clocks.Ok.finish h.clocks _
  · exact h.clocks
  · exact Clocks.Ok.finish h.clocks _

theorem Perf.doResume_recordOk {p : Perf} (now : Nat) (h : RecordOk p) : RecordOk (p.doResume now) := by
  unfold Perf.doResume
  dsimp only
  split
  · exact .moved (by simp) rfl rfl h.stops (Clocks.Ok.continue h.clocks _)
  · exact .moved (by simp) rfl rfl h.stops (Clocks.Ok.continue h.clocks _)
  · exact .moved (by simp) rfl rfl h.stops h.clocks
  · exact .moved (by simp) rfl rfl h.stops h.clocks

theorem Source.stopCause_ne_none {src : Source} (h : src ≠ .plan) : Source.stopCause src ≠ .none := by
  cases src <;> simp_all [Source.stopCause]

theorem RecordMove.recordOk {p q : Perf} (h : RecordMove p q) (hp : RecordOk p) : RecordOk q := by
  cases h with
  | prove _ => exact ⟨hp.resume, hp.cause, hp.stops, hp.clocks⟩
  | tick => exact hp.of_clocks (Clocks.Ok.map hp.clocks AnchorClock.tick_le)
  | extend => exact ⟨hp.resume, hp.cause, hp.stops, hp.clocks⟩
  | begin now _ => exact Perf.begin_recordOk now hp
  | endShow now _ => exact Perf.endShow_recordOk now hp
  | resume now _ => exact Perf.doResume_recordOk now hp
  | openHouse _ h =>
    obtain ⟨hr, hc⟩ := hp.clear (by simp [h])
    exact .moved (by simp [Perf.openHouse]) hr hc hp.stops (Clocks.Ok.start hp.clocks _)
  | interval _ _ h =>
    obtain ⟨hr, hc⟩ := hp.clear (by simp [h])
    exact .moved (by simp [Perf.interval]) hr hc hp.stops ((Clocks.Ok.finish hp.clocks _).start _)
  | close _ h =>
    obtain ⟨hr, hc⟩ := hp.clear (by simp [h])
    exact .moved (by simp [Perf.close]) hr hc hp.stops (Clocks.Ok.start hp.clocks _)
  | showStop src now _ hs =>
    exact ⟨by simp [Perf.showStop], by simp [Perf.showStop, Source.stopCause_ne_none hs],
      by simp [Perf.showStop, saturate], Clocks.Ok.map hp.clocks fun k hk => by rwa [AnchorClock.pause_value]⟩

theorem Perf.onFull_recordOk {p : Perf} (now : Nat) (hp : RecordOk p) : RecordOk (p.onFull now) := by
  unfold Perf.onFull
  split
  · exact .moved (by simp [Perf.evacuate]) rfl rfl hp.stops
      (Clocks.Ok.map hp.clocks fun k hk => by rwa [AnchorClock.finishActive_value])
  · exact hp

theorem Perf.disarm_recordOk {p : Perf} (now : Nat) (h : p.phase = .prepare ∨ p.phase = .closed) (hp : RecordOk p) :
    RecordOk (p.disarm now) := by
  obtain ⟨hr, hc⟩ := hp.clear (by rcases h with h | h <;> simp [h])
  refine .moved (by simp [Perf.disarm]) hr hc hp.stops ?_
  unfold Perf.disarm
  dsimp only
  split
  · exact Clocks.Ok.finish hp.clocks _
  · exact hp.clocks

/-! ## What every command keeps of the record -/

/-- A condition on the record that every move of it keeps. -/
structure RecordKept (P : Perf → Prop) : Prop where
  move   : ∀ {p q}, RecordMove p q → P p → P q
  full   : ∀ {p} now, P p → P (p.onFull now)
  arm    : ∀ {p} l acts now, P p → P (p.arm l acts now)
  disarm : ∀ {p} now, p.phase = .prepare ∨ p.phase = .closed → P p → P (p.disarm now)
  reset  : P Perf.reset

theorem Follows.keeps {P : Perf → Prop} (k : RecordKept P) {s t : State} (h : Follows s t) (hs : P s.pfu.perf) :
    P t.pfu.perf := by
  refine h.keeps_view (P := fun v => P v.1) (fun m hv => ?_) hs
  cases m with
  | record _ m => exact k.move m hv
  | alert _ _ _ => exact hv
  | full _ _ now => exact k.full now hv

theorem Does.keeps {P : Perf → Prop} (k : RecordKept P) {c : Instr} {s t : State} (h : Does s t c) (hs : P s.pfu.perf) :
    P t.pfu.perf := by
  cases h with
  | moves h => exact h.keeps k hs
  | holds l cause h => subst h; exact hs
  | arms l h =>
    obtain ⟨_, _, l, copy, h, _⟩ := h
    exact h.keeps k (k.arm l _ _ hs)
  | disarms h => exact h.2.keeps k (by simpa using k.disarm s.now h.1 hs)
  | fireResets h =>
    obtain ⟨u, _, hu, _, _, _, h⟩ := h
    exact h.keeps k (hu ▸ hs)
  | releases h => exact h.keeps k k.reset

theorem step_keeps {P : Perf → Prop} (k : RecordKept P) {s t : State} (h : step s = .next t) (hs : P s.pfu.perf) :
    P t.pfu.perf :=
  (step_cases h).elim (fun h => h.keeps k hs) fun ⟨_, _, h⟩ => h.keeps k hs

theorem planOk_kept : RecordKept PlanOk where
  move := RecordMove.planOk
  full := Perf.onFull_planOk
  arm l acts now _ := by simp [PlanOk, Perf.arm]
  disarm now _ _ := by simp [PlanOk, Perf.disarm]
  reset := by simp [PlanOk, Perf.reset]

theorem recordOk_kept : RecordKept RecordOk where
  move := RecordMove.recordOk
  full := Perf.onFull_recordOk
  arm l acts now _ := .moved (by simp [Perf.arm]) rfl rfl (Nat.zero_le _) Clocks.fresh_ok
  disarm := Perf.disarm_recordOk
  reset := .moved (by simp [Perf.reset]) rfl rfl (Nat.zero_le _) Clocks.fresh_ok

/-- Settles O7: PLAN and the phase, and the fields of the record, are kept by each move of the record. -/
theorem recordHoldsTogether : Obligations.RecordHoldsTogether :=
  ⟨fun _ _ hs h => step_keeps planOk_kept h hs, fun _ _ hs h => step_keeps recordOk_kept h hs⟩

/-! ## FULL -/

/-- FULL stands beside DARK, EVACUATE and CLOSED only. -/
def FullView (v : Perf × FireState) : Prop :=
  v.2 = .full → v.1.phase = .dark ∨ v.1.phase = .evacuate ∨ v.1.phase = .closed

theorem fullPhase_iff (s : State) : FullPhase s ↔ FullView s.view := by
  simp [FullPhase, FullView, State.view, State.fireFull, State.phase]

theorem Move.fullView {v w : Perf × FireState} (h : Move v w) (hv : FullView v) : FullView w := by
  intro hw
  cases h with
  | alert _ _ hg => exact absurd hw hg
  | full p f now =>
    cases hp : p.phase <;> simp [Perf.onFull, hp, evacuablePhase, Perf.evacuate]
  | record f m =>
    have hp := hv hw
    cases m with
    | prove _ => exact hp
    | tick => exact hp
    | extend => exact hp
    | endShow _ _ => exact .inr (.inr rfl)
    | close _ _ => exact .inr (.inr rfl)
    | openHouse _ h => simp [h] at hp
    | interval _ _ h => simp [h] at hp
    | resume _ h => simp [h] at hp
    | begin _ h => rcases hp with hp | hp | hp <;> simp_all [beginPhase]
    | showStop _ _ h _ => rcases hp with hp | hp | hp <;> simp_all [stopPhase]

theorem Follows.fullPhase {s t : State} (h : Follows s t) (hs : FullPhase s) : FullPhase t :=
  (fullPhase_iff t).2 (h.keeps_view Move.fullView ((fullPhase_iff s).1 hs))

theorem Does.fullPhase {c : Instr} {s t : State} (h : Does s t c) (hs : FullPhase s) : FullPhase t := by
  cases h with
  | moves h => exact h.fullPhase hs
  | holds l cause h => subst h; exact hs
  | arms l h =>
    obtain ⟨_, hf, l, copy, h, _⟩ := h
    exact h.fullPhase fun hu => absurd (hf ▸ hu : s.fireFull = true) (by simp [hf])
  | disarms h => exact h.2.fullPhase fun _ => .inl (by simp [State.phase, Perf.disarm])
  | fireResets h =>
    obtain ⟨u, _, _, hq, _, _, h⟩ := h
    exact h.fullPhase fun hu => by simp [State.fireFull, hq] at hu
  | releases h => exact h.fullPhase fun hu => by simp [State.fireFull, State.blocksReset, Fdu.reset, FireRecord.reset] at hu

theorem Move.full_stays {v w : Perf × FireState} (h : Move v w) (hv : v.2 = .full) : w.2 = .full := by
  cases h with
  | record f _ => exact hv
  | alert _ hf _ => exact absurd hv hf
  | full _ _ _ => rfl

theorem Follows.full_stays {s t : State} (h : Follows s t) (hs : s.fdu.fire.state = .full) : t.fdu.fire.state = .full :=
  h.keeps_view (P := fun v => v.2 = .full) Move.full_stays hs

theorem Does.full_left {c : Instr} {s t : State} (h : Does s t c) (hs : s.fdu.fire.state = .full)
    (ht : t.fdu.fire.state ≠ .full) : c = .fireReset ∨ c = .resetRelease := by
  cases h with
  | moves h => exact absurd (h.full_stays hs) ht
  | holds l cause h => subst h; exact absurd hs ht
  | arms l h =>
    obtain ⟨_, _, l, copy, h, _⟩ := h
    exact absurd (h.full_stays hs) ht
  | disarms h => exact absurd (h.2.full_stays hs) ht
  | fireResets h => exact .inl rfl
  | releases h => exact .inr rfl

/-! ## The override -/

theorem Hlu.reset_lightsFull {s : State} (h : s.hlu = Hlu.reset) : LightsFull s := by
  intro _ r hr
  rw [h] at hr
  exact List.eq_of_mem_replicate hr

theorem overrideFull_iff (s : State) : OverrideFull s ↔ (s.held = none → LightsFull s) := by
  simp [OverrideFull, LightsFull, State.override]

theorem Follows.overrideFull {s t : State} (h : Follows s t) (hs : OverrideFull s) : OverrideFull t := by
  rw [overrideFull_iff] at hs ⊢
  exact fun ht => h.lights (hs (h.held ▸ ht))

theorem Does.overrideFull {c : Instr} {s t : State} (h : Does s t c) (hs : OverrideFull s) : OverrideFull t := by
  cases h with
  | moves h => exact h.overrideFull hs
  | holds l cause h => subst h; intro hn; cases hn
  | arms l h =>
    obtain ⟨_, _, l, copy, h, _⟩ := h
    exact h.overrideFull hs
  | disarms h => exact h.2.overrideFull hs
  | fireResets h =>
    obtain ⟨u, hh, _, _, hl, hi, h⟩ := h
    refine h.overrideFull ?_
    rw [overrideFull_iff] at hs ⊢
    exact fun hu => (hs (hh ▸ hu)).congr (by rw [hl]) (by rw [hi])
  | releases h => exact h.overrideFull ((overrideFull_iff _).2 fun _ => Hlu.reset_lightsFull rfl)

/-- Settles O14: the moves keep FULL beside the phases it leaves, FULL itself, and the lights under the override; FIRE-RESET
and the release of reset alone leave FULL. -/
theorem fullStandsUntilReset : Obligations.FullStandsUntilReset := by
  refine ⟨fun s t hs h => ?_, fun c s t h hs ht => ?_, fun s t hs h => ?_⟩
  · exact (step_cases h).elim (fun h => h.fullPhase hs) fun ⟨_, _, h⟩ => h.fullPhase hs
  · exact (exec_does h).full_left (by simpa [State.fireFull] using hs) (by simpa [State.fireFull] using ht)
  · exact (step_cases h).elim (fun h => h.overrideFull hs) fun ⟨_, _, h⟩ => h.overrideFull hs

/-! ## Curtain-proven -/

theorem RecordMove.proven_stays {p q : Perf} (h : RecordMove p q) (hp : p.proven = true) : q.proven = true := by
  cases h with
  | prove _ => rfl
  | begin _ _ => unfold Perf.begin; split <;> exact hp
  | resume _ _ => unfold Perf.doResume; dsimp only; split <;> exact hp
  | _ => exact hp

theorem Perf.onFull_proven (p : Perf) (now : Nat) : (p.onFull now).proven = p.proven := by
  unfold Perf.onFull
  split <;> rfl

theorem Follows.proven_stays {s t : State} (h : Follows s t) (hs : s.pfu.perf.proven = true) : t.pfu.perf.proven = true := by
  refine h.keeps_view (P := fun v => v.1.proven = true) (fun m hv => ?_) hs
  cases m with
  | record _ m => exact m.proven_stays hv
  | alert _ _ _ => exact hv
  | full p _ now => exact (p.onFull_proven now).trans hv

/-- In DARK no move sets curtain-proven, and none leaves DARK. -/
theorem Move.dark_unproven {v w : Perf × FireState} (h : Move v w) (hd : v.1.phase = .dark) :
    w.1.phase = .dark ∧ w.1.proven = v.1.proven := by
  cases h with
  | alert _ _ _ => exact ⟨hd, rfl⟩
  | full p f now => simp_all [Perf.onFull, evacuablePhase]
  | record f m =>
    cases m with
    | prove h => exact absurd hd h
    | tick => exact ⟨hd, rfl⟩
    | extend => exact ⟨hd, rfl⟩
    | begin _ h => simp_all [beginPhase]
    | showStop _ _ h _ => simp_all [stopPhase]
    | endShow _ h => simp_all
    | openHouse _ h => simp_all
    | interval _ _ h => simp_all
    | resume _ h => simp_all
    | close _ h => simp_all

theorem Follows.dark_unproven {s t : State} (h : Follows s t) (hd : s.phase = .dark) :
    t.pfu.perf.proven = s.pfu.perf.proven :=
  (h.keeps_view (P := fun v => v.1.phase = .dark ∧ v.1.proven = s.pfu.perf.proven)
    (fun m hv => (m.dark_unproven hv.1).imp id fun e => e.trans hv.2) ⟨hd, rfl⟩).2

theorem Does.proven_lost {c : Instr} {s t : State} (h : Does s t c) (hs : s.pfu.perf.proven = true)
    (ht : t.pfu.perf.proven = false) : (∃ l, c = .arm l) ∨ c = .disarm ∨ c = .resetRelease := by
  have stays : ∀ u : State, u.pfu.perf.proven = true → ¬ Follows u t := fun u hu h => by simp [h.proven_stays hu] at ht
  cases h with
  | moves h => exact absurd h (stays _ hs)
  | holds l cause h => subst h; exact absurd (hs.symm.trans ht) (by decide)
  | arms l h => exact .inl ⟨l, rfl⟩
  | disarms h => exact .inr (.inl rfl)
  | fireResets h =>
    obtain ⟨u, _, hu, _, _, _, h⟩ := h
    exact absurd h (stays _ (hu ▸ hs))
  | releases h => exact .inr (.inr rfl)

/-- In DARK no command sets curtain-proven: the record of an accepted ARM starts unproven, and no step is due with it. -/
theorem Does.dark_unproven {c : Instr} {s t : State} (h : Does s t c) (hs : s.pfu.perf.proven = false)
    (hd : s.phase = .dark) : t.pfu.perf.proven = false := by
  cases h with
  | moves h => rw [h.dark_unproven hd, hs]
  | holds l cause h => subst h; exact hs
  | arms l h =>
    obtain ⟨_, _, l, copy, _, h⟩ := h
    rw [h]
    rfl
  | disarms h => rcases h.1 with h | h <;> simp [hd] at h
  | fireResets h =>
    obtain ⟨u, _, hu, _, _, _, h⟩ := h
    rw [h.dark_unproven (by simpa [State.phase, hu] using hd), hu, hs]
  | releases h => rw [h.dark_unproven rfl]; rfl

/-- Settles O9: no move clears curtain-proven, and none sets it in DARK. -/
theorem provenFlag : Obligations.ProvenFlag := fun c s t h =>
  ⟨(exec_does h).proven_lost, fun hs ht hd => by simp [(exec_does h).dark_unproven hs hd] at ht⟩

end Sys2Proof.Machine
end

section
/-!
The state right after reset, a step on an empty queue, and the release of reset.
-/

namespace Sys2Proof.Machine

open Sys2Proof.Safety

/-! ## The state after reset -/

/-- ILU's recomputation changes nothing, the lines are driven, and the laws of the lines hold. -/
theorem State.reset_gates : State.reset.ilu.next State.reset.iluView = State.reset.ilu ∧ State.reset.ilu.deniedZones = 0 := by
  decide +kernel

theorem State.reset_lines : State.reset.lines = State.reset.fieldLines := by decide +kernel

theorem Gate.reset_ok : GateOk Gate.reset := ⟨rfl, rfl⟩

theorem State.reset_sizes : SizesOk State.reset where
  settings := ⟨by decide, ⟨by decide, by decide⟩, by decide, by decide, by decide, by decide, by decide, by decide, by decide⟩
  stored c h := by cases h
  storing f c h := by cases h
  channels := by decide
  devices := by decide
  isolation := by decide
  status := by decide
  sounders := by decide
  monitor := by decide

/-- Settles O6: each condition is read off from the state after reset. -/
theorem resetStateIsSound : Obligations.ResetStateIsSound := by
  refine ⟨planOk_kept.reset, recordOk_kept.reset, fun l f h => (nomatch h), fun _ => State.reset_gates,
    ⟨Gate.reset_ok, Gate.reset_ok, Gate.reset_ok, Gate.reset_ok, Gate.reset_ok, Gate.reset_ok⟩,
    ⟨fun _ => rfl, fun _ => rfl, fun _ => rfl, fun _ => ⟨rfl, rfl, rfl⟩⟩, fun _ => State.reset_lines,
    ⟨by decide, by decide, by decide, by decide, by decide, by decide⟩,
    ⟨by decide, by decide, by decide⟩, fun _ _ => .inl rfl,
    (overrideFull_iff _).2 fun _ => Hlu.reset_lightsFull rfl, fun _ => .inl rfl, ?_, ?_, ⟨by decide, by decide, by decide⟩,
    List.nodup_nil, State.reset_sizes⟩
  · exact ⟨fun src => by cases src <;> decide, by decide, by decide, fun e h => (nomatch h), by decide, rfl,
      fun _ _ _ h => (nomatch h)⟩
  · exact ⟨by decide, fun e h => (nomatch h), by decide⟩

/-! ## A step on an empty queue -/

theorem step_idle {s : State} (h : s.pending = []) : step s = .next s.idle := by simp [step, h]

theorem AnchorClock.tick_eq (k : AnchorClock) :
    k.tick = if k.run = .running then { run := .running, value := min 86400000 (k.value + 1) } else k := by
  unfold AnchorClock.tick
  split
  · next h => rw [← h]
  · rfl

/-- A descent without a hold, a millisecond later. -/
def Descent.tick (latched : Bool) (d : Descent) : Descent :=
  { d with
    sup := { d.sup with clock := min 4294967295 (d.sup.clock + 1), progress := d.sup.progress + 1 },
    floorTimer := if latched then d.floorTimer else d.floorTimer.map (· + 1) }

theorem Ctc.tick_running {c : Ctc} {d : Descent} (h : c.descent = some d) (hh : d.hold = none) :
    c.tick.descent = some (d.tick (c.faults.contains .encoder)) := by
  simp [Ctc.tick, Ctc.onDescent, h, hh, Descent.tick]

/-- One millisecond of a descent (R60, R63, R71, R72). -/
theorem Ctc.tick_descent {c : Ctc} {d : Descent} (h : c.descent = some d) : ∃ e, c.tick.descent = some e ∧
    e.record = d.record ∧ e.u = d.u ∧ e.hold = d.hold ∧ (d.hold.isSome = true → e = d) ∧
    (d.hold = none → e.sup.clock = min 4294967295 (d.sup.clock + 1) ∧ e.sup.progress = d.sup.progress + 1 ∧
      (c.faults.contains .encoder = true → e.floorTimer = d.floorTimer) ∧
      (c.faults.contains .encoder = false → e.floorTimer = d.floorTimer.map (· + 1))) := by
  cases hh : d.hold with
  | some t => exact ⟨d, by simp [Ctc.tick, Ctc.onDescent, h, hh], rfl, rfl, hh, fun _ => rfl, fun hn => by cases hn⟩
  | none =>
    refine ⟨_, Ctc.tick_running h hh, rfl, rfl, hh, fun hs => (nomatch hs),
      fun _ => ⟨rfl, rfl, fun he => ?_, fun he => ?_⟩⟩
    · rw [he]; rfl
    · rw [he]; rfl

theorem State.idle_tick {s : State} (hh : s.held = none) (hd : s.dueEvents = []) : s.idle = s.tick := by
  simp [State.idle, hh, hd]

/-- Of several events due the one that joins is among them. -/
theorem getD_mod_mem {α : Type} (e : α) (es : List α) (n : Nat) : (e :: es).getD (n % (es.length + 1)) e ∈ e :: es := by
  have h : n % (es.length + 1) < (e :: es).length := by simpa using Nat.mod_lt n (Nat.succ_pos _)
  rw [List.getD_eq_getElem _ _ h]
  exact List.getElem_mem h

theorem State.idle_due {s : State} (hh : s.held = none) (hd : s.dueEvents ≠ []) :
    ∃ e, e ∈ s.dueEvents ∧ s.idle.pending = [e] ∧ Only [.draws, .queue] s s.idle := by
  unfold State.idle
  rw [if_neg (by simp [hh])]
  generalize s.dueEvents = l at hd
  match l with
  | [] => exact absurd rfl hd
  | [e] => exact ⟨e, List.mem_singleton_self e, rfl, fun p hp => by cases p <;> simp_all [Part.same]⟩
  | e :: f :: es => exact ⟨_, getD_mod_mem e (f :: es) _, rfl, fun p hp => by cases p <;> simp_all [Part.same]⟩

/-- Settles O2: nothing due, a millisecond passes; otherwise one due event joins. -/
theorem emptyQueueLetsTimePass : Obligations.EmptyQueueLetsTimePass := by
  intro s hp hh
  refine ⟨fun hd => ⟨s.tick, ?_, ?_, rfl, rfl, fun i => ?_, rfl, fun d h => Ctc.tick_descent h⟩, fun hd => ?_⟩
  · rw [step_idle hp, State.idle_tick hh hd]
  · intro p hp
    cases p <;> simp_all [Part.same]
  · exact (Clocks.get_map _ _ _).trans (AnchorClock.tick_eq _)
  · obtain ⟨e, he, hq, ho⟩ := State.idle_due hh hd
    exact ⟨s.idle, e, step_idle hp, he, hq, ho⟩

end Sys2Proof.Machine
end

section
/-!
The notice queue while it has room, and the gates where they are current: their recomputation then changes nothing.
-/

namespace Sys2Proof.Machine

open Sys2Proof.Safety

/-! ## The notice queue (R194) -/

/-- While the queue has room for them, notices join it in order. -/
theorem Lp.offer_all {now : Nat} {bs : List NoticeBody} {l : Lp} (h : l.notices.length + bs.length ≤ 16) :
    bs.foldl (fun l b => l.offer (b.formedAt now)) l =
      { l with notices := l.notices ++ bs.map (NoticeBody.formedAt now) } := by
  induction bs generalizing l with
  | nil => simp
  | cons b bs ih =>
    simp only [List.length_cons] at h
    have ho : l.offer (b.formedAt now) = { l with notices := l.notices ++ [b.formedAt now] } := by
      rw [Lp.offer, if_pos (by omega)]
    rw [List.foldl_cons, ho, ih (by simp only [List.length_append, List.length_singleton]; omega)]
    simp

theorem State.notifyAll_lp {bs : List NoticeBody} {s : State} (h : s.lp.notices.length + bs.length ≤ 16) :
    (s.notifyAll bs).lp = { s.lp with notices := s.lp.notices ++ bs.map (NoticeBody.formedAt s.now) } := Lp.offer_all h

/-! ## Current gates (R168, R174) -/

theorem State.takeDrop_eq_self {b : Bool} {s : State} (h : b = s.ilu.relay.line) : s.takeDrop b = s := by
  unfold State.takeDrop
  rw [if_neg]
  rintro ⟨hb, hl⟩
  simp [hb, hl] at h

theorem State.takeCuts_eq_self {s : State} (h : s.ilu.deniedZones = 0) : s.takeCuts = s := by
  unfold State.takeCuts
  rw [if_pos h]

/-- Where ILU's recomputation would change nothing and no audience relay is denied, the gates stand. -/
theorem State.regate_eq_self {s : State} (h : s.ilu.next s.iluView = s.ilu) (hd : s.ilu.deniedZones = 0) : s.regate = s := by
  have hg : s.gates = s := by simp only [State.gates, h]
  rw [State.regate, hg, State.takeDrop_eq_self rfl, State.takeCuts_eq_self hd]

/-- Gates at reset are current while nothing is demanded and no forcing condition is in force. -/
theorem Ilu.next_reset {v : IluView} (hh : v.hoist = false) (hr : v.release = false) (hl : v.relay = false)
    (hs : v.stalls = false) (hc : v.circle = false) (hg : v.gallery = false) (hf : v.fireFull = false)
    (ho : v.overload = false) (hp : v.phase = .dark) : Ilu.reset.next v = Ilu.reset := by
  simp [Ilu.next, Gate.next, Ilu.reset, Gate.reset, IluView.hoistForcing, IluView.safeForcing, IluView.audienceForcing,
    inForce, hh, hr, hl, hs, hc, hg, hf, ho, hp]

theorem Ilu.reset_deniedZones : Ilu.reset.deniedZones = 0 := by decide

end Sys2Proof.Machine
end

section
/-!
The release of reset (R2, R26, R49, R194, R200).
-/

namespace Sys2Proof.Machine

open Sys2Proof.Safety

/-! ## The store and the configuration at the release -/

theorem Store.setSector_config (t : Store) (l : PlanLetter) (p : PlanSector) : (t.setSector l p).config = t.config := by
  cases l <;> rfl

/-- The examination leaves sector 4 as a reset finds it (R199). -/
theorem Store.examine_config (s : State) : (s.store.examine s.free).config = sector4 s := by
  unfold Store.examine sector4
  cases h : s.store.inFlight with
  | none => rfl
  | some f =>
    obtain ⟨op, _⟩ := f
    cases op <;> simp [Store.cutShort, Store.setSector_config]

theorem State.blocksReset_settings (s : State) : s.blocksReset.settings = (sector4 s).load := by
  simp only [State.blocksReset, Store.examine_config]

/-! ## The blocks at their reset state -/

/-- The blocks at reset with the notices of the release and a curtain that demands neither HOIST nor RELEASE. -/
def State.released (c : Ctc) (bs : List NoticeBody) (s : State) : State := { s.blocksReset with ctc := c }.notifyAll bs

theorem State.released_demanded (c : Ctc) (bs : List NoticeBody) (s : State) : (s.released c bs).clu.demanded = 0 := rfl

theorem State.released_regate {c : Ctc} (hh : c.hoistDemand = false) (hr : c.releaseDemand = false)
    (bs : List NoticeBody) (s : State) : (s.released c bs).regate = s.released c bs := by
  have hz (i : Nat) : (s.released c bs).clu.demanded.getLsbD i = false := by
    rw [State.released_demanded]; exact BitVec.getLsbD_zero
  exact State.regate_eq_self
    (Ilu.next_reset (v := (s.released c bs).iluView) hh hr rfl (hz 2) (hz 3) (hz 4) rfl rfl rfl) Ilu.reset_deniedZones

theorem State.takeReport_dark {s : State} (h : s.phase = .dark) (r : CtcReport) : s.takeReport r = s := by
  cases r with
  | arrival => simp [State.takeReport, State.takeArrival, h]
  | fault f => cases f <;> simp [State.takeReport, h]

theorem State.takeReports_dark {s : State} (h : s.phase = .dark) (rs : List CtcReport) :
    rs.foldl (fun s r => s.takeReport r) s = s := by
  induction rs with
  | nil => rfl
  | cons r rs ih => rw [List.foldl_cons, State.takeReport_dark h, ih]

/-- The notices that the release sends before CTC's own (R194, R200). -/
def releaseNotes (cause : ResetCause) (s : State) : List NoticeBody :=
  .reset cause :: if (sector4 s).valid then [] else [.configDefaulted]

/-- CTC at the release, before it sets its state. -/
def State.curtainAtReset (s : State) : Ctc := Ctc.reset s.ctc.count s.ctc.floor s.ctc.top s.ctc.overtravel s.ctc.edge

/-- What CTC observes at the release. -/
def State.envAtReset (s : State) : CtcEnv :=
  { now := 0, params := (sector4 s).load.curtain, overload := false, stopped := false, forced := false }

theorem State.releaseReset_eq {cause : ResetCause} {s : State} {o : CtcOut} (ho : s.curtainAtReset.afterReset s.envAtReset = o)
    (hh : o.ctc.hoistDemand = false) (hr : o.ctc.releaseDemand = false) :
    s.releaseReset cause = (s.released o.ctc (releaseNotes cause s ++ o.notes)).finish := by
  have hb : (if (s.blocksReset.notify (.reset cause)).lp.defaulted then
        (s.blocksReset.notify (.reset cause)).notify .configDefaulted else s.blocksReset.notify (.reset cause)) =
      s.released s.curtainAtReset (releaseNotes cause s) := by
    have hd : (s.blocksReset.notify (.reset cause)).lp.defaulted = !(sector4 s).valid := by
      rw [← Store.examine_config]; rfl
    rw [hd]
    unfold releaseNotes
    cases (sector4 s).valid <;> rfl
  have he : (s.released s.curtainAtReset (releaseNotes cause s)).ctcEnv = s.envAtReset := by
    simp only [State.released, State.ctcEnv, State.envAtReset, State.notifyAll_settings, State.blocksReset_settings]
    rfl
  have hm : ((s.released s.curtainAtReset (releaseNotes cause s)).moveCurtain fun e c => c.afterReset e) =
      (s.released o.ctc (releaseNotes cause s ++ o.notes), o.reports) := by
    unfold State.moveCurtain
    rw [he]
    dsimp only
    rw [show (s.released s.curtainAtReset (releaseNotes cause s)).ctc = s.curtainAtReset from rfl, ho]
    refine Prod.ext ?_ rfl
    refine Eq.trans ?_ (State.released_regate hh hr (releaseNotes cause s ++ o.notes) s)
    simp only [State.released, ← State.notifyAll_append]
    rfl
  unfold State.releaseReset
  dsimp only
  rw [hb, State.withCtc, hm]
  dsimp only
  rw [State.takeReports_dark rfl]

theorem State.released_restarted (c : Ctc) (bs : List NoticeBody) (s : State) : Restarted s (s.released c bs).finish where
  now := rfl
  held := rfl
  pending := rfl
  loaded copy hc hv := by
    rw [State.finish_settings, State.released, State.notifyAll_settings]
    simp [State.blocksReset_settings, ConfigSector.load, hc, hv]
  default hv := by
    rw [State.finish_settings, State.released, State.notifyAll_settings]
    simp [State.blocksReset_settings, ConfigSector.load, hv]
  perf := rfl
  lights := rfl
  fire := rfl
  calls := rfl
  gates := rfl
  monitor := rfl
  desk := rfl

/-- LP after the release: the RESET notice is on the line, and the others wait (R194). -/
theorem State.released_lp {c : Ctc} {b : NoticeBody} {bs : List NoticeBody} {s : State} (h : bs.length < 16) :
    (s.released c (b :: bs)).finish.lp =
      { Lp.reset (!(sector4 s).valid) with
        line := some (.notice (b.formedAt 0)), notices := bs.map (NoticeBody.formedAt 0) } := by
  have hl : (s.released c (b :: bs)).lp =
      { Lp.reset (!(sector4 s).valid) with notices := (b :: bs).map (NoticeBody.formedAt 0) } := by
    have hn : (State.lp { s.blocksReset with ctc := c }).notices.length + (b :: bs).length ≤ 16 := by
      simp only [State.blocksReset, Lp.reset, List.length_nil, List.length_cons]
      omega
    rw [State.released, State.notifyAll_lp hn, ← Store.examine_config]
    rfl
  simp only [State.finish, State.pump, State.drive_lp, hl]
  rfl

/-! ## The curtain at the release (R49) -/

theorem Ctc.afterReset_down {e : CtcEnv} {c : Ctc} (hf : c.floor = true) (hp : c.position e.params ≤ 20) :
    c.afterReset e = CtcOut.of c := by
  simp [Ctc.afterReset, hf, hp]

/-- The descent that the release opens (R49, R57, R63). -/
def resetDescent (e : CtcEnv) (c : Ctc) : Descent :=
  let p := c.count * 100 / e.params.counts
  { record :=
      { startCause := .reset, cause := .reset, startTime := deciseconds e.now, startPos := p, dropTime := 0, maxSpeed := 0,
        holds := if c.edge then 1 else 0, ignored := 0, faults := if e.params.travel + 200 < p then [.encoder] else [],
        finalU := 0, ending := none },
    params := e.params, sup := .atStart p (decide (e.params.travel + 200 < p)), u := e.params.release,
    hold := if c.edge then some (e.now + e.params.hold * 1000) else none,
    floorTimer := if p ≤ 20 ∧ c.floor = false then some 0 else none, last := none }

/-- What the release sends of the descent it opens. -/
def resetDescentNotes (e : CtcEnv) (c : Ctc) : List NoticeBody :=
  let p := c.count * 100 / e.params.counts
  .curtainState .descending (some .reset) p e.params.release :: (if c.edge then [.curtainHold .begun] else []) ++
    if e.params.travel + 200 < p then [.curtainFault .encoder .descending (some .reset) p] else []

/-- CTC in the descent that the release opens. -/
def resetDescending (e : CtcEnv) (c : Ctc) : Ctc :=
  let p := c.count * 100 / e.params.counts
  { c with state := .descending, faults := if e.params.travel + 200 < p then [.encoder] else [],
           aboveLimit := decide (e.params.travel + 200 < p), raiseDeadline := none,
           warnDeadline := none, descent := some (resetDescent e c) }

/-- CTC at reset: DOWN, with no fault and no descent in hand. -/
structure FreshCtc (c : Ctc) : Prop where
  faults  : c.faults = []
  descent : c.descent = none

theorem Ctc.afterReset_opens {e : CtcEnv} {c : Ctc} (hc : FreshCtc c) (h : ¬ (c.floor = true ∧ c.position e.params ≤ 20)) :
    ∃ rs, c.afterReset e =
      CtcOut.andThen { ctc := resetDescending e c, notes := resetDescentNotes e c, reports := rs } (Ctc.arriveAtStart e) := by
  obtain ⟨hf, hd⟩ := hc
  have hp : c.position e.params = c.count * 100 / e.params.counts := by simp [Ctc.position, Ctc.paramsUsed, hd]
  unfold Ctc.afterReset
  rw [if_neg h, hp]
  refine ⟨if e.params.travel + 200 < c.count * 100 / e.params.counts then [.fault .encoder] else [], ?_⟩
  congr 1
  by_cases ha : e.params.travel + 200 < c.count * 100 / e.params.counts <;> cases he : c.edge <;>
    simp [ha, he, hf, Ctc.openDescent, Ctc.enter, CtcOut.andThen, CtcOut.of, DescentCause.holdable, resetDescending,
      resetDescent, resetDescentNotes, DescentRecord.opened, Supervision.atStart, Descent.beginHold, Ctc.stateNote, Ctc.cause,
      Ctc.position, Ctc.paramsUsed, Ctc.command, Ctc.arise, Ctc.onDescent, Descent.gain, Descent.toTimeOnly,
      Ctc.timeOnlyNote, addFault, CurtainFault.all]

theorem Ctc.afterReset_descends {e : CtcEnv} {c : Ctc} (hc : FreshCtc c) (hf : c.floor = false) :
    ∃ rs, c.afterReset e = { ctc := resetDescending e c, notes := resetDescentNotes e c, reports := rs } := by
  obtain ⟨rs, h⟩ := Ctc.afterReset_opens (e := e) hc (by simp [hf])
  exact ⟨rs, by simp [h, CtcOut.andThen, Ctc.arriveAtStart, resetDescending, hf, CtcOut.of]⟩

/-- The record of a RESET descent that arrives at its start (R86). -/
def resetArrival (e : CtcEnv) (c : Ctc) : DescentRecord :=
  { (resetDescent e c).record with finalU := e.params.release, ending := some .arrived }

theorem Ctc.afterReset_arrives {e : CtcEnv} {c : Ctc} (hc : FreshCtc c) (hh : c.history = []) (hf : c.floor = true)
    (hp : 20 < c.position e.params) :
    ∃ rs, c.afterReset e =
      { ctc := { resetDescending e c with state := .down, descent := none, history := [resetArrival e c] },
        notes := resetDescentNotes e c ++
          [.curtainState .down none (c.count * 100 / e.params.counts) e.params.release, .curtainArrival (resetArrival e c)],
        reports := rs } := by
  obtain ⟨rs, h⟩ := Ctc.afterReset_opens (e := e) hc (by omega)
  exact ⟨_, by
    simp [h, CtcOut.andThen, Ctc.arriveAtStart, resetDescending, hf, CtcOut.of, Ctc.arrive, Ctc.arrivalCheck, resetDescent,
      Supervision.atStart, Ctc.closeDescent, Descent.closed, hh, Ctc.enter, Ctc.stateNote, Ctc.cause, Ctc.position,
      Ctc.paramsUsed, Ctc.command, resetArrival]
    rfl⟩

theorem State.curtainAtReset_fresh (s : State) : FreshCtc s.curtainAtReset := ⟨rfl, rfl⟩

theorem resetDescentNotes_length (e : CtcEnv) (c : Ctc) : (resetDescentNotes e c).length ≤ 3 := by
  unfold resetDescentNotes
  dsimp only
  split <;> split <;> simp

theorem execResetRelease_eq {cause : ResetCause} {s : State} (h : s.held = some cause) :
    exec .resetRelease s = .next (s.releaseReset cause) := by
  simp only [exec, execResetRelease, h]

/-- The notices of the release after the RESET notice, and LP once that notice is on the line. -/
theorem State.releaseReset_lp {cause : ResetCause} {s : State} {c : Ctc} {bs : List NoticeBody} (h : bs.length ≤ 10) :
    (s.released c (releaseNotes cause s ++ bs)).finish.lp =
      { Lp.reset (!(sector4 s).valid) with
        line := some (.notice { cls := .unstated .reset, time := 0, body := .reset cause }),
        notices := ((if (sector4 s).valid then [] else [NoticeBody.configDefaulted]) ++ bs).map fun b =>
          { cls := b.cls, time := 0, body := b } } := by
  refine State.released_lp ?_
  split <;> simp <;> omega

/-- The curtain at the floor: DOWN, with no descent (R49). -/
theorem resetRelease_down (cause : ResetCause) (s : State) (hh : s.held = some cause) (hf : s.ctc.floor = true)
    (hp : s.ctc.count * 100 / (sector4 s).load.curtain.counts ≤ 20) :
    ∃ t, exec .resetRelease s = .next t ∧ Restarted s t ∧ t.ctc = s.curtainAtReset ∧
      t.lp = { Lp.reset (!(sector4 s).valid) with
               line := some (.notice { cls := .unstated .reset, time := 0, body := .reset cause }),
               notices := if (sector4 s).valid then [] else [{ cls := .info, time := 0, body := .configDefaulted }] } := by
  have ho := Ctc.afterReset_down (e := s.envAtReset) (c := s.curtainAtReset) hf hp
  refine ⟨_, execResetRelease_eq hh, ?_⟩
  rw [State.releaseReset_eq ho rfl rfl]
  refine ⟨State.released_restarted _ _ s, rfl, (State.releaseReset_lp (Nat.zero_le _)).trans ?_⟩
  cases (sector4 s).valid <;> rfl

theorem resetDescent_record (s : State) :
    (resetDescent s.envAtReset s.curtainAtReset).record =
      { startCause := .reset, cause := .reset, startTime := 0,
        startPos := s.ctc.count * 100 / (sector4 s).load.curtain.counts, dropTime := 0, maxSpeed := 0,
        holds := if s.ctc.edge then 1 else 0, ignored := 0,
        faults := if (sector4 s).load.curtain.travel + 200 < s.ctc.count * 100 / (sector4 s).load.curtain.counts then [.encoder]
          else [],
        finalU := 0, ending := none } := by
  simp [resetDescent, State.envAtReset, State.curtainAtReset, Ctc.reset, deciseconds]
  exact ⟨rfl, rfl⟩

/-- Settles O4: by the position and FLOOR the curtain is DOWN, in a RESET descent, or arrived in one. -/
theorem resetReleaseStartsThePart : Obligations.ResetReleaseStartsThePart := by
  refine ⟨fun cause s hh hf hp => ?_, fun cause s hh => ?_⟩
  · obtain ⟨t, ht, hr, hc, hl⟩ := resetRelease_down cause s hh hf hp
    exact ⟨t, ht, hr, by rw [hc, State.curtainAtReset, Ctc.reset, hf], hl⟩
  · intro q p faults holds opening h
    have hn := resetDescentNotes_length s.envAtReset s.curtainAtReset
    have hopen : opening = (if (sector4 s).valid then [] else [NoticeBody.configDefaulted]) ++
        resetDescentNotes s.envAtReset s.curtainAtReset := by
      simp only [opening, resetDescentNotes, List.append_assoc]
      rfl
    cases hf : s.ctc.floor
    · obtain ⟨rs, ho⟩ := Ctc.afterReset_descends (e := s.envAtReset) s.curtainAtReset_fresh hf
      refine ⟨_, [], execResetRelease_eq hh, ?_⟩
      rw [State.releaseReset_eq ho rfl rfl]
      refine ⟨State.released_restarted _ _ s, rfl, rfl, ?_, fun _ => ⟨rfl, rfl, rfl, rfl, ?_, ?_⟩, fun k => (nomatch k)⟩
      · rw [State.releaseReset_lp (by dsimp only; omega), hopen, List.append_nil]
      · cases he : s.ctc.edge <;> simp [State.fieldLines, State.released, Ctc.brake, Ctc.holding, resetDescending, resetDescent,
          State.curtainAtReset, Ctc.reset, he]
      · refine ⟨resetDescent s.envAtReset s.curtainAtReset, rfl, resetDescent_record s, rfl, rfl, rfl, rfl, rfl, ?_, ?_⟩
        · simp [resetDescent, State.curtainAtReset, Ctc.reset, hf, p, q, State.envAtReset]
        · simp [resetDescent, State.curtainAtReset, Ctc.reset, q, State.envAtReset]
    · have hp : 20 < p := by simpa [hf] using h
      obtain ⟨rs, ho⟩ := Ctc.afterReset_arrives (e := s.envAtReset) s.curtainAtReset_fresh rfl hf hp
      refine ⟨_, [.curtainState .down none p q.release, .curtainArrival (resetArrival s.envAtReset s.curtainAtReset)],
        execResetRelease_eq hh, ?_⟩
      rw [State.releaseReset_eq ho rfl rfl]
      refine ⟨State.released_restarted _ _ s, rfl, rfl, ?_, fun k => (nomatch k), fun _ => ⟨rfl, rfl, _, rfl, ?_, rfl⟩⟩
      · rw [State.releaseReset_lp (by simp only [List.length_append, List.length_cons, List.length_nil]; omega), hopen,
          List.append_assoc]
        rfl
      · rw [resetArrival, resetDescent_record]
        rfl

end Sys2Proof.Machine
end

section
/-!
The two frames of a command's meaning as the statements speak of them: a request that LP can take is decided and its reply
joins, an event comes about and its notices join; and a phase request accepted.
-/

namespace Sys2Proof.Machine

open Sys2Proof.Safety

/-! ## Requests -/

/-- A request decided: its frame joins the inbound buffer with its decision, and the lines follow (R192). -/
def State.replied (kind : RequestKind) (d : Decision) (u : State) : State :=
  State.finish { u with lp := u.lp.hold (.request kind) d }

@[simp] theorem State.replied_now (k : RequestKind) (d : Decision) (u : State) : (u.replied k d).now = u.now := rfl
@[simp] theorem State.replied_held (k : RequestKind) (d : Decision) (u : State) : (u.replied k d).held = u.held := rfl
@[simp] theorem State.replied_settings (k : RequestKind) (d : Decision) (u : State) :
    (u.replied k d).settings = u.settings := rfl
@[simp] theorem State.replied_pfu (k : RequestKind) (d : Decision) (u : State) : (u.replied k d).pfu = u.pfu := rfl
@[simp] theorem State.replied_store (k : RequestKind) (d : Decision) (u : State) : (u.replied k d).store = u.store := rfl
@[simp] theorem State.replied_ctc (k : RequestKind) (d : Decision) (u : State) : (u.replied k d).ctc = u.ctc := rfl
@[simp] theorem State.replied_hlu (k : RequestKind) (d : Decision) (u : State) : (u.replied k d).hlu = u.hlu := rfl
@[simp] theorem State.replied_fdu (k : RequestKind) (d : Decision) (u : State) : (u.replied k d).fdu = u.fdu := rfl
@[simp] theorem State.replied_clu (k : RequestKind) (d : Decision) (u : State) : (u.replied k d).clu = u.clu := rfl
@[simp] theorem State.replied_ilu (k : RequestKind) (d : Decision) (u : State) : (u.replied k d).ilu = u.ilu := rfl
@[simp] theorem State.replied_lmu (k : RequestKind) (d : Decision) (u : State) : (u.replied k d).lmu = u.lmu := rfl
@[simp] theorem State.replied_dsu (k : RequestKind) (d : Decision) (u : State) : (u.replied k d).dsu = u.dsu := rfl
@[simp] theorem State.replied_pending (k : RequestKind) (d : Decision) (u : State) : (u.replied k d).pending = u.pending := rfl
@[simp] theorem State.replied_lines (k : RequestKind) (d : Decision) (u : State) : (u.replied k d).lines = u.fieldLines := rfl

@[simp] theorem State.hunting_phase (s : State) : s.hunting.phase = s.phase := rfl
@[simp] theorem State.hunting_fireFull (s : State) : s.hunting.fireFull = s.fireFull := rfl
@[simp] theorem State.hunting_fireQuiet (s : State) : s.hunting.fireQuiet = s.fireQuiet := rfl
@[simp] theorem State.hunting_forced (s : State) : s.hunting.forced = s.forced := rfl
@[simp] theorem State.hunting_override (s : State) : s.hunting.override = s.override := rfl
@[simp] theorem State.hunting_ctcEnv (s : State) : s.hunting.ctcEnv = s.ctcEnv := rfl

/-- A request that LP can take is decided of the state that hunts. -/
theorem State.answer_eq {s : State} (h : Admits s) (kind : RequestKind) (d : State → State × Decision) :
    s.answer kind true d = (d s.hunting).1.replied kind (d s.hunting).2 := by
  unfold State.answer State.receive
  rw [if_neg (by simp [h.released]), if_neg (by simp [h.goesOn]), if_neg (by simpa using h.room)]
  rfl

/-- The notices formed in deciding a request join before its reply. -/
theorem State.replied_replies {s u : State} {bs : List NoticeBody} (h : u.lp = (s.hunting.notifyAll bs).lp)
    (kind : RequestKind) (d : Decision) : Replies s kind d bs (u.replied kind d) :=
  ⟨Config.doneMoreFrames u.free, by rw [← h]; rfl⟩

/-- A request refused: nothing but the reply comes of it. -/
theorem refuses_of_decided {c : Instr} {kind : RequestKind} {d : State → State × Decision} {r : Reason} {det : Detail}
    {s : State} (h : Admits s) (hc : exec c s = .next (s.answer kind true d))
    (hd : d s.hunting = (s.hunting, .refused r det)) : Refuses c kind r det s := by
  refine ⟨s.hunting.replied kind (.refused r det), ?_, ?_, State.replied_replies rfl kind _⟩
  · rw [hc, State.answer_eq h, hd]
  · intro p hp
    cases p <;> simp_all [Part.same]

/-- A request that LP can take and its decision. -/
theorem exec_of_decided {c : Instr} {kind : RequestKind} {d : State → State × Decision} {s u : State} {dec : Decision}
    (h : Admits s) (hc : exec c s = .next (s.answer kind true d)) (hd : d s.hunting = (u, dec)) :
    exec c s = .next (u.replied kind dec) := by
  rw [hc, State.answer_eq h, hd]

/-! ## Events -/

/-- An event that is due. -/
theorem State.event_eq {s : State} {due : Bool} (hh : s.held = none) (hd : due = true) (f : State → State) :
    s.event due f = (f s).finish := by
  unfold State.event
  rw [if_neg (by simp [hh, hd])]

theorem State.finish_sends {s u : State} {bs : List NoticeBody} (h : u.lp = (s.notifyAll bs).lp) : Sends s bs u.finish :=
  ⟨Config.doneMoreFrames u.free, by rw [← h]; rfl⟩

/-! ## A phase request accepted (R4, R5) -/

theorem State.phaseRecord_untouched (cause : PhaseCause) (change : Pfu → Pfu × List NoticeBody) (s : State) :
    Untouched s (s.phaseRecord cause change) := ⟨rfl, rfl, rfl, rfl, rfl, rfl, rfl, rfl, rfl, id⟩

theorem State.hunting_untouched (s : State) : Untouched s s.hunting := ⟨rfl, rfl, rfl, rfl, rfl, rfl, rfl, rfl, rfl, id⟩

theorem State.changePhase_kept_record (cause : PhaseCause) (change : Pfu → Pfu × List NoticeBody) (s : State) :
    Kept (s.phaseRecord cause change) (s.changePhase cause change) := State.changePhase_kept cause change s


end Sys2Proof.Machine

namespace Sys2Proof.Safety

open Sys2Proof.Machine

/-- The field lines, the inbound buffer and the line that LP drives are not among what reactions leave untouched. -/
theorem Untouched.replied {s u : State} (h : Untouched s u) (kind : RequestKind) (d : Decision) :
    Untouched s (u.replied kind d) := ⟨h.1, h.2, h.3, h.4, h.5, h.6, h.7, h.8, h.9, h.10⟩

theorem RecordIs.phase {r p : Perf} (h : RecordIs r p) : p.phase = r.phase := by rw [h.1]
theorem RecordIs.act {r p : Perf} (h : RecordIs r p) : p.act = r.act := by rw [h.1]
theorem RecordIs.intervalNo {r p : Perf} (h : RecordIs r p) : p.intervalNo = r.intervalNo := by rw [h.1]

end Sys2Proof.Safety

namespace Sys2Proof.Machine

open Sys2Proof.Safety

/-- A phase request accepted: the change of the record, and what the gates, the lights and the steps due made of it. -/
theorem phaseMoved_of_decided {c : Instr} {kind : RequestKind} {d : State → State × Decision}
    {change : Pfu → Pfu × List NoticeBody} {s : State} (h : Admits s) (hc : exec c s = .next (s.answer kind true d))
    (hd : d s.hunting = (s.hunting.changePhase (.request kind .link) change,
      .done (s.hunting.changePhase (.request kind .link) change).phaseBody)) :
    exec c s = .next ((s.hunting.changePhase (.request kind .link) change).replied kind
        (.done (.phase (change s.pfu).1.perf.phase (change s.pfu).1.perf.act (change s.pfu).1.perf.intervalNo))) ∧
      PhaseMoved s kind (change s.pfu).1 (change s.pfu).2
        ((s.hunting.changePhase (.request kind .link) change).replied kind
          (.done (.phase (change s.pfu).1.perf.phase (change s.pfu).1.perf.act (change s.pfu).1.perf.intervalNo))) := by
  have k := State.changePhase_kept_record (.request kind .link) change s.hunting
  have hb : (s.hunting.changePhase (.request kind .link) change).phaseBody =
      .phase (change s.pfu).1.perf.phase (change s.pfu).1.perf.act (change s.pfu).1.perf.intervalNo := by
    simp only [State.phaseBody, State.phase, k.record.phase, k.record.act, k.record.intervalNo]
    rfl
  rw [hb] at hd
  obtain ⟨cs, hn⟩ := k.notices
  refine ⟨exec_of_decided h hc hd, ?_, k.record, ⟨k.table.length, k.table.settled⟩, k.runningCopy, k.expirySent, cs, State.replied_replies ?_ _ _⟩
  · exact ((s.hunting_untouched.trans (State.phaseRecord_untouched _ _ _)).trans k.untouched).replied kind _
  · rw [hn, State.phaseRecord, State.notifyAll_append]
    simp only [List.append_assoc, List.singleton_append]
    rfl

end Sys2Proof.Machine
end

section
/-!
ARM and OPEN-HOUSE, and the load of the lighting map.
-/

namespace Sys2Proof.Machine

open Sys2Proof.Safety

/-! ## Gates under a phase that forces nothing -/

/-- A phase that puts no forcing condition of TABLE LIX in force. -/
def calmPhase (p : Phase) : Prop := p ≠ .stopped ∧ p ≠ .evacuate ∧ p ≠ .running

theorem Ilu.next_calm {v : IluView} {p : Phase} (hv : calmPhase v.phase) (hp : calmPhase p) (g : Ilu) :
    g.next { v with phase := p } = g.next v := by
  obtain ⟨h1, h2, h3⟩ := hv
  obtain ⟨k1, k2, k3⟩ := hp
  simp [Ilu.next, IluView.hoistForcing, IluView.safeForcing, IluView.audienceForcing, h1, h2, h3, k1, k2, k3]

/-- A change from one phase that forces nothing to another leaves current gates as they are. -/
theorem State.regate_calm {s u : State} (hg : GatesCurrent s) (hh : s.held = none) (hi : u.ilu = s.ilu)
    (hv : u.iluView = { s.iluView with phase := u.phase }) (hs : calmPhase s.phase) (hu : calmPhase u.phase) :
    u.regate = u := by
  obtain ⟨h, hd⟩ := hg hh
  refine State.regate_eq_self ?_ (hi ▸ hd)
  rw [hv, hi, Ilu.next_calm hs hu, h]

/-! ## The load of the lighting map (R97, R104) -/

theorem State.loadMap_eq {s : State} {copy : RunningCopy} (hc : s.pfu.runningCopy = some copy) :
    s.loadMap = match headerMap copy.header s.phase with
      | some e => if s.ilu.relay.line then { s with hlu := s.hlu.loadMap s.now s.settings e } else s
      | none => s := by
  unfold State.loadMap
  simp only [hc, Option.bind_some, State.override]
  cases headerMap copy.header s.phase with
  | none => rfl
  | some e => by_cases h : s.ilu.relay.line = true <;> simp [h]

theorem Hlu.loadMap_channels (now : Nat) (c : Settings) {e : MapEntry} (h : e.preset ≠ 255) {u : Hlu} {i : Nat}
    {r : ChannelRun} (hr : u.channels[i]? = some r) :
    (u.loadMap now c e).channels[i]? = some
      (if (c.channel i).hold then r
       else if e.fade = 0 then { active := c.presetLevel e.preset i, fade := none }
       else { r with fade := some { start := r.active, target := c.presetLevel e.preset i, started := now,
                                    duration := e.fade * 100, origin := .autoLoad, evals := 0 } }) := by
  simp only [Hlu.loadMap, if_neg h, Hlu.start, List.getElem?_mapIdx, hr, Option.map_some, ChannelRun.start]
  by_cases hh : (c.channel i).hold = true <;> simp [hh]

theorem Hlu.loadMap_frame (now : Nat) (c : Settings) (e : MapEntry) (u : Hlu) :
    u.loadMap now c e = { u with channels := (u.loadMap now c e).channels } := by
  unfold Hlu.loadMap
  split <;> rfl

theorem Hlu.loadMap_none (now : Nat) (c : Settings) {e : MapEntry} (h : e.preset = 255) (u : Hlu) :
    u.loadMap now c e = u := if_pos h

/-! ## ARM -/

theorem Pfu.refresh_arm (l : PlanLetter) (c : RunningCopy) (now : Nat) (f : Pfu) :
    (f.arm l c now).refresh = { (f.arm l c now) with stepDueSoon := false } := by
  have h : (f.arm l c now).dueSoon = false := by
    simp only [Pfu.dueSoon, List.any_eq_false, List.mem_range]
    intro i _
    split <;> simp [Perf.near, Pfu.arm, Perf.arm, Clocks.get_fresh, AnchorClock.fresh]
  rw [Pfu.refresh, h]

theorem State.decideArm_ready {l : PlanLetter} {copy : RunningCopy} {s : State} (hp : s.phase = .dark)
    (hf : s.fireFull = false) (hb : s.store.busy = false) (hw : s.fdu.fire.walk = none)
    (hs : (s.store.sector l).state = .sealed) (hc : (s.store.sector l).runningCopy = some copy) :
    s.decideArm (some l) = (s.changePhase (.request .arm .link) fun f => (f.arm l copy s.now, []),
      .done (s.changePhase (.request .arm .link) fun f => (f.arm l copy s.now, [])).phaseBody) := by
  simp [State.decideArm, hp, hf, hb, hw, PlanSector.armCheck, hs, hc]

/-- ARM accepted: the record and the table afresh, and the lights of PREPARE. -/
theorem execArm_ready {l : PlanLetter} {copy : RunningCopy} {s : State} (ha : Admits s) (hg : GatesCurrent s)
    (hp : s.phase = .dark) (hf : s.fireFull = false) (hb : s.store.busy = false) (hw : s.fdu.fire.walk = none)
    (hs : (s.store.sector l).state = .sealed) (hc : (s.store.sector l).runningCopy = some copy) :
    ∃ t, exec (.arm (some l)) s = .next t ∧ Only [.performance, .lights, .link, .lines, .draws] s t ∧
      t.pfu = { s.pfu.arm l copy s.now with stepDueSoon := false } ∧
      t.hlu = (if s.ilu.relay.line then s.hlu.loadMap s.now s.settings copy.header.prepare else s.hlu) ∧
      Replies s .arm (.done (.phase .prepare 0 0)) [.phase .prepare 0 0 (.request .arm .link) .none 0 none] t := by
  have hd := State.decideArm_ready (s := s.hunting) hp hf hb hw hs hc
  let u := s.hunting.phaseRecord (.request .arm .link) fun f => (f.arm l copy s.now, [])
  have hu : u.regate = u := by
    refine State.regate_calm (s := s) hg ha.released rfl rfl ?_ (show calmPhase .prepare from ⟨by decide, by decide, by decide⟩)
    rw [hp]
    exact ⟨by decide, by decide, by decide⟩
  have hl : u.loadMap = { u with
      hlu := if s.ilu.relay.line then s.hlu.loadMap s.now s.settings copy.header.prepare else s.hlu } := by
    rw [State.loadMap_eq (s := u) (copy := copy) rfl]
    show (if s.ilu.relay.line then { u with hlu := s.hlu.loadMap s.now s.settings copy.header.prepare } else u) = _
    split <;> rfl
  have hr : s.hunting.changePhase (.request .arm .link) (fun f => (f.arm l copy s.hunting.now, [])) = u.loadMap := by
    rw [State.changePhase_noneDue (Pfu.dueSteps_arm l copy s.now s.pfu)]
    exact congrArg State.loadMap hu
  rw [hr, hl] at hd
  refine ⟨_, exec_of_decided ha rfl hd, ?_, Pfu.refresh_arm l copy s.now s.pfu, rfl,
    State.replied_replies (bs := [.phase .prepare 0 0 (.request .arm .link) .none 0 none]) rfl _ _⟩
  intro p hp
  cases p <;> simp_all [Part.same] <;> rfl

/-! ## The refusals of ARM, in order -/

/-- Settles O16: ARM accepted, and its refusals in the order in which its conditions are tested. -/
theorem armStartsAPerformance : Obligations.ArmStartsAPerformance := by
  refine ⟨fun l copy s ha hg hp hf hb hw hs hc => execArm_ready ha hg hp hf hb hw hs hc, fun s ha => ⟨?_, fun l => ?_⟩⟩
  · exact refuses_of_decided ha rfl rfl
  · have refuse {r : Reason} (h : s.hunting.decideArm (some l) = (s.hunting, .refused r .none)) :
        Refuses (.arm (some l)) .arm r .none s := refuses_of_decided ha rfl h
    refine ⟨fun hp => refuse ?_, fun hp => ⟨fun hf => refuse ?_, fun hf => ⟨fun hb => refuse ?_, fun hb =>
      ⟨fun hw => refuse ?_, fun hw => ⟨fun hs => refuse ?_, fun hs => refuse ?_, fun hs hc => ?_⟩⟩⟩⟩⟩
    · simp [State.decideArm, hp]
    · simp [State.decideArm, hp, hf]
    · simp [State.decideArm, hp, hf, hb]
    · simp [State.decideArm, hp, hf, hb, hw]
    · simp [State.decideArm, hp, hf, hb, hw, PlanSector.armCheck, hs]
    · rcases hs with hs | hs <;> simp [State.decideArm, hp, hf, hb, hw, PlanSector.armCheck, hs]
    · have hd : s.hunting.decideArm (some l) =
          ({ s.hunting with store := s.store.setSector l { s.store.sector l with state := .bad } }, .refused .planBad .none) := by
        simp [State.decideArm, hp, hf, hb, hw, PlanSector.armCheck, hs, hc]
      refine ⟨_, exec_of_decided ha rfl hd, ?_, rfl, State.replied_replies (s := s) (bs := []) rfl _ _⟩
      intro p hp
      cases p <;> simp_all [Part.same]

end Sys2Proof.Machine
end

section
/-!
OPEN-HOUSE, and what the load of the lighting map does to each channel.
-/

namespace Sys2Proof.Machine

open Sys2Proof.Safety

/-! ## Phase requests in the phases in which they are taken (R4, R7) -/

theorem State.decideOpenHouse_eq {s : State} (src : Source) (h : s.phase = .prepare) :
    s.decideOpenHouse src = (s.changePhase (.request .openHouse src) fun f => (f.setPerf (f.perf.openHouse s.now), []),
      .done (s.changePhase (.request .openHouse src) fun f => (f.setPerf (f.perf.openHouse s.now), [])).phaseBody) := if_pos h

theorem State.decideOpenHouse_refused {s : State} (src : Source) (h : s.phase ≠ .prepare) :
    s.decideOpenHouse src = (s, .refused .wrongPhase .none) := if_neg h

/-- OPEN-HOUSE where no step falls due at that moment: the record, and the lights of HOUSE-OPEN. -/
theorem State.openHouse_quiet {s : State} {copy : RunningCopy} (src : Source) (hp : s.phase = .prepare) (hh : s.held = none)
    (hg : GatesCurrent s) (hc : s.pfu.runningCopy = some copy)
    (hn : (s.pfu.setPerf (s.pfu.perf.openHouse s.now)).dueSteps = []) :
    s.changePhase (.request .openHouse src) (fun f => (f.setPerf (f.perf.openHouse s.now), [])) =
      { s.phaseRecord (.request .openHouse src) (fun f => (f.setPerf (f.perf.openHouse s.now), [])) with
        hlu := if s.ilu.relay.line then s.hlu.loadMap s.now s.settings copy.header.houseOpen else s.hlu } := by
  let u := s.phaseRecord (.request .openHouse src) fun f => (f.setPerf (f.perf.openHouse s.now), [])
  have hu : u.regate = u := by
    refine State.regate_calm (s := s) hg hh rfl rfl ?_ (show calmPhase .houseOpen from ⟨by decide, by decide, by decide⟩)
    rw [hp]
    exact ⟨by decide, by decide, by decide⟩
  have hl : u.loadMap = if s.ilu.relay.line then { u with hlu := s.hlu.loadMap s.now s.settings copy.header.houseOpen }
      else u := State.loadMap_eq (s := u) hc
  rw [State.changePhase_noneDue hn]
  show u.regate.loadMap = _
  rw [hu, hl]
  split <;> rfl

theorem execOpenHouse_taken {s : State} (ha : Admits s) (hp : s.phase = .prepare) :
    ∃ t, exec .openHouse s = .next t ∧
      PhaseMoved s .openHouse { s.pfu with perf := { s.pfu.perf with
        phase := .houseOpen, clocks := { s.pfu.perf.clocks with houseOpen := { run := .running, value := 0 } },
        entry := s.now } } [] t ∧
      (∀ copy, s.pfu.runningCopy = some copy → GatesCurrent s →
        NoneDue { s.pfu with perf := { s.pfu.perf with
          clocks := { s.pfu.perf.clocks with houseOpen := { run := .running, value := 0 } } } } →
        Only [.performance, .lights, .gates, .link, .lines, .draws] s t ∧
        t.hlu = if s.ilu.relay.line then s.hlu.loadMap s.now s.settings copy.header.houseOpen else s.hlu) := by
  have hd := State.decideOpenHouse_eq (s := s.hunting) .link hp
  obtain ⟨he, hm⟩ := phaseMoved_of_decided (c := .openHouse) ha rfl hd
  refine ⟨_, he, hm, fun copy hc hg hn => ?_⟩
  have hn' : (s.pfu.setPerf (s.pfu.perf.openHouse s.now)).dueSteps = [] :=
    (Pfu.dueSteps_congr rfl rfl rfl rfl).trans (noneDue_iff.mp hn)
  have hq := State.openHouse_quiet (s := s.hunting) .link hp ha.released hg hc hn'
  rw [hq]
  refine ⟨?_, rfl⟩
  intro p hp
  cases p <;> simp_all [Part.same] <;> rfl

/-- Settles O17: OPEN-HOUSE by its change of phase, and the load of the lighting map by the entry of the phase. -/
theorem openHouseOpensTheHouse : Obligations.OpenHouseOpensTheHouse := by
  refine ⟨fun s ha => ⟨fun hp => ?_, fun hp => ?_⟩, fun copy s hc => ?_⟩
  · obtain ⟨t, he, hm, hq⟩ := execOpenHouse_taken ha hp
    refine ⟨t, he, hm, fun copy hc hg hn => ?_⟩
    obtain ⟨ho, hl⟩ := hq copy hc hg hn
    refine ⟨ho, ?_, fun hr h255 => ?_⟩
    · rintro (hr | h255)
      · rw [hl, if_neg (by simp [hr])]
      · rw [hl, Hlu.loadMap_none _ _ h255, ite_self]
    · rw [hl, if_pos hr]
      exact ⟨Hlu.loadMap_frame .., fun i r h => Hlu.loadMap_channels _ _ h255 h⟩
  · exact refuses_of_decided ha rfl (State.decideOpenHouse_refused .link hp)
  · intro m
    have hm : m = headerMap copy.header s.phase := by
      simp only [m]
      cases s.phase <;> rfl
    clear_value m
    subst hm
    have hl := State.loadMap_eq hc
    refine ⟨?_, fun e he hr => ⟨fun h255 => ?_, fun h255 => ?_⟩⟩
    · rintro (hn | hr)
      · rw [hl, hn]
      · rw [hl]
        cases headerMap copy.header s.phase <;> simp [hr]
    all_goals rw [he] at hl; simp only [hr, if_true] at hl
    · rw [hl, Hlu.loadMap_none _ _ h255]
    · rw [hl]
      exact ⟨congrArg (fun h => { s with hlu := h }) (Hlu.loadMap_frame ..), fun i r h => Hlu.loadMap_channels _ _ h255 h⟩

end Sys2Proof.Machine
end

section
/-!
BEGIN: the act it runs, the call it cuts, and its refusals.
-/

namespace Sys2Proof.Machine

open Sys2Proof.Safety

/-! ## A phase that bars the audience zones (R168, R174, R175) -/

/-- The audience zones of a zone set, bit by bit. -/
theorem audience_bits (d : ZoneSet) : (if d.getLsbD 2 then 0b00000100#8 else 0) ||| (if d.getLsbD 3 then 0b00001000#8 else 0) |||
    (if d.getLsbD 4 then 0b00010000#8 else 0) = d &&& audienceZones := by
  revert d
  decide +kernel

/-- The audience zones whose relays a phase that bars them leaves denied: those demanded. -/
theorem Ilu.next_deniedZones {v : IluView} {d : ZoneSet} (hs : v.stalls = d.getLsbD 2) (hc : v.circle = d.getLsbD 3)
    (hg : v.gallery = d.getLsbD 4) (hp : v.phase = .running) (hf : v.showPlay = true) (g : Ilu) :
    (g.next v).deniedZones = d &&& audienceZones := by
  have h : v.audienceForcing = [.showDuringRun] := by simp [IluView.audienceForcing, inForce, hp, hf]
  simp only [Ilu.deniedZones, Ilu.next, Gate.next_denied, h, hs, hc, hg, List.isEmpty_cons, Bool.not_false, Bool.and_true]
  exact audience_bits d

/-- No audience relay is energised where they are not demanded, or where the phase bars them from the play in hand. -/
theorem State.gates_audience {s : State} (h : s.clu.demanded = 0 ∨ (s.phase = .running ∧ s.clu.showPlay = true)) :
    s.gates.ilu.stalls.line = false ∧ s.gates.ilu.circle.line = false ∧ s.gates.ilu.gallery.line = false := by
  rcases h with h | ⟨hp, hs⟩
  · simp [Ilu.next, State.iluView, h]
  · have hf : s.iluView.audienceForcing = [.showDuringRun] := by
      simp [IluView.audienceForcing, inForce, State.iluView, hp, hs]
    simp [Ilu.next, hf]

/-! ## The play in hand -/

theorem Clu.playing_state {c : Clu} {e : CallEntry} (h : c.playing = some e) : e.state.effective.isSome = true := by
  simpa using List.find?_some h

/-- Where an entry is PLAYING the announcer is at work, and demands its effective zone set. -/
theorem Clu.demanded_playing {c : Clu} {e : CallEntry} {z : ZoneSet} (hq : QueueOk c) (h : c.playing = some e)
    (hz : e.state = .playing z) : c.effective = z ∧ c.demanded = z := by
  have he : c.effective = z := by simp [Clu.effective, h, hz, EntryState.effective]
  have hw : atWork c.announcer = true := by
    have hmem : e ∈ c.entries.filter fun f => f.state.effective.isSome :=
      List.mem_filter.mpr ⟨List.mem_of_find?_eq_some h, Clu.playing_state h⟩
    have hlen := List.length_pos_of_mem hmem
    rw [hq.playing] at hlen
    by_contra hn
    simp [hn] at hlen
  refine ⟨he, ?_⟩
  unfold Clu.demanded
  cases ha : c.announcer <;> simp_all [atWork]

theorem Clu.showPlay_of_playing {c : Clu} {e : CallEntry} (h : c.playing = some e)
    (hc : e.cls = .showClass ∨ e.cls = .houseClass) : c.showPlay = true := by
  rcases hc with hc | hc <;> simp [Clu.showPlay, h, hc, isShowOrHouse, classRank]

theorem isShowOrHouse_iff (c : CallClass) : isShowOrHouse c = true ↔ c = .showClass ∨ c = .houseClass := by
  cases c <;> simp [isShowOrHouse, classRank]

theorem Clu.eq_of_id {c : Clu} {e f : CallEntry} (hq : QueueOk c) (he : e ∈ c.entries) (hf : f ∈ c.entries)
    (h : f.id = e.id) : f = e := List.inj_on_of_nodup_map hq.ids hf he h

/-- The PLAYING entry, its effective zone set changed, is the PLAYING entry. -/
theorem Clu.playing_modify {c : Clu} {e : CallEntry} (hq : QueueOk c) (h : c.playing = some e) (z : ZoneSet) :
    (c.modify e.id fun f => { f with state := .playing z }).playing = some { e with state := .playing z } := by
  have he := List.mem_of_find?_eq_some h
  have hcongr : ∀ f ∈ c.entries,
      (if f.id = e.id then { f with state := .playing z } else f).state.effective.isSome = f.state.effective.isSome := by
    intro f hf
    split
    · next hi =>
      rw [Clu.eq_of_id hq he hf hi, Clu.playing_state h]
      rfl
    · rfl
  show (c.entries.map _).find? _ = _
  rw [List.find?_map]
  have hfind : c.entries.find? ((fun f => f.state.effective.isSome) ∘
      fun f => if f.id = e.id then { f with state := .playing z } else f) = some e := (List.find?_congr hcongr).trans h
  rw [hfind]
  simp

theorem without_audience_bits (z : ZoneSet) : z &&& ~~~(z &&& audienceZones) = z &&& ~~~audienceZones := by
  revert z
  decide +kernel

/-- A cut takes the audience zones out of the play in hand, and ends it where none is left (R168). -/
theorem Clu.cut_audience {now : Nat} {c : Clu} {e : CallEntry} {z : ZoneSet} (hq : QueueOk c) (h : c.playing = some e)
    (hz : e.state = .playing z) (hd : z &&& audienceZones ≠ 0) :
    c.cut now (z &&& audienceZones) =
      if z &&& ~~~audienceZones = 0 then (c.stop now).remove e .cut
      else CluOut.of (c.modify e.id fun f => { f with state := .playing (z &&& ~~~audienceZones) }) := by
  simp only [Clu.cut, h, (Clu.demanded_playing hq h hz).1, if_neg hd, without_audience_bits]

/-! ## BEGIN's change of the record (R3, R8, R41) -/

theorem Pfu.begin_houseOpen {now : Nat} {f : Pfu} (h : f.perf.phase = .houseOpen) :
    f.begin now = ({ (f.skipInstance .houseOpen).1 with perf := { f.perf with
        phase := .running, act := 1, entry := now,
        clocks := { f.perf.clocks with
          houseOpen := { f.perf.clocks.houseOpen with run := .ended }, act1 := { run := .running, value := 0 } } } },
      (f.skipInstance .houseOpen).2) := by
  simp only [Pfu.begin, Perf.instanceClock, Perf.begin, h]
  rfl

theorem Pfu.begin_interval {now : Nat} {f : Pfu} (h : f.perf.phase = .interval) :
    f.begin now = ({ (f.skipInstance (intervalClock f.perf.intervalNo)).1 with perf := { f.perf with
        phase := .running, act := f.perf.intervalNo + 1, entry := now,
        clocks := (f.perf.clocks.finish (intervalClock f.perf.intervalNo)).start (actClock (f.perf.intervalNo + 1)) } },
      (f.skipInstance (intervalClock f.perf.intervalNo)).2) := by
  simp only [Pfu.begin, Perf.instanceClock, Perf.begin, h]
  rfl

theorem Pfu.begin_resuming {now : Nat} {f : Pfu} (h : f.perf.phase = .resuming) :
    f.begin now = ({ f with perf := { f.perf with
        phase := .running, entry := now, clocks := f.perf.clocks.continue (actClock f.perf.act) } }, []) := by
  simp only [Pfu.begin, Perf.begin, h]
  rfl

theorem Pfu.begin_phase {now : Nat} {f : Pfu} (h : beginPhase f.perf.phase = true) :
    (f.begin now).1.perf.phase = .running := by
  rw [Pfu.begin_perf, Perf.begin]
  cases hp : f.perf.phase <;> simp_all [beginPhase]

theorem beginPhase_iff (p : Phase) : beginPhase p = true ↔ p = .houseOpen ∨ p = .interval ∨ p = .resuming := by
  cases p <;> simp [beginPhase]

theorem State.decideBegin_eq {s : State} (src : Source) (h : s.beginRefusal = none) :
    s.decideBegin src = (s.changePhase (.request .begin src) (Pfu.begin s.now),
      .done (s.changePhase (.request .begin src) (Pfu.begin s.now)).phaseBody) := by
  simp only [State.decideBegin, h]

theorem State.decideBegin_refused {s : State} {r : Reason} (src : Source) (h : s.beginRefusal = some r) :
    s.decideBegin src = (s, .refused r .none) := by
  simp only [State.decideBegin, h]

/-! ## The call that BEGIN cuts (R168) -/

/-- The state in which BEGIN's record stands, before the gates follow. -/
def State.begun (src : Source) (s : State) : State := s.phaseRecord (.request .begin src) (Pfu.begin s.now)

/-- BEGIN over a SHOW or HOUSE call: the gates deny the audience relays it demands. -/
theorem State.begun_regate {src : Source} {s : State} {e : CallEntry} {z : ZoneSet} (hh : s.held = none) (hg : GatesCurrent s)
    (hq : QueueOk s.clu) (hp : beginPhase s.phase = true) (h : s.clu.playing = some e) (hz : e.state = .playing z)
    (hc : e.cls = .showClass ∨ e.cls = .houseClass) :
    (s.begun src).regate = (s.begun src).gates.takeCuts ∧ (s.begun src).gates.ilu.deniedZones = z &&& audienceZones := by
  obtain ⟨hcur, -⟩ := hg hh
  have hr : (s.begun src).phase = .running := Pfu.begin_phase hp
  have hrelay : (s.begun src).gates.ilu.relay.line = s.ilu.relay.line := by
    rw [State.gates_relay, ← hcur]
    have hf : (s.begun src).forced = s.forced := by
      have hns : s.phase ≠ .evacuate := by rintro he; simp [he, beginPhase] at hp
      simp only [State.forced, hr, hns]
      rfl
    rw [hf]
    exact s.gates_relay.symm
  refine ⟨?_, Ilu.next_deniedZones (d := z) ?_ ?_ ?_ hr (Clu.showPlay_of_playing h hc) _⟩
  · show ((s.begun src).gates.takeDrop s.ilu.relay.line).takeCuts = _
    rw [State.takeDrop_eq_self hrelay.symm]
  all_goals
    show (Clu.demanded s.clu).getLsbD _ = _
    rw [(Clu.demanded_playing hq h hz).2]

/-- What BEGIN makes of a SHOW or HOUSE call playing in zones `z`: its change of CLU, and what CLU sends. -/
def beginCut (now : Nat) (z : ZoneSet) (c : Clu) : CluOut :=
  if z &&& audienceZones = 0 then CluOut.of c else c.cut now (z &&& audienceZones)

theorem beginCut_none {now : Nat} {z : ZoneSet} {c : Clu} (h : z &&& audienceZones = 0) :
    beginCut now z c = CluOut.of c := if_pos h

theorem beginCut_left {now : Nat} {c : Clu} {e : CallEntry} {z : ZoneSet} (hq : QueueOk c) (h : c.playing = some e)
    (hz : e.state = .playing z) (hd : z &&& audienceZones ≠ 0) (hl : z &&& ~~~audienceZones ≠ 0) :
    beginCut now z c = CluOut.of (c.modify e.id fun f => { f with state := .playing (z &&& ~~~audienceZones) }) := by
  rw [beginCut, if_neg hd, Clu.cut_audience hq h hz hd, if_neg hl]

theorem beginCut_ends {now : Nat} {c : Clu} {e : CallEntry} {z : ZoneSet} (hq : QueueOk c) (h : c.playing = some e)
    (hz : e.state = .playing z) (hd : z &&& audienceZones ≠ 0) (hl : z &&& ~~~audienceZones = 0) :
    beginCut now z c = (c.stop now).remove e .cut := by
  rw [beginCut, if_neg hd, Clu.cut_audience hq h hz hd, if_pos hl]

theorem State.begun_cut {src : Source} {s : State} {e : CallEntry} {z : ZoneSet} (hh : s.held = none) (hg : GatesCurrent s)
    (hq : QueueOk s.clu) (hp : beginPhase s.phase = true) (h : s.clu.playing = some e) (hz : e.state = .playing z)
    (hc : e.cls = .showClass ∨ e.cls = .houseClass) :
    let u := (s.begun src).regate
    let o := beginCut s.now z s.clu
    u.clu = o.clu ∧ u.lp = ((s.begun src).notifyAll o.notes).lp ∧
      u.ilu.stalls.line = false ∧ u.ilu.circle.line = false ∧ u.ilu.gallery.line = false := by
  intro u o
  obtain ⟨hr, hd⟩ := State.begun_regate (src := src) hh hg hq hp h hz hc
  have hrun : (s.begun src).phase = .running := Pfu.begin_phase hp
  have hplay : (s.begun src).clu.showPlay = true := Clu.showPlay_of_playing h hc
  by_cases hz0 : z &&& audienceZones = 0
  · have hu : u = (s.begun src).gates := hr.trans (State.takeCuts_eq_self (hd.trans hz0))
    have ho : o = CluOut.of s.clu := if_pos hz0
    rw [hu, ho]
    exact ⟨rfl, rfl, State.gates_audience (.inr ⟨hrun, hplay⟩)⟩
  · have ho : o = s.clu.cut s.now (z &&& audienceZones) := if_neg hz0
    have hu : u = ((s.begun src).gates.putClu o).gates := by
      show (s.begun src).regate = _
      rw [hr, State.takeCuts, hd, if_neg hz0, ho]
      rfl
    rw [hu]
    refine ⟨rfl, rfl, State.gates_audience ?_⟩
    rw [ho, Clu.cut_audience hq h hz hz0]
    split
    · exact .inl rfl
    · exact .inr ⟨hrun, Clu.showPlay_of_playing (Clu.playing_modify hq h _) hc⟩

theorem execBegin_taken {s : State} (ha : Admits s) (h : s.beginRefusal = none) :
    exec .begin s = .next ((s.hunting.changePhase (.request .begin .link) (Pfu.begin s.now)).replied .begin
        (.done (.phase (s.pfu.begin s.now).1.perf.phase (s.pfu.begin s.now).1.perf.act
          (s.pfu.begin s.now).1.perf.intervalNo))) ∧
      PhaseMoved s .begin (s.pfu.begin s.now).1 (s.pfu.begin s.now).2
        ((s.hunting.changePhase (.request .begin .link) (Pfu.begin s.now)).replied .begin
          (.done (.phase (s.pfu.begin s.now).1.perf.phase (s.pfu.begin s.now).1.perf.act
            (s.pfu.begin s.now).1.perf.intervalNo))) :=
  phaseMoved_of_decided (c := .begin) ha rfl (State.decideBegin_eq (s := s.hunting) .link h)

/-- Settles O18: BEGIN by its change of phase, the call it cuts by CLU's reaction to the denials, and its refusals. -/
theorem beginRunsAnAct : Obligations.BeginRunsAnAct := by
  unfold Obligations.BeginRunsAnAct
  intro entered
  have hent : ∀ s : State, s.phase = .houseOpen ∨ s.phase = .interval ∨ s.phase = .resuming →
      entered s = s.pfu.begin s.now := by
    intro s hp
    simp only [entered]
    rcases hp with hp | hp | hp <;> simp only [hp]
    · exact (Pfu.begin_houseOpen hp).symm
    · exact (Pfu.begin_interval hp).symm
    · exact (Pfu.begin_resuming hp).symm
  clear_value entered
  refine ⟨fun s ha hu hpr hf hl hp => ?_, fun e z s ha hg hq hu hpr hf hl hp hn hpl hz hc => ?_, fun s ha => ?_⟩
  · rw [hent s hp]
    exact ⟨_, execBegin_taken ha (State.beginRefusal_none.2 ⟨(beginPhase_iff _).2 hp, hu, hpr, hf, hl⟩)⟩
  · have hb := (beginPhase_iff s.phase).2 hp
    rw [hent s hp] at hn ⊢
    intro p told done
    have hrun : p.phase = .running := Pfu.begin_phase hb
    obtain ⟨hx, -⟩ := execBegin_taken ha (State.beginRefusal_none.2 ⟨hb, hu, hpr, hf, hl⟩)
    have hq' := State.changePhase_noneDue (cause := .request .begin .link) (s := s.hunting) (noneDue_iff.1 hn)
    obtain ⟨hclu, hlp, hst, hci, hga⟩ := State.begun_cut (s := s.hunting) (src := .link) ha.released hg hq hb hpl hz hc
    rw [hq', show (s.pfu.begin s.now).1.perf.phase = .running from hrun] at hx
    have hnote : p.phaseNote (.request .begin .link) none =
        .phase .running p.act p.intervalNo (.request .begin .link) p.stopCause p.stops none := by
      rw [Perf.phaseNote, hrun]
    have hreply : ∀ bs, (beginCut s.now z s.clu).notes = bs →
        Replies s .begin done (told ++ bs) ((s.hunting.begun .link).regate.loadMap.replied .begin done) := by
      rintro bs rfl
      refine State.replied_replies ?_ _ _
      have ht : told = (s.pfu.begin s.now).2 ++ [p.phaseNote (.request .begin .link) none] := by rw [hnote]
      rw [State.loadMap_lp, hlp, ht, ← State.notifyAll_append]
      rfl
    have hclu' : ((s.hunting.begun .link).regate.loadMap.replied .begin done).clu = (beginCut s.now z s.clu).clu := by
      rw [State.replied_clu, State.loadMap_clu, hclu]
      rfl
    refine ⟨_, hx, ?_, ?_, ?_, fun hz0 => ?_, fun hz0 hz1 => ?_, fun hz0 hz1 => ?_⟩
    · rw [State.replied_ilu, State.loadMap_ilu]
      exact hst
    · rw [State.replied_ilu, State.loadMap_ilu]
      exact hci
    · rw [State.replied_ilu, State.loadMap_ilu]
      exact hga
    · rw [beginCut_none hz0] at hclu' hreply
      have hr := hreply [] rfl
      rw [List.append_nil] at hr
      exact ⟨hclu', hr⟩
    · rw [beginCut_left hq hpl hz hz0 hz1] at hclu' hreply
      have hr := hreply [] rfl
      rw [List.append_nil] at hr
      exact ⟨hclu', hr⟩
    · rw [beginCut_ends hq hpl hz hz0 hz1] at hclu' hreply
      exact ⟨hclu', hreply _ rfl⟩
  have refuse {r : Reason} (h : s.hunting.beginRefusal = some r) : Refuses .begin .begin r .none s :=
    refuses_of_decided ha rfl (State.decideBegin_refused .link h)
  refine ⟨?_, ?_⟩
  · intro h1 h2 h3
    refine refuse ?_
    have hb : beginPhase s.phase = false := by
      by_contra hb
      simpa [h1, h2, h3] using (beginPhase_iff s.phase).1 (by simpa using hb)
    simp [State.beginRefusal, hb]
  · intro hp
    have hb : beginPhase s.phase = true := (beginPhase_iff s.phase).2 hp
    refine ⟨fun hu => refuse ?_, fun hu => ⟨fun hpr => refuse ?_, fun hpr => ⟨fun hf => refuse ?_, fun hf hl => refuse ?_⟩⟩⟩
    · simp [State.beginRefusal, hb, hu]
    · simp [State.beginRefusal, hb, hu, hpr]
    · simp [State.beginRefusal, hb, hu, hpr, hf]
    · simp [State.beginRefusal, hb, hu, hpr, hf, hl]

end Sys2Proof.Machine
end

section
/-!
INTERVAL and END, RESUME, CLOSE and DISARM.
-/

namespace Sys2Proof.Machine

open Sys2Proof.Safety

/-! ## INTERVAL (R9) -/

theorem Pfu.interval_eq {now : Nat} {f : Pfu} {copy : RunningCopy} (h : f.runningCopy = some copy) :
    f.interval now = ({ (f.skipInstance (actClock f.perf.act)).1 with
        expirySent := false,
        perf := { f.perf with
          phase := .interval, intervalNo := f.perf.act, intervalLen := headerInterval copy.header f.perf.act, entry := now,
          clocks := (f.perf.clocks.finish (actClock f.perf.act)).start (intervalClock f.perf.act) } },
      (f.skipInstance (actClock f.perf.act)).2) := by
  have hl : f.intervalLength f.perf.act = headerInterval copy.header f.perf.act := by simp only [Pfu.intervalLength, h]
  rw [Pfu.interval, hl]
  rfl

theorem State.decideInterval_eq {s : State} (src : Source) (hp : s.phase = .running) (ha : s.pfu.perf.act < s.pfu.perf.acts) :
    s.decideInterval src = (s.changePhase (.request .interval src) (Pfu.interval s.now),
      .done (s.changePhase (.request .interval src) (Pfu.interval s.now)).phaseBody) := if_pos ⟨hp, ha⟩

theorem State.decideInterval_refused {s : State} (src : Source) (h : s.phase ≠ .running ∨ s.pfu.perf.acts ≤ s.pfu.perf.act) :
    s.decideInterval src = (s, .refused .wrongPhase .none) :=
  if_neg fun ⟨hp, ha⟩ => h.elim (fun h => h hp) (fun h => absurd ha (Nat.not_lt.2 h))

/-! ## END (R10) -/

/-- The anchor instance that an END taken ends: that of the last act, or the one suspended. -/
def EndsInstance (p : Perf) (c : ClockId) : Prop :=
  (p.phase = .running ∧ p.act = p.acts ∧ c = actClock p.act) ∨ (p.phase = .stopped ∧ p.suspendedClock = some c)

theorem EndsInstance.endedClock {p : Perf} {c : ClockId} (h : EndsInstance p c) : p.endedClock = some c := by
  rcases h with ⟨hp, -, hc⟩ | ⟨hp, hc⟩ <;> simp [Perf.endedClock, hp, hc]

theorem EndsInstance.endShow {p : Perf} {c : ClockId} (h : EndsInstance p c) (now : Nat) :
    p.endShow now = { p with
      phase := .closed, stopCause := .none, resume := none, entry := now, clocks := (p.clocks.finish c).start .closed } := by
  rcases h with ⟨hp, -, hc⟩ | ⟨hp, hc⟩ <;> simp [Perf.endShow, hp, hc]

/-- The plan runner's side of an END that ends an instance, before the steps never reached are skipped. -/
def Pfu.ended (now : Nat) (c : ClockId) (f : Pfu) : Pfu :=
  { (f.skipInstance c).1 with perf := { f.perf with
      phase := .closed, stopCause := .none, resume := none, entry := now, clocks := (f.perf.clocks.finish c).start .closed } }

theorem Pfu.endShow_eq {now : Nat} {f : Pfu} {c : ClockId} (h : EndsInstance f.perf c) :
    f.endShow now = ((f.ended now c).skipNeverReached.1, (f.skipInstance c).2 ++ (f.ended now c).skipNeverReached.2) := by
  simp only [Pfu.endShow, h.endedClock, h.endShow]
  rfl

theorem State.decideEnd_eq {s : State} (src : Source) {c : ClockId} (h : EndsInstance s.pfu.perf c) :
    s.decideEnd src = (s.changePhase (.request .endShow src) (Pfu.endShow s.now),
      .done (s.changePhase (.request .endShow src) (Pfu.endShow s.now)).phaseBody) :=
  if_pos (h.elim (fun h => .inr ⟨h.1, h.2.1⟩) fun h => .inl h.1)

theorem State.decideEnd_refused {s : State} (src : Source) (hs : s.phase ≠ .stopped)
    (h : s.phase ≠ .running ∨ s.pfu.perf.act ≠ s.pfu.perf.acts) : s.decideEnd src = (s, .refused .wrongPhase .none) :=
  if_neg fun hc => hc.elim hs fun hr => h.elim (fun h => h hr.1) fun h => h hr.2

/-- Settles O19: INTERVAL and END by their changes of phase, and their refusals. -/
theorem intervalAndEnd : Obligations.IntervalAndEnd := by
  refine ⟨fun s ha => ⟨fun hp hl copy hc => ?_, fun h => ?_⟩, fun s ha => ⟨fun c hc => ?_, fun hs h => ?_⟩⟩
  · have hd := State.decideInterval_eq (s := s.hunting) .link hp hl
    have hm := phaseMoved_of_decided (c := .interval) ha rfl hd
    rw [Pfu.interval_eq (f := s.pfu) hc] at hm
    exact ⟨_, hm⟩
  · exact refuses_of_decided ha rfl (State.decideInterval_refused .link h)
  · have hd := State.decideEnd_eq (s := s.hunting) .link hc
    have hm := phaseMoved_of_decided (c := .endShow) ha rfl hd
    rw [Pfu.endShow_eq (f := s.pfu) hc] at hm
    exact ⟨_, hm⟩
  · exact refuses_of_decided ha rfl (State.decideEnd_refused .link hs h)

/-! ## RESUME (R13) -/

theorem Perf.doResume_eq {p : Perf} {r : ResumePhase} (now : Nat) : p.resume = some r →
    p.doResume now = { p with
      resume := none, stopCause := .none, entry := now,
      phase := (match r with | .houseOpen => .houseOpen | .interval => .interval | .resuming => .resuming),
      clocks := (match r with
        | .houseOpen => p.clocks.continue .houseOpen
        | .interval => p.clocks.continue (intervalClock p.intervalNo)
        | .resuming => p.clocks) } := by
  intro h
  cases r <;> simp [Perf.doResume, h]

theorem State.decideResume_eq {s : State} (src : Source) (hp : s.phase = .stopped) (hf : s.fireQuiet = true) :
    s.decideResume src = (s.changePhase (.request .resume src) fun f => (f.setPerf (f.perf.doResume s.now), []),
      .done (s.changePhase (.request .resume src) fun f => (f.setPerf (f.perf.doResume s.now), [])).phaseBody) := by
  simp [State.decideResume, hp, hf]

theorem State.decideResume_wrongPhase {s : State} (src : Source) (hp : s.phase ≠ .stopped) :
    s.decideResume src = (s, .refused .wrongPhase .none) := if_pos hp

theorem State.decideResume_alarm {s : State} (src : Source) (hp : s.phase = .stopped) (hf : s.fireQuiet = false) :
    s.decideResume src = (s, .refused .alarmActive .none) := by
  simp [State.decideResume, hp, hf]

/-! ## CLOSE (R17) -/

theorem State.decideClose_eq {s : State} (hp : s.phase = .evacuate) (hf : s.fireQuiet = true) :
    s.decideClose = (s.changePhase (.request .close .link) (Pfu.close s.now),
      .done (s.changePhase (.request .close .link) (Pfu.close s.now)).phaseBody) := by
  simp [State.decideClose, hp, hf]

/-! ## DISARM (R18) -/

/-- Without a running copy no step is PENDING. -/
theorem Pfu.pendingStep_none {f : Pfu} (h : f.runningCopy = none) (i : Nat) : f.pendingStep i = none := by
  simp [Pfu.pendingStep, Pfu.steps, h]

theorem Pfu.dueSteps_noCopy {f : Pfu} (h : f.runningCopy = none) : f.dueSteps = [] := by
  simp [Pfu.dueSteps, Pfu.isDue, Pfu.pendingStep_none h]

theorem Pfu.dueSoon_noCopy {f : Pfu} (h : f.runningCopy = none) : f.dueSoon = false := by
  simp [Pfu.dueSoon, Pfu.pendingStep_none h]

/-- What DISARM ends of the CLOSED instance: from PREPARE, where its clock does not run, nothing; from CLOSED its clock and
its steps. -/
theorem Pfu.disarm_eq {now : Nat} {f g : Pfu} {clocks : Clocks} {bs : List NoticeBody}
    (h : (f.perf.phase = .prepare ∧ f.perf.clocks.closed.run ≠ .running ∧ clocks = f.perf.clocks ∧ g = f ∧ bs = []) ∨
      (f.perf.phase = .closed ∧ f.perf.clocks.closed.run = .running ∧ clocks = f.perf.clocks.finish .closed ∧
        (g, bs) = f.skipInstance .closed)) :
    f.disarm now = ({ g with
      runningCopy := none,
      perf := { f.perf with plan := none, acts := 0, proven := false, phase := .dark, entry := now, clocks } }, bs) := by
  rcases h with ⟨hp, hr, rfl, rfl, rfl⟩ | ⟨hp, hr, rfl, hg⟩
  · simp [Pfu.disarm, Perf.disarm, hp, hr, Pfu.setPerf]
  · simp [Pfu.disarm, Perf.disarm, hp, hr, Pfu.setPerf, ← hg]

theorem State.decideDisarm_eq {s : State} (hp : s.phase = .prepare ∨ s.phase = .closed) :
    s.decideDisarm = (s.changePhase (.request .disarm .link) (Pfu.disarm s.now),
      .done (s.changePhase (.request .disarm .link) (Pfu.disarm s.now)).phaseBody) := if_pos hp

/-- After DISARM no step is due within 60 s and the curtain is not proven. -/
theorem State.disarmed_pfu (now : Nat) (cause : PhaseCause) (s : State) :
    (s.changePhase cause (Pfu.disarm now)).pfu.stepDueSoon = false ∧
      (s.changePhase cause (Pfu.disarm now)).pfu.perf.proven = false := by
  have hc : (s.pfu.disarm now).1.runningCopy = none := rfl
  rw [State.changePhase_noneDue (Pfu.dueSteps_noCopy hc), State.loadMap_pfu, State.regate_pfu]
  exact ⟨Pfu.dueSoon_noCopy hc, rfl⟩

/-- Settles O20: RESUME, CLOSE and DISARM by their changes of phase, and their refusals. -/
theorem resumeCloseAndDisarm : Obligations.ResumeCloseAndDisarm := by
  refine ⟨fun s ha => ⟨fun hp hf r hr => ?_, fun hp => ?_, fun hp hf => ?_⟩,
    fun s ha => ⟨fun hp hf => ?_, fun hp => ?_, fun hp hf => ?_, fun clocks f bs h => ?_, fun h1 h2 => ?_⟩⟩
  · have hd := State.decideResume_eq (s := s.hunting) .link hp hf
    have hm := phaseMoved_of_decided (c := .resume) ha rfl hd
    have he : s.pfu.setPerf (s.pfu.perf.doResume s.hunting.now) = _ := congrArg (fun p => s.pfu.setPerf p)
      (Perf.doResume_eq s.now hr)
    dsimp only at hm
    rw [he] at hm
    exact ⟨_, hm⟩
  · exact refuses_of_decided ha rfl (State.decideResume_wrongPhase .link hp)
  · exact refuses_of_decided ha rfl (State.decideResume_alarm .link hp hf)
  · exact ⟨_, phaseMoved_of_decided (c := .close) ha rfl (State.decideClose_eq (s := s.hunting) hp hf)⟩
  · exact refuses_of_decided ha rfl (if_pos hp)
  · exact refuses_of_decided ha rfl (by simp [State.decideClose, hp, hf])
  · have hd := State.decideDisarm_eq (s := s.hunting) (h.imp And.left And.left)
    have hm := phaseMoved_of_decided (c := .disarm) ha rfl hd
    have hp := State.disarmed_pfu s.now (.request .disarm .link) s.hunting
    rw [Pfu.disarm_eq (f := s.pfu) h] at hm
    exact ⟨_, hm.1, hp.1, hp.2, hm.2⟩
  · exact refuses_of_decided ha rfl (if_neg (by rintro (h | h) <;> contradiction))

end Sys2Proof.Machine
end

section
/-!
The reading requests: what each gives of the state as it stands, and DEVICE-COUNTS.
-/

namespace Sys2Proof.Machine

open Sys2Proof.Safety

/-! ## A request that changes nothing -/

/-- A request was answered DONE with a body, and nothing else came of it. -/
def Reads (c : Instr) (kind : RequestKind) (body : DoneBody) (s : State) : Prop :=
  ∃ t, exec c s = .next t ∧ Only [.link, .lines, .draws] s t ∧ Replies s kind (.done body) [] t

theorem reads_of_decided {c : Instr} {kind : RequestKind} {d : State → State × Decision} {body : DoneBody} {s : State}
    (h : Admits s) (hc : exec c s = .next (s.answer kind true d)) (hd : d s.hunting = (s.hunting, .done body)) :
    Reads c kind body s := by
  refine ⟨s.hunting.replied kind (.done body), ?_, ?_, State.replied_replies rfl kind _⟩
  · rw [hc, State.answer_eq h, hd]
  · intro p hp
    cases p <;> simp_all [Part.same]

/-! ## The performance and the plans (R22, R35, R40) -/

theorem State.readPerformance_remaining (s : State) : s.readPerformance.remaining =
    if s.phase = .interval ∨ s.pfu.perf.resume = some .interval then
      some (s.pfu.perf.intervalLen - (s.pfu.perf.clocks.get (intervalClock s.pfu.perf.intervalNo)).value / 1000)
    else none := rfl

theorem Pfu.readStep_status {f : Pfu} {i : Nat} (h : i < f.table.length) :
    f.table[i]? = some (f.readStep i).status := by
  simp [Pfu.readStep, List.getD_eq_getElem?_getD, List.getElem?_eq_getElem h]

theorem Pfu.readStep_settled {f : Pfu} {i : Nat} (h : i < f.table.length) (hs : (f.readStep i).status ≠ .pending) :
    (f.readStep i).remaining = none := by
  have ht := Pfu.readStep_status h
  have hp : f.pendingStep i = none := if_neg (by rw [ht]; simpa using hs)
  simp only [Pfu.readStep, hp]

theorem Pfu.readStep_pending {f : Pfu} {i : Nat} {copy : RunningCopy} {st : Step} (h : i < f.table.length)
    (hc : f.runningCopy = some copy) (hs : copy.steps[i]? = some st) (hp : (f.readStep i).status = .pending) :
    (f.readStep i).remaining =
      if (f.perf.clocks.get st.anchor.clock).run = .running then
        some (f.perf.dueTime st - ((f.perf.clocks.get st.anchor.clock).value : Int)) else none := by
  have ht := Pfu.readStep_status h
  have hst : f.pendingStep i = some st := by
    simp only [Pfu.pendingStep, ht, hp, if_true, Pfu.steps, hc, hs]
  simp only [Pfu.readStep, hst]

/-! ## The order of the queue (R158, R171) -/

/-- The order in which QUEUE-READ gives two entries. -/
def CallEntry.inOrder (e f : CallEntry) : Prop :=
  classCode e.cls < classCode f.cls ∨ (e.cls = f.cls ∧ e.arrival ≤ f.arrival)

theorem classRank_inj {a b : CallClass} (h : classRank a = classRank b) : a = b := by
  cases a <;> cases b <;> simp_all [classRank]

theorem classCode_eq_classRank (a : CallClass) : classCode a = classRank a := by cases a <;> rfl

theorem CallEntry.inOrder_of_before {e f : CallEntry} (h : e.before f = true) : e.inOrder f := by
  simp only [CallEntry.before, Bool.or_eq_true, Bool.and_eq_true, decide_eq_true_eq, beq_iff_eq] at h
  unfold CallEntry.inOrder
  rw [classCode_eq_classRank, classCode_eq_classRank]
  exact h.imp (fun h => h) fun h => ⟨classRank_inj h.1, by omega⟩

theorem CallEntry.inOrder_of_not_before {e f : CallEntry} (h : e.before f = false) : f.inOrder e := by
  simp only [CallEntry.before, Bool.or_eq_false_iff, Bool.and_eq_false_iff, decide_eq_false_iff_not,
    beq_eq_false_iff_ne] at h
  obtain ⟨hl, ha⟩ := h
  by_cases heq : classRank e.cls = classRank f.cls
  · have hle := ha.resolve_left (not_not.2 heq)
    exact .inr ⟨(classRank_inj heq).symm, by omega⟩
  · exact .inl (by rw [classCode_eq_classRank, classCode_eq_classRank]; omega)

theorem CallEntry.inOrder_trans {e f g : CallEntry} (h : e.inOrder f) (k : f.inOrder g) : e.inOrder g := by
  rcases h with h | ⟨h, ha⟩
  · rcases k with k | ⟨k, -⟩
    · exact .inl (by omega)
    · exact .inl (k ▸ h)
  · rcases k with k | ⟨k, kb⟩
    · exact .inl (h ▸ k)
    · exact .inr ⟨h.trans k, by omega⟩

theorem insertInOrder_perm (e : CallEntry) (l : List CallEntry) : (insertInOrder e l).Perm (e :: l) := by
  induction l with
  | nil => exact .refl _
  | cons f fs ih =>
    unfold insertInOrder
    split
    · exact .refl _
    · exact (ih.cons f).trans (.swap e f fs)

theorem insertInOrder_pairwise (e : CallEntry) {l : List CallEntry} (h : l.Pairwise CallEntry.inOrder) :
    (insertInOrder e l).Pairwise CallEntry.inOrder := by
  induction l with
  | nil => exact List.pairwise_singleton _ _
  | cons f fs ih =>
    obtain ⟨hf, hfs⟩ := List.pairwise_cons.1 h
    unfold insertInOrder
    split
    · next hb =>
      refine List.pairwise_cons.2 ⟨fun g hg => ?_, h⟩
      rcases List.mem_cons.1 hg with rfl | hg
      · exact CallEntry.inOrder_of_before hb
      · exact CallEntry.inOrder_trans (CallEntry.inOrder_of_before hb) (hf g hg)
    · next hb =>
      refine List.pairwise_cons.2 ⟨fun g hg => ?_, ih hfs⟩
      rcases List.mem_cons.1 ((insertInOrder_perm e fs).mem_iff.1 hg) with rfl | hg
      · exact CallEntry.inOrder_of_not_before (by simpa using hb)
      · exact hf g hg

theorem Clu.ordered_perm (c : Clu) : c.ordered.Perm c.entries := by
  unfold Clu.ordered
  induction c.entries with
  | nil => exact .refl _
  | cons e es ih => exact (insertInOrder_perm e _).trans (ih.cons e)

theorem Clu.ordered_pairwise (c : Clu) : c.ordered.Pairwise CallEntry.inOrder := by
  unfold Clu.ordered
  induction c.entries with
  | nil => exact .nil
  | cons e es ih => exact insertInOrder_pairwise e ih

theorem State.readQueue_entries (first count : Nat) (s : State) :
    (s.readQueue first count).entries.map (·.entry) = (s.clu.ordered.drop first).take count := by
  simp [State.readQueue, State.readEntry, Function.comp_def]

/-! ## The desk's lamps (R189, R190) -/

theorem State.readDesk_lamp {s : State} {n : Nat} {b : LampBinding} (h : s.settings.lamps[n]? = some b) :
    s.readDesk.lamps[n]? = some { binding := b, condition := s.condition b.condition, lit := s.lit b } := by
  simp [State.readDesk, h]

theorem State.lit_iff (s : State) (b : LampBinding) :
    s.lit b = true ↔ s.condition b.condition = true ∧ (b.flashing = true → s.dsu.flashLit = true) := by
  cases hb : b.flashing <;> simp [State.lit, hb]

/-! ## The devices (R128) -/

theorem State.readDevice_watchPlace {s : State} {a k : Nat} (h : (s.readDevice a).watchPlace = some k) :
    s.fdu.watch[k]? = some a := by
  obtain ⟨hk, hp, -⟩ := List.findIdx?_eq_some_iff_getElem.1 h
  rw [List.getElem?_eq_getElem hk]
  simpa using hp

theorem State.readDevice_watched (s : State) (a : Nat) : (s.readDevice a).watchPlace.isSome = true ↔ a ∈ s.fdu.watch := by
  simp [State.readDevice, List.findIdx?_isSome]

theorem Fdu.underWalk_iff (z : Nat) (f : Fdu) : f.underWalk z = true ↔ ∃ w, f.fire.walk = some w ∧ w.zone = z := by
  unfold Fdu.underWalk
  split <;> simp_all

theorem isolable_iff (t : DeviceType) : isolable t = true ↔ t = .smoke ∨ t = .beam := by cases t <;> simp [isolable]

/-! ## Items of the configuration (R198) -/

theorem itemOk_eq_false (item : ConfigItem) : itemOk item = false ↔
    (∃ code, item = .unknown code) ∨ (∃ n, item = .channel n ∧ 11 < n) ∨ (∃ n, item = .preset n ∧ 14 < n) ∨
      (∃ n, item = .device n ∧ (n = 0 ∨ 64 < n)) ∨ (∃ n, item = .zone n ∧ (n = 0 ∨ 16 < n)) ∨
      (∃ n, item = .template n ∧ 15 < n) ∨ (∃ n, item = .bell n ∧ (n = 0 ∨ 7 < n)) ∨
      (∃ n, item = .limits n ∧ 7 < n) ∨ (∃ n, item = .keyBinding n ∧ 47 < n) ∨ (∃ n, item = .lampBinding n ∧ 7 < n) := by
  cases item <;> simp [itemOk] <;> omega

/-! ## DEVICE-COUNTS (R128) -/

theorem deviceCounts_cleared {first count : Nat} {s : State} (ha : Admits s) (h1 : 1 ≤ first) (hc : 1 ≤ count) (h32 : count ≤ 32)
    (h65 : first + count ≤ 65) :
    ∃ t, exec (.deviceCounts first count) s = .next t ∧ Only [.fire, .link, .lines, .draws] s t ∧
      t.fdu = { s.fdu with devices := t.fdu.devices } ∧
      (∀ (i : Nat) (d : DeviceRecord), s.fdu.devices[i]? = some d → t.fdu.devices[i]? = some
        (if first ≤ i + 1 ∧ i + 1 < first + count then { d with errors := 0 } else d)) ∧
      Replies s .deviceCounts (.done (.counts ((List.range count).map fun k => (s.fdu.device (first + k)).errors))) [] t := by
  have hd : s.hunting.decideDeviceCounts first count = _ := if_neg (by omega)
  refine ⟨_, exec_of_decided ha rfl hd, ?_, rfl, fun i d hi => ?_, State.replied_replies (bs := []) rfl _ _⟩
  · intro p hp
    cases p <;> simp_all [Part.same]
  · simp [hi]

/-! ## What each request gives -/

theorem State.reads_plain {s : State} (ha : Admits s) (c : Instr) (kind : RequestKind) (body : DoneBody)
    (h : (c, kind, body) ∈ ([(.performanceRead, .performanceRead, .performance s.readPerformance),
      (.curtainRead, .curtainRead, .curtain s.readCurtain), (.lightsRead false, .lightsRead, .lights s.readLights),
      (.fireRead false, .fireRead, .fire s.readFire), (.deskRead, .deskRead, .desk s.readDesk),
      (.identify, .identify, .identity "LOMAJEN 460" hardwareRevision Config.serialNumber)] :
      List (Instr × RequestKind × DoneBody))) : Reads c kind body s := by
  have hl : s.hunting.decideLightsRead false = (s.hunting, .done (.lights s.readLights)) := by
    simp only [State.decideLightsRead, Bool.false_and, Bool.not_false, Bool.and_true]
    rfl
  have hf : s.hunting.decideFireRead false = (s.hunting, .done (.fire s.readFire)) := by
    have hm : s.hunting.fdu.sounderFaults.mapIdx (fun _ b => b) = s.hunting.fdu.sounderFaults := by
      apply List.ext_getElem <;> simp
    simp only [State.decideFireRead, Bool.false_and, Bool.not_false, Bool.and_true, hm]
    rfl
  simp only [List.mem_cons, Prod.mk.injEq, List.not_mem_nil, or_false] at h
  rcases h with ⟨rfl, rfl, rfl⟩ | ⟨rfl, rfl, rfl⟩ | ⟨rfl, rfl, rfl⟩ | ⟨rfl, rfl, rfl⟩ | ⟨rfl, rfl, rfl⟩ | ⟨rfl, rfl, rfl⟩
  · exact reads_of_decided ha rfl rfl
  · exact reads_of_decided ha rfl rfl
  · exact reads_of_decided ha rfl hl
  · exact reads_of_decided ha rfl hf
  · exact reads_of_decided ha rfl rfl
  · exact reads_of_decided ha rfl rfl

theorem sampleRead_gives {s : State} (ha : Admits s) : ∃ t xs, exec .sampleRead s = .next t ∧ Only [.link, .lines, .draws] s t ∧
    Replies s .sampleRead (.done (.samples xs)) [] t ∧ xs.length = 8 ∧ ∀ n x, xs[n]? = some x →
      x.channel = s.lmu.channel n ∧ x.limits = s.settings.limit n ∧ x.last = (s.lmu.channel n).held.getLast? := by
  obtain ⟨t, he, ho, hr⟩ := reads_of_decided (c := .sampleRead) ha rfl rfl
  refine ⟨t, _, he, ho, hr, by simp, fun n x hx => ?_⟩
  obtain ⟨k, hk, rfl⟩ := Option.map_eq_some_iff.1 ((List.getElem?_map ..).symm.trans hx)
  obtain rfl : k = n := by
    obtain ⟨hn, hk⟩ := List.getElem?_eq_some_iff.1 hk
    simpa using hk.symm
  exact ⟨rfl, rfl, rfl⟩

theorem planRead_gives {l : PlanLetter} {s : State} (ha : Admits s) (hb : s.store.busy = false)
    (he : (s.store.sector l).state ≠ .empty) :
    (∃ t r, exec (.planRead (some l) .header) s = .next t ∧ Only [.link, .lines, .draws] s t ∧
      Replies s .planRead (.done (.planHeader r)) [] t ∧ r.state = (s.store.sector l).state ∧
      (r.locked = true ↔ s.pfu.perf.plan = some l) ∧ r.header = (s.store.sector l).header ∧
      r.sealed = if (s.store.sector l).state = .sealed then some ((s.store.sector l).count, (s.store.sector l).check)
        else none) ∧
    ∀ first count, 1 ≤ count → count ≤ 6 → first + count ≤ 48 →
      ∃ t, exec (.planRead (some l) (.slots first count)) s = .next t ∧ Only [.link, .lines, .draws] s t ∧
        Replies s .planRead (.done (.planSlots (((s.store.sector l).slots.drop first).take count))) [] t := by
  refine ⟨?_, fun first count h1 h6 h48 => ?_⟩
  · have hd : s.hunting.decidePlanRead (some l) .header = (s.hunting, .done (s.readPlan l .header)) := by
      simp only [State.decidePlanRead, State.hunting_store, hb, he, if_false, Bool.true_eq_false, Bool.false_eq_true]
      rfl
    obtain ⟨t, hx, ho, hr⟩ := reads_of_decided (c := .planRead (some l) .header) ha rfl hd
    refine ⟨t, _, hx, ho, hr, rfl, ?_, rfl, rfl⟩
    simp [Perf.locks]
  · have hk : slotRangeOk first count = true := by
      simp only [slotRangeOk, Bool.and_eq_true, decide_eq_true_eq]
      omega
    refine reads_of_decided ha rfl ?_
    simp only [State.decidePlanRead, State.hunting_store, hb, he, hk, if_false, Bool.true_eq_false, Bool.false_eq_true]
    rfl

theorem stepRead_gives {first count : Nat} {s : State} (ha : Admits s) (h1 : 1 ≤ count) (h24 : count ≤ 24)
    (ht : first + count ≤ s.pfu.table.length) :
    ∃ t xs, exec (.stepRead first count) s = .next t ∧ Only [.link, .lines, .draws] s t ∧
      Replies s .stepRead (.done (.steps xs)) [] t ∧ xs.length = count ∧
      ∀ k x, xs[k]? = some x → x = s.pfu.readStep (first + k) ∧ k < count := by
  have hd : s.hunting.decideStepRead first count =
      (s.hunting, .done (.steps ((List.range count).map fun k => s.pfu.readStep (first + k)))) := by
    have hne : s.hunting.pfu.table ≠ [] := by
      rintro he
      have hl : s.pfu.table.length = 0 := by rw [show s.pfu.table = [] from he]; rfl
      omega
    rw [State.decideStepRead, if_neg hne, if_neg (by simp only [State.hunting_pfu]; omega)]
    rfl
  obtain ⟨t, hx, ho, hr⟩ := reads_of_decided (c := .stepRead first count) ha rfl hd
  refine ⟨t, _, hx, ho, hr, by simp, fun k x hk => ?_⟩
  obtain ⟨j, hj, rfl⟩ := Option.map_eq_some_iff.1 ((List.getElem?_map ..).symm.trans hk)
  obtain ⟨hn, hj⟩ := List.getElem?_eq_some_iff.1 hj
  obtain rfl : j = k := by simpa using hj.symm
  exact ⟨rfl, by simpa using hn⟩

/-! ## What the readings say (R22, R70, R107, R128, R148, R171, R182, R190) -/

theorem State.readCurtain_eq (s : State) : s.readCurtain =
    { state := s.ctc.state, cause := s.ctc.descent.map (·.record.cause),
      holding := s.ctc.descent.any (·.hold.isSome), position := pos s, count := s.ctc.count,
      command := s.ctc.descent.elim s.settings.curtain.release (·.u), floor := s.ctc.floor, top := s.ctc.top,
      overtravel := s.ctc.overtravel, edge := s.ctc.edge, faults := s.ctc.faults,
      record := s.ctc.descent.map (·.record), supervision := s.ctc.descent.map (·.sup),
      last := s.ctc.descent.bind (·.last), history := s.ctc.history } := by
  simp only [State.readCurtain, Ctc.command, Ctc.holding, Ctc.cause, pos]
  cases s.ctc.descent <;> rfl

theorem State.readLights_channel {s : State} {i : Nat} {x : ChannelRun} (hi : i < 12) (hx : s.hlu.channels[i]? = some x) :
    ∃ r, s.readLights.channels[i]? = some r ∧ r.cls = (s.settings.channel i).cls ∧ r.hold = (s.settings.channel i).hold ∧
      r.trim = (s.settings.channel i).trim ∧ r.curve = (s.settings.channel i).curve ∧ r.active = x.active ∧
      r.output = (if s.phase = .running ∧ (s.settings.channel i).cls = .aisle then
        max x.active (s.settings.channel i).floor else x.active) ∧
      r.code = outputCode (s.settings.channel i) r.output ∧ (x.fade = none → r.fade = none) ∧
      ∀ f, x.fade = some f → r.fade =
        some { origin := f.origin, target := f.target, elapsed := s.now - f.started, duration := f.duration } := by
  have hc : s.hlu.channel i = x := by simp [Hlu.channel, List.getD_eq_getElem?_getD, hx]
  refine ⟨s.readChannel i, by simp [State.readLights, hi], rfl, rfl, rfl, rfl, ?_, ?_, rfl, ?_, ?_⟩
  · simp only [State.readChannel, hc]
  · simp only [State.readChannel, hc]
    rfl
  · intro h
    simp only [State.readChannel, hc, h, Option.map_none]
  · intro f h
    simp only [State.readChannel, hc, h, Option.map_some]
    rfl

theorem State.readFire_zone {s : State} {z : Nat} (h1 : 1 ≤ z) (h16 : z ≤ 16) : s.readFire.zones[z - 1]? = some
    { cls := (s.settings.zone z).cls, delay := (s.settings.zone z).delay, status := s.fdu.zoneStatus z,
      expiry := s.fdu.expiry z, remaining := (s.fdu.expiry z).map fun x => (x - s.now) / 1000 } := by
  have hz : fireZones[z - 1]? = some z := by
    simp only [fireZones, List.getElem?_map, List.getElem?_range (show z - 1 < 16 by omega), Option.map_some]
    congr 1
    omega
  simp [State.readFire, hz, remainingTo, Function.comp_def]

theorem State.readDevice_isolated (s : State) (a : Nat) : (s.readDevice a).isolated = true ↔
    s.fdu.expiry (s.settings.device a).zone ≠ none ∧
      ((s.settings.device a).type = .smoke ∨ (s.settings.device a).type = .beam) := by
  simp [State.readDevice, Fdu.isolated, isolable_iff, Option.isSome_iff_ne_none]

theorem State.stepRead_reads {s : State} (ha : Admits s) :
    ∀ first count, 1 ≤ count → count ≤ 24 → first + count ≤ s.pfu.table.length →
      ∃ t xs, exec (.stepRead first count) s = .next t ∧ Only [.link, .lines, .draws] s t ∧
        Replies s .stepRead (.done (.steps xs)) [] t ∧ xs.length = count ∧
        ∀ k x, xs[k]? = some x → x.index = first + k ∧ s.pfu.table[first + k]? = some x.status ∧
          (x.status ≠ .pending → x.remaining = none) ∧
          ∀ (copy : RunningCopy) (st : Machine.Step), s.pfu.runningCopy = some copy → copy.steps[first + k]? = some st →
            x.status = .pending → x.remaining =
              if (s.pfu.perf.clocks.get st.anchor.clock).run = .running then
                some (s.pfu.perf.dueTime st - ((s.pfu.perf.clocks.get st.anchor.clock).value : Int)) else none := by
  intro first count h1 h24 ht
  obtain ⟨t, xs, hx, ho, hr, hl, hxs⟩ := stepRead_gives ha h1 h24 ht
  refine ⟨t, xs, hx, ho, hr, hl, fun k x hk => ?_⟩
  obtain ⟨rfl, hlt⟩ := hxs k x hk
  have hi : first + k < s.pfu.table.length := by omega
  exact ⟨rfl, Pfu.readStep_status hi, Pfu.readStep_settled hi, fun copy st hc hs hp => Pfu.readStep_pending hi hc hs hp⟩

theorem State.readDesk_timers (s : State) :
    (∀ x, s.dsu.key = .pressDebounce x → s.readDesk.debounceLeft = some (x - s.now) ∧ s.readDesk.longLeft = none) ∧
    (∀ k x, s.dsu.key = .held k (some x) → s.readDesk.longLeft = some (x - s.now) ∧ s.readDesk.debounceLeft = none) ∧
    (∀ x, s.dsu.key = .releaseDebounce x → s.readDesk.debounceLeft = x.map (· - s.now) ∧ s.readDesk.longLeft = none) := by
  refine ⟨fun x h => ?_, fun k x h => ?_, fun x h => ?_⟩ <;>
    simp [State.readDesk, h, KeyState.debounceTimer, KeyState.longTimer, remainingTo]

/-- Each lamp condition as DESK-READ gives it (TABLE LXIV). -/
theorem State.condition_says (s : State) (b : LampCondition) :
    (∀ p, b = .phase p → (s.condition b = true ↔ s.phase = p)) ∧
    (b = .staffAlert → (s.condition b = true ↔ ∃ u, s.fdu.fire.state = .staffAlert u)) ∧
    (b = .full → s.condition b = s.fireFull) ∧
    (b = .silenced → (s.condition b = true ↔ s.fireFull = true ∧ s.fdu.fire.silenced = true)) ∧
    (b = .curtainUp → (s.condition b = true ↔ s.ctc.state = .up)) ∧
    (b = .curtainDown → (s.condition b = true ↔ s.ctc.state = .down)) ∧
    (b = .curtainMoving →
      (s.condition b = true ↔ s.ctc.state = .raising ∨ s.ctc.state = .preDrop ∨ s.ctc.state = .descending)) ∧
    (b = .callPlaying → s.condition b = atWork s.clu.announcer) ∧
    (b = .curtainFault → (s.condition b = true ↔ s.ctc.faults ≠ [])) ∧
    (b = .curtainProven → s.condition b = s.pfu.perf.proven) ∧
    (b = .announcerFailed → s.condition b = s.clu.failed) ∧
    (b = .stepDue → s.condition b = s.pfu.stepDueSoon) ∧
    (b = .refused → s.condition b = s.dsu.refusedUntil.isSome) ∧
    (b = .none → s.condition b = false) := by
  refine ⟨?_, ?_, ?_, ?_, ?_, ?_, ?_, ?_, ?_, ?_, ?_, ?_, ?_, ?_⟩
  case refine_1 =>
    rintro p rfl
    simp [State.condition]
  case refine_2 =>
    rintro rfl
    simp only [State.condition]
    split <;> simp_all
  case refine_8 =>
    rintro rfl
    simp only [State.condition, Clu.callPlaying]
    cases s.clu.announcer <;> rfl
  all_goals
    rintro rfl
    simp [State.condition, or_assoc]

/-- Settles O59: each reading request by its decision, each reading by its definition, and DEVICE-COUNTS. -/
theorem readingChangesNothing : Obligations.ReadingChangesNothing := by
  refine ⟨fun s ha => ⟨State.reads_plain ha, sampleRead_gives ha, fun l => planRead_gives ha, State.stepRead_reads ha,
    fun ht first count => ?_, fun ht first count h => ?_, fun a h1 h64 => ?_, fun a h => ?_, fun first count hf h1 h4 => ?_,
    fun first count h => ?_, fun item h => ?_, fun item => ⟨itemOk_eq_false item, fun h => ?_⟩⟩,
    fun s => ⟨⟨rfl, s.readPerformance_remaining⟩, s.readCurtain_eq, ?_, ?_, fun a => ?_, fun first count => ?_, ?_, ?_⟩,
    fun first count s ha => ⟨fun h => ?_, fun h1 hc h32 h65 => deviceCounts_cleared ha h1 hc h32 h65⟩⟩
  · exact refuses_of_decided ha rfl (if_pos ht)
  · exact refuses_of_decided ha rfl ((if_neg ht).trans (if_pos h))
  · exact reads_of_decided ha rfl (if_neg (by omega))
  · exact refuses_of_decided ha rfl (if_pos h)
  · exact reads_of_decided ha rfl (if_neg (by omega))
  · exact refuses_of_decided ha rfl (if_pos h)
  · exact reads_of_decided ha rfl (if_pos h)
  · exact refuses_of_decided ha rfl (if_neg (by simp [h]))
  · exact ⟨rfl, rfl, rfl, rfl, by simp [State.readLights], fun i x => State.readLights_channel⟩
  · exact ⟨rfl, rfl, rfl, rfl, rfl, rfl, by simp [State.readFire, fireZones], fun z => State.readFire_zone⟩
  · refine ⟨rfl, rfl, ?_, ?_, State.readDevice_watched s a, fun k => State.readDevice_watchPlace,
      State.readDevice_isolated s a, Fdu.underWalk_iff _ _, rfl⟩ <;> simp [State.readDevice]
  · refine ⟨rfl, rfl, rfl, rfl, rfl, rfl, rfl, rfl, rfl, rfl, rfl,
      ⟨s.clu.ordered, s.clu.ordered_perm, s.clu.ordered_pairwise, s.readQueue_entries first count⟩, fun x hx => ?_⟩
    obtain ⟨e, -, rfl⟩ := List.mem_map.1 hx
    refine ⟨fun w h => ?_, fun h => ?_, fun z h => ?_⟩ <;>
      simp_all [State.readEntry, EntryState.effective]
  · obtain ⟨hp, hh, hr⟩ := s.readDesk_timers
    refine ⟨rfl, rfl, rfl, rfl, rfl, rfl, rfl, rfl, hp, hh, hr, rfl, rfl, by simp [State.readDesk], fun n b h => ?_⟩
    exact ⟨_, State.readDesk_lamp h, rfl, s.lit_iff b, s.condition_says b.condition⟩
  · refine ⟨rfl, rfl, rfl, rfl, rfl, rfl, ?_, ?_, ?_, ?_, ?_, ?_, ?_, ?_, ?_, ?_⟩
    · rintro d rfl
      rfl
    all_goals
      intro i r h
      simp [Settings.value, Settings.channel, Settings.device, Settings.zone, Settings.template, Settings.bell, Settings.limit,
        Settings.key, templateBody, List.getD_eq_getElem?_getD, h]
  · exact refuses_of_decided ha rfl (if_pos h)

end Sys2Proof.Machine
end

section
/-!
A move of the curtain where the gates are current: only CTC, its two gates and its notices change.
-/

namespace Sys2Proof.Machine

open Sys2Proof.Safety

/-! ## Current gates (R174) -/

/-- ILU's recomputation would change nothing, and no audience relay is left denied. -/
def State.Current (s : State) : Prop := s.ilu.next s.iluView = s.ilu ∧ s.ilu.deniedZones = 0

theorem Gate.next_next (now : Nat) (d : Bool) (f : List Forcing) (g : Gate) :
    (g.next now d f).next now d f = g.next now d f := by simp [Gate.next]

theorem Ilu.next_next (v : IluView) (g : Ilu) : (g.next v).next v = g.next v := by simp [Ilu.next, Gate.next_next]

/-- Where the relay does not drop and no audience relay is denied, the gates reach no other block. -/
theorem State.regate_eq_gates {s : State} (hr : s.gates.ilu.relay.line = s.ilu.relay.line)
    (hd : s.gates.ilu.deniedZones = 0) : s.regate = s.gates := by
  rw [State.regate, State.takeDrop_eq_self hr.symm, State.takeCuts_eq_self hd]

theorem hoistForcing_isEmpty (s : State) : s.iluView.hoistForcing.isEmpty = !hoistForced s := by
  cases hf : s.fireFull <;> by_cases h1 : s.phase = .stopped <;> by_cases h2 : s.phase = .evacuate <;>
    by_cases h3 : s.lmu.limitState 0 = .high <;>
    simp [IluView.hoistForcing, inForce, State.iluView, hoistForced, hf, h1, h2, h3]

theorem State.gates_hoist (s : State) : s.gates.ilu.hoist.line = (s.ctc.hoistDemand && !hoistForced s) := by
  simp [Ilu.next, hoistForcing_isEmpty]
  rfl

theorem safeForcing_isEmpty (s : State) : s.iluView.safeForcing.isEmpty = !s.forced := IluView.safeForcing_isEmpty _

/-! ## The curtain set -/

/-- CTC stands at `c` and has sent `bs`, and the gates have followed. -/
def State.curtainSet (c : Ctc) (bs : List NoticeBody) (s : State) : State := ({ s with ctc := c }.notifyAll bs).gates

section
variable (c : Ctc) (bs : List NoticeBody) (s : State)

@[simp] theorem State.curtainSet_now : (s.curtainSet c bs).now = s.now := rfl
@[simp] theorem State.curtainSet_held : (s.curtainSet c bs).held = s.held := rfl
@[simp] theorem State.curtainSet_settings : (s.curtainSet c bs).settings = s.settings := rfl
@[simp] theorem State.curtainSet_pfu : (s.curtainSet c bs).pfu = s.pfu := rfl
@[simp] theorem State.curtainSet_store : (s.curtainSet c bs).store = s.store := rfl
@[simp] theorem State.curtainSet_ctc : (s.curtainSet c bs).ctc = c := rfl
@[simp] theorem State.curtainSet_hlu : (s.curtainSet c bs).hlu = s.hlu := rfl
@[simp] theorem State.curtainSet_fdu : (s.curtainSet c bs).fdu = s.fdu := rfl
@[simp] theorem State.curtainSet_clu : (s.curtainSet c bs).clu = s.clu := rfl
@[simp] theorem State.curtainSet_lmu : (s.curtainSet c bs).lmu = s.lmu := rfl
@[simp] theorem State.curtainSet_dsu : (s.curtainSet c bs).dsu = s.dsu := rfl
@[simp] theorem State.curtainSet_lp : (s.curtainSet c bs).lp = (s.notifyAll bs).lp := rfl
@[simp] theorem State.curtainSet_pending : (s.curtainSet c bs).pending = s.pending := rfl
@[simp] theorem State.curtainSet_phase : (s.curtainSet c bs).phase = s.phase := rfl
@[simp] theorem State.curtainSet_ctcEnv : (s.curtainSet c bs).ctcEnv = s.ctcEnv := rfl
@[simp] theorem State.curtainSet_hoistForced : hoistForced (s.curtainSet c bs) = hoistForced s := rfl
@[simp] theorem State.curtainSet_forced : (s.curtainSet c bs).forced = s.forced := rfl

end

/-- Of current gates a move of the curtain changes HOIST and RELEASE alone. -/
theorem State.curtainSet_ilu {s : State} (h : s.Current) (c : Ctc) (bs : List NoticeBody) :
    (s.curtainSet c bs).ilu = { s.ilu with
      hoist := s.ilu.hoist.next s.now c.hoistDemand s.iluView.hoistForcing,
      release := s.ilu.release.next s.now c.releaseDemand s.iluView.safeForcing } :=
  calc (s.curtainSet c bs).ilu
      = { s.ilu.next s.iluView with
          hoist := s.ilu.hoist.next s.now c.hoistDemand s.iluView.hoistForcing,
          release := s.ilu.release.next s.now c.releaseDemand s.iluView.safeForcing } := rfl
    _ = _ := by rw [h.1]

theorem State.curtainSet_hoist {s : State} (h : s.Current) (c : Ctc) (bs : List NoticeBody) :
    (s.curtainSet c bs).ilu.hoist.line = (c.hoistDemand && !hoistForced s) := by
  simp [State.curtainSet_ilu h, hoistForcing_isEmpty]

theorem State.curtainSet_release {s : State} (h : s.Current) (c : Ctc) (bs : List NoticeBody) :
    (s.curtainSet c bs).ilu.release.line = (c.releaseDemand && !s.forced) := by
  simp [State.curtainSet_ilu h, safeForcing_isEmpty]

/-- A curtain that demands of its gates what it demanded before leaves them as they are. -/
theorem State.curtainSet_ilu_eq {s : State} (h : s.Current) {c : Ctc} (hh : c.hoistDemand = s.ctc.hoistDemand)
    (hr : c.releaseDemand = s.ctc.releaseDemand) (bs : List NoticeBody) : (s.curtainSet c bs).ilu = s.ilu := by
  calc (s.curtainSet c bs).ilu
      = s.ilu.next { s.iluView with hoist := c.hoistDemand, release := c.releaseDemand } := rfl
    _ = s.ilu.next s.iluView := by
        rw [hh, hr]
        rfl
    _ = s.ilu := h.1

theorem State.curtainSet_current {s : State} (h : s.Current) (c : Ctc) (bs : List NoticeBody) :
    (s.curtainSet c bs).Current := by
  refine ⟨Ilu.next_next _ _, ?_⟩
  rw [State.curtainSet_ilu h]
  exact h.2

theorem State.moveCurtain_eq {s : State} (h : s.Current) (f : CtcEnv → Ctc → CtcOut) :
    s.moveCurtain f = (s.curtainSet (f s.ctcEnv s.ctc).ctc (f s.ctcEnv s.ctc).notes, (f s.ctcEnv s.ctc).reports) := by
  unfold State.moveCurtain
  have hi := State.curtainSet_ilu h (f s.ctcEnv s.ctc).ctc (f s.ctcEnv s.ctc).notes
  rw [Prod.mk.injEq]
  exact ⟨State.regate_eq_gates (congrArg (·.relay.line) hi) ((congrArg Ilu.deniedZones hi).trans h.2), rfl⟩

theorem State.withCtc_eq {s : State} (h : s.Current) {f : CtcEnv → Ctc → CtcOut} {o : CtcOut} (ho : f s.ctcEnv s.ctc = o) :
    s.withCtc f = o.reports.foldl (fun s r => s.takeReport r) (s.curtainSet o.ctc o.notes) := by
  subst ho
  rw [State.withCtc, State.moveCurtain_eq h]

theorem State.move_eq {s : State} (h : s.Current) {f : CtcEnv → Ctc → CtcOut} {o : CtcOut} (ho : f s.ctcEnv s.ctc = o) :
    s.move f = o.reports.foldl (fun s r => s.takeArrival r) (s.curtainSet o.ctc o.notes) := by
  subst ho
  rw [State.move, State.moveCurtain_eq h]

/-! ## Reports of faults where no act runs (R14) -/

theorem State.takeReport_fault {s : State} (h : s.phase ≠ .running) (f : CurtainFault) : s.takeReport (.fault f) = s := by
  cases f <;> simp [State.takeReport, h]

theorem State.takeReports_faults {s : State} (h : s.phase ≠ .running) (fs : List CurtainFault) :
    (fs.map CtcReport.fault).foldl (fun s r => s.takeReport r) s = s := by
  induction fs with
  | nil => rfl
  | cons f fs ih => simpa [State.takeReport_fault h] using ih

/-! ## What a move of the curtain comes to -/

/-- CTC stands at `c`, its two gates and its lines have followed, and no other block has changed. -/
structure CurtainMoved (s : State) (c : Ctc) (t : State) : Prop where
  only     : Only [.curtain, .gates, .link, .lines, .draws] s t
  ctc      : t.ctc = c
  hoist    : t.ilu.hoist.line = (c.hoistDemand && !hoistForced s)
  release  : t.ilu.release.line = (c.releaseDemand && !s.forced)
  brake    : t.lines.brake = c.brake
  warning  : t.lines.warning = c.warning
  retarder : t.lines.retarder = c.command s.settings.curtain
  gates    : c.hoistDemand = s.ctc.hoistDemand → c.releaseDemand = s.ctc.releaseDemand → t.ilu = s.ilu

theorem CurtainMoved.still {s t : State} {c : Ctc} (h : CurtainMoved s c t) (hh : c.hoistDemand = s.ctc.hoistDemand)
    (hr : c.releaseDemand = s.ctc.releaseDemand) : Only [.curtain, .link, .lines, .draws] s t := by
  intro p hp
  by_cases hg : p = .gates
  · subst hg
    exact h.gates hh hr
  · exact h.only p (by simp_all)

theorem State.curtainSet_finish {s : State} (h : s.Current) (c : Ctc) (bs : List NoticeBody) :
    CurtainMoved s c (s.curtainSet c bs).finish where
  only := by
    intro p hp
    cases p <;> simp_all [Part.same]
  ctc := rfl
  hoist := State.curtainSet_hoist h c bs
  release := State.curtainSet_release h c bs
  brake := rfl
  warning := rfl
  retarder := rfl
  gates := fun hh hr => State.curtainSet_ilu_eq h hh hr bs

theorem State.curtainSet_replied {s : State} (h : s.Current) (c : Ctc) (bs : List NoticeBody) (kind : RequestKind) (d : Decision) :
    CurtainMoved s c ((s.hunting.curtainSet c bs).replied kind d) where
  only := by
    intro p hp
    cases p <;> simp_all [Part.same]
  ctc := rfl
  hoist := State.curtainSet_hoist (s := s.hunting) h c bs
  release := State.curtainSet_release (s := s.hunting) h c bs
  brake := rfl
  warning := rfl
  retarder := rfl
  gates := fun hh hr => State.curtainSet_ilu_eq (s := s.hunting) h hh hr bs

theorem State.hunting_current {s : State} (h : s.Current) : s.hunting.Current := h

/-- A change of one of CTC's inputs that reports nothing to PFU, or only faults where no act runs. -/
theorem State.ctcInput_moves {s : State} {track : Ctc → Ctc} {react : CtcEnv → Ctc → CtcOut} {c : Ctc} {bs : List NoticeBody}
    {fs : List CurtainFault} {same : Bool} (hs : same = false) (hh : s.held = none) (h : s.Current)
    (ho : react s.ctcEnv s.ctc = { ctc := c, notes := bs, reports := fs.map .fault }) (hf : fs = [] ∨ s.phase ≠ .running) :
    s.ctcInput same track react = (s.curtainSet c bs).finish := by
  rw [State.ctcInput, if_neg (by simp [hh]), if_neg (by simp [hs]), State.withCtc_eq h ho]
  rcases hf with rfl | hf
  · rfl
  · rw [State.takeReports_faults (s := s.curtainSet c bs) hf]

/-! ## What a state of the curtain demands (TABLE XXIV) -/

theorem Ctc.hoistDemand_of_state {c : Ctc} (h : c.state ≠ .raising) : c.hoistDemand = false := decide_eq_false h

end Sys2Proof.Machine

namespace Sys2Proof.Safety

open Sys2Proof.Machine

theorem CurtainOk.descent_none {c : Ctc} (h : CurtainOk c) (hs : c.state ≠ .descending) : c.descent = none := by
  cases hd : c.descent with
  | none => rfl
  | some d => exact absurd (h.descent.1 (by rw [hd]; rfl)) hs

theorem CurtainOk.descending {c : Ctc} {d : Descent} (h : CurtainOk c) (hd : c.descent = some d) : c.state = .descending :=
  h.descent.1 (by rw [hd]; rfl)

theorem CurtainOk.raise_none {c : Ctc} (h : CurtainOk c) (hs : c.state ≠ .raising) : c.raiseDeadline = none := by
  cases hd : c.raiseDeadline with
  | none => rfl
  | some d => exact absurd (h.raising (by rw [hd]; rfl)) hs

theorem CurtainOk.warn_none {c : Ctc} (h : CurtainOk c) (hs : c.state ≠ .preDrop) : c.warnDeadline = none := by
  cases hd : c.warnDeadline with
  | none => rfl
  | some d => exact absurd (h.warning (by rw [hd]; rfl)) hs

end Sys2Proof.Safety

namespace Sys2Proof.Machine

open Sys2Proof.Safety

/-! ## What CTC's operations come to -/

theorem CtcOut.andThen_of (c : Ctc) (f : Ctc → CtcOut) : (CtcOut.of c).andThen f = f c := by
  simp [CtcOut.andThen, CtcOut.of]

theorem Ctc.position_of_none {c : Ctc} (h : c.descent = none) (q : CurtainParams) : c.position q = c.count * 100 / q.counts := by
  simp [Ctc.position, Ctc.paramsUsed, h]

theorem Ctc.enter_atRest {e : CtcEnv} {c : Ctc} (h : c.descent = none) (st : CurtainState) : c.enter e st =
    { ctc := { c with state := st, raiseDeadline := none, warnDeadline := none },
      notes := [.curtainState st none (c.position e.params) e.params.release], reports := [] } := by
  simp [Ctc.enter, Ctc.stateNote, Ctc.cause, Ctc.command, Ctc.position, Ctc.paramsUsed, h]

/-- A fault reported to PFU (R50). -/
def reported (f : CurtainFault) : List CurtainFault := if f = .encoder ∨ f = .retarder ∨ f = .creep then [f] else []

theorem Ctc.arise_atRest {e : CtcEnv} {c : Ctc} (h : c.descent = none) (f : CurtainFault) : c.arise e f =
    { ctc := { c with faults := addFault f c.faults },
      notes := [.curtainFault f c.state none (c.position e.params)],
      reports := (reported f).map .fault } := by
  cases f <;> simp [Ctc.arise, Ctc.onDescent, Ctc.cause, Ctc.position, Ctc.paramsUsed, Ctc.timeOnlyNote, h, reported]

theorem Ctc.faultHeld_atRest {e : CtcEnv} {c : Ctc} (h : c.descent = none) (f : CurtainFault) : c.faultHeld e f =
    { ctc := { c with state := .held, faults := addFault f c.faults, raiseDeadline := none, warnDeadline := none },
      notes := [.curtainFault f c.state none (c.position e.params), .curtainState .held none (c.position e.params) e.params.release],
      reports := (reported f).map .fault } := by
  simp [Ctc.faultHeld, Ctc.arise_atRest h, CtcOut.andThen, Ctc.enter_atRest, h, Ctc.position, Ctc.paramsUsed]

/-- UP at a height that is not below H − 100, or with ENCODER latched. -/
theorem Ctc.enterUp_top {e : CtcEnv} {c : Ctc} (h : c.descent = none)
    (hp : e.params.travel ≤ c.position e.params + 100 ∨ c.faults.contains .encoder = true) : c.enterUp e =
    { ctc := { c with state := .up, raiseDeadline := none, warnDeadline := none },
      notes := [.curtainState .up none (c.position e.params) e.params.release], reports := [] } := by
  have hq : ∀ st, Ctc.position e.params { c with state := st, raiseDeadline := none, warnDeadline := none } =
    c.position e.params := fun _ => rfl
  rw [Ctc.enterUp, Ctc.enter_atRest h]
  simp only [CtcOut.andThen, hq]
  rw [if_neg]
  · simp [CtcOut.of]
  · rintro ⟨hl, he⟩
    rcases hp with hp | hp
    · omega
    · exact absurd (hp.symm.trans he) (by decide)

end Sys2Proof.Machine
end

section
/-!
The TOP, OVERTRAVEL and FLOOR inputs; and an arrival, as CTC records it and PFU takes it.
-/

namespace Sys2Proof.Machine

open Sys2Proof.Safety

/-! ## An arrival (R19, R60, R85) -/

/-- An arrival proves the curtain: a TEST descent under an armed plan, without a fault that bars the proof. -/
def proves (phase : Phase) (cause : DescentCause) (faults : List CurtainFault) : Bool :=
  decide (phase ≠ .dark) && decide (cause = .test) && !faults.any barsProof

/-- The curtain is proven where `b` says so. -/
def Pfu.proved (b : Bool) (f : Pfu) : Pfu := { f with perf := { f.perf with proven := f.perf.proven || b } }

theorem State.takeArrival_eq (s : State) (cause : DescentCause) (faults : List CurtainFault) (dt : Nat) :
    s.takeArrival (.arrival cause faults dt) = State.notifyAll (if proves s.phase cause faults then [.curtainProven dt] else [])
      { s with pfu := s.pfu.proved (proves s.phase cause faults) } := by
  by_cases h : s.phase ≠ .dark ∧ cause = .test ∧ faults.any barsProof = false
  · have hb : proves s.phase cause faults = true := by
      obtain ⟨h1, h2, h3⟩ := h
      simp only [proves, h1, h2, h3, ne_eq, not_false_eq_true, decide_true, Bool.not_false, Bool.and_self]
    simp only [State.takeArrival, if_pos h, hb, Pfu.proved, Bool.or_true]
    rfl
  · have hb : proves s.phase cause faults = false := by
      simp only [proves, Bool.and_eq_false_iff, decide_eq_false_iff_not, Bool.not_eq_false']
      by_contra hn
      simp only [not_or, not_not, Bool.not_eq_true] at hn
      exact h ⟨hn.1.1, hn.1.2, hn.2⟩
    simp only [State.takeArrival, if_neg h, hb, Pfu.proved, Bool.or_false]
    rfl

/-- LATE arises at an arrival (R85). -/
def Descent.arrivesLate (d : Descent) : Bool :=
  decide (d.params.maxDrop * 100 < d.sup.clock) && !d.record.faults.contains .late

/-- The record of a descent that arrives (R60, R85). -/
def Descent.arrived (d : Descent) : DescentRecord :=
  { d.record with
    faults := if d.arrivesLate then addFault .late d.record.faults else d.record.faults,
    dropTime := d.sup.clock, finalU := d.u, ending := some .arrived }

theorem Ctc.arrivalCheck_eq {e : CtcEnv} {c : Ctc} {d : Descent} (hd : c.descent = some d) :
    c.arrivalCheck e = if d.arrivesLate then c.arise e .late else CtcOut.of c := by
  simp only [Ctc.arrivalCheck, hd, Descent.arrivesLate, Bool.and_eq_true, decide_eq_true_eq, Bool.not_eq_true']

theorem Ctc.arrive_eq {e : CtcEnv} {c : Ctc} {d : Descent} (hd : c.descent = some d) :
    c.arrive e =
      { ctc := { c with
          state := .down, raiseDeadline := none, warnDeadline := none, descent := none,
          faults := if d.arrivesLate then addFault .late c.faults else c.faults,
          history := (d.arrived :: c.history).take 4 },
        notes := (if d.arrivesLate then [.curtainFault .late c.state (some d.record.cause) (c.position e.params)] else []) ++
          [.curtainState .down none (c.count * 100 / e.params.counts) e.params.release, .curtainArrival d.arrived],
        reports := [.arrival d.record.cause d.arrived.faults d.sup.clock] } := by
  rw [Ctc.arrive, Ctc.arrivalCheck_eq hd]
  cases hl : d.arrivesLate <;>
    simp [hl, hd, CtcOut.andThen, CtcOut.of, Ctc.closeDescent, Descent.closed, Ctc.enter, Ctc.stateNote, Ctc.cause,
      Ctc.position, Ctc.paramsUsed, Ctc.command, Ctc.arise, Ctc.onDescent, Descent.gain, Descent.arrived]

/-- A move of the curtain that arrives, and PFU's side of it. -/
structure CurtainArrived (s : State) (c : Ctc) (b : Bool) (t : State) : Prop where
  only     : Only [.performance, .curtain, .gates, .link, .lines, .draws] s t
  ctc      : t.ctc = c
  pfu      : t.pfu = s.pfu.proved b
  hoist    : t.ilu.hoist.line = (c.hoistDemand && !hoistForced s)
  release  : t.ilu.release.line = (c.releaseDemand && !s.forced)
  brake    : t.lines.brake = c.brake
  warning  : t.lines.warning = c.warning
  retarder : t.lines.retarder = c.command s.settings.curtain

theorem State.arrival_finish {s : State} (h : s.Current) (c : Ctc) (bs : List NoticeBody) (cause : DescentCause)
    (faults : List CurtainFault) (dt : Nat) :
    CurtainArrived s c (proves s.phase cause faults)
      ((s.curtainSet c bs).takeArrival (.arrival cause faults dt)).finish := by
  rw [State.takeArrival_eq]
  have m := State.curtainSet_finish h c bs
  refine ⟨?_, rfl, rfl, m.hoist, m.release, rfl, rfl, rfl⟩
  intro p hp
  cases p <;> simp_all [Part.same]

/-! ## TOP and OVERTRAVEL (R52, R54) -/

theorem topChange_raises {s : State} (hh : s.held = none) (h : s.Current) (ho : CurtainOk s.ctc) (ht : s.ctc.top = false)
    (hr : s.ctc.state = .raising) (hp : s.settings.curtain.travel ≤ pos s + 100) :
    exec (.topChange true) s = .next (s.curtainSet { s.ctc with top := true, state := .up, raiseDeadline := none }
      [.curtainState .up none (pos s) s.settings.curtain.release]).finish := by
  have hd := ho.descent_none (by simp [hr])
  have hw := ho.warn_none (by simp [hr])
  have hx : s.ctc.topChange s.ctcEnv true =
      { ctc := { s.ctc with top := true, state := .up, raiseDeadline := none },
        notes := [.curtainState .up none (pos s) s.settings.curtain.release],
        reports := ([] : List CurtainFault).map .fault } := by
    have hx : s.ctc.topChange s.ctcEnv true = Ctc.enterUp s.ctcEnv { s.ctc with top := true } := if_pos ⟨rfl, hr⟩
    rw [hx, Ctc.enterUp_top (c := { s.ctc with top := true }) hd (.inl hp)]
    simp only [hw]
    rfl
  exact congrArg _ (State.ctcInput_moves (decide_eq_false (by simp [ht])) hh h hx (.inl rfl))

theorem overtravelChange_holds {s : State} (hh : s.held = none) (h : s.Current) (ho : CurtainOk s.ctc)
    (ht : s.ctc.overtravel = false) (hr : s.ctc.state = .raising ∨ s.ctc.state = .up) :
    exec (.overtravelChange true) s = .next (s.curtainSet
      { s.ctc with overtravel := true, state := .held, raiseDeadline := none, faults := addFault .limit s.ctc.faults }
      [.curtainFault .limit s.ctc.state none (pos s),
        .curtainState .held none (pos s) s.settings.curtain.release]).finish := by
  have hd := ho.descent_none (by rcases hr with hr | hr <;> simp [hr])
  have hw := ho.warn_none (by rcases hr with hr | hr <;> simp [hr])
  have hx : s.ctc.overtravelChange s.ctcEnv true =
      { ctc := { s.ctc with
          overtravel := true, state := .held, raiseDeadline := none, faults := addFault .limit s.ctc.faults },
        notes := [.curtainFault .limit s.ctc.state none (pos s),
          .curtainState .held none (pos s) s.settings.curtain.release],
        reports := ([] : List CurtainFault).map .fault } := by
    have hx : s.ctc.overtravelChange s.ctcEnv true = Ctc.faultHeld s.ctcEnv .limit { s.ctc with overtravel := true } :=
      if_pos ⟨rfl, hr⟩
    rw [hx, Ctc.faultHeld_atRest (c := { s.ctc with overtravel := true }) hd]
    simp only [hw]
    rfl
  exact congrArg _ (State.ctcInput_moves (decide_eq_false (by simp [ht])) hh h hx (.inl rfl))

/-- A change of one of CTC's inputs that is only recorded. -/
theorem ctcInput_recorded {s : State} {same : Bool} {track : Ctc → Ctc} {react : CtcEnv → Ctc → CtcOut} {c : Ctc}
    (hs : same = false) (hh : s.held = none) (h : s.Current) (ho : react s.ctcEnv s.ctc = CtcOut.of c)
    (hd : c.hoistDemand = s.ctc.hoistDemand) (hr : c.releaseDemand = s.ctc.releaseDemand) :
    ∃ t, s.ctcInput same track react = t ∧ Only [.curtain, .link, .lines, .draws] s t ∧ t.ctc = c := by
  have m := State.curtainSet_finish h c []
  exact ⟨_, State.ctcInput_moves (fs := []) hs hh h ho (.inl rfl), m.still hd hr, m.ctc⟩

/-! ## FLOOR (R60, R65) -/

theorem Ctc.floorChange_arrives {e : CtcEnv} {c : Ctc} {d : Descent} (h : CurtainOk c) (hd : c.descent = some d) :
    c.floorChange e true =
      { ctc := { c with
          state := .down, floor := true, descent := none,
          faults := if d.arrivesLate then addFault .late c.faults else c.faults,
          history := (d.arrived :: c.history).take 4 },
        notes := (if d.arrivesLate then [.curtainFault .late c.state (some d.record.cause) (c.position e.params)] else []) ++
          [.curtainState .down none (c.count * 100 / e.params.counts) e.params.release, .curtainArrival d.arrived],
        reports := [.arrival d.record.cause d.arrived.faults d.sup.clock] } := by
  have hs := h.descending hd
  have hr := h.raise_none (by simp [hs])
  have hw := h.warn_none (by simp [hs])
  have hx : c.floorChange e true = Ctc.arrive e { c with floor := true } := by
    simp [Ctc.floorChange, hs]
  rw [hx, Ctc.arrive_eq (c := { c with floor := true }) hd]
  simp only [hr, hw]
  rfl

/-- A change of one of CTC's inputs that ends a descent in an arrival. -/
theorem State.ctcInput_arrives {s : State} {same : Bool} {track : Ctc → Ctc} {react : CtcEnv → Ctc → CtcOut} {c : Ctc}
    {bs : List NoticeBody} {cause : DescentCause} {faults : List CurtainFault} {dt : Nat} (hs : same = false)
    (hh : s.held = none) (h : s.Current)
    (ho : react s.ctcEnv s.ctc = { ctc := c, notes := bs, reports := [.arrival cause faults dt] }) :
    s.ctcInput same track react = ((s.curtainSet c bs).takeArrival (.arrival cause faults dt)).finish := by
  rw [State.ctcInput, if_neg (by simp [hh]), if_neg (by simp [hs]), State.withCtc_eq h ho]
  rfl

theorem floorChange_arrives {s : State} {d : Descent} (hh : s.held = none) (h : s.Current) (ho : CurtainOk s.ctc)
    (hf : s.ctc.floor = false) (hd : s.ctc.descent = some d) :
    ∃ t, exec (.floorChange true) s = .next t ∧
      CurtainArrived s { s.ctc with
          state := .down, floor := true, descent := none,
          faults := if d.arrivesLate then addFault .late s.ctc.faults else s.ctc.faults,
          history := (d.arrived :: s.ctc.history).take 4 }
        (proves s.phase d.record.cause d.arrived.faults) t := by
  have hx := Ctc.floorChange_arrives (e := s.ctcEnv) ho hd
  have he := State.ctcInput_arrives (same := decide (true = s.ctc.floor)) (track := fun c => { c with floor := true })
    (react := fun e c => c.floorChange e true) (decide_eq_false (by simp [hf])) hh h hx
  exact ⟨_, congrArg Host.Outcome.next he, State.arrival_finish h _ _ _ _ _⟩

theorem floorChange_down {s : State} (hh : s.held = none) (h : s.Current) (ho : CurtainOk s.ctc)
    (hf : s.ctc.floor = false) (hs : s.ctc.state = .held) :
    exec (.floorChange true) s = .next (s.curtainSet { s.ctc with floor := true, state := .down }
      [.curtainState .down none (pos s) s.settings.curtain.release]).finish := by
  have hd := ho.descent_none (by simp [hs])
  have hr := ho.raise_none (by simp [hs])
  have hw := ho.warn_none (by simp [hs])
  have hx : s.ctc.floorChange s.ctcEnv true =
      { ctc := { s.ctc with floor := true, state := .down },
        notes := [.curtainState .down none (pos s) s.settings.curtain.release],
        reports := ([] : List CurtainFault).map .fault } := by
    have hx : s.ctc.floorChange s.ctcEnv true = Ctc.enter s.ctcEnv .down { s.ctc with floor := true } := by
      simp [Ctc.floorChange, hs]
    rw [hx, Ctc.enter_atRest (c := { s.ctc with floor := true }) hd]
    simp only [hr, hw]
    rfl
  exact congrArg _ (State.ctcInput_moves (decide_eq_false (by simp [hf])) hh h hx (.inl rfl))

/-- Settles O31: each change of an input either moves the curtain, ends its descent, or is recorded. -/
theorem limitInputs : Obligations.LimitInputs := by
  refine ⟨fun s hh hg ho => ?_, fun s hh hg ho => ?_⟩
  all_goals have h : s.Current := hg hh
  · refine ⟨fun ht hr hp => ?_, fun b hb hr => ?_, fun ht hr => ?_, fun b hb hr => ?_⟩
    · have m := State.curtainSet_finish h { s.ctc with top := true, state := .up, raiseDeadline := none }
        [.curtainState .up none (pos s) s.settings.curtain.release]
      exact ⟨_, topChange_raises hh h ho ht hr hp, m.only, rfl, by rw [m.hoist]; rfl, State.finish_sends rfl⟩
    · obtain ⟨t, he, hk⟩ := ctcInput_recorded (same := decide (b = s.ctc.top)) (track := fun c => { c with top := b })
        (react := fun e c => c.topChange e b) (c := { s.ctc with top := b }) (decide_eq_false fun hc => hb hc.symm) hh h
        (if_neg fun hc => hr.elim (fun hr => by simp [hr] at hc) fun hr => hr hc.2) rfl rfl
      exact ⟨t, congrArg _ he, hk⟩
    · have m := State.curtainSet_finish h
        { s.ctc with overtravel := true, state := .held, raiseDeadline := none, faults := addFault .limit s.ctc.faults }
        [.curtainFault .limit s.ctc.state none (pos s), .curtainState .held none (pos s) s.settings.curtain.release]
      exact ⟨_, overtravelChange_holds hh h ho ht hr, m.only, rfl, rfl, by rw [m.hoist]; rfl, State.finish_sends rfl⟩
    · obtain ⟨t, he, hk⟩ := ctcInput_recorded (same := decide (b = s.ctc.overtravel))
        (track := fun c => { c with overtravel := b }) (react := fun e c => c.overtravelChange e b)
        (c := { s.ctc with overtravel := b }) (decide_eq_false fun hc => hb hc.symm) hh h
        (if_neg fun hc => hr.elim (fun hr => by simp [hr] at hc) fun hr => hc.2.elim hr.1 hr.2) rfl rfl
      exact ⟨t, congrArg _ he, hk⟩
  · refine ⟨fun d hf hd => ?_, fun hf hs => ?_, fun hf h1 h2 => ?_, fun hf => ?_⟩
    · obtain ⟨t, he, m⟩ := floorChange_arrives hh h ho hf hd
      refine ⟨t, he, m.only, m.ctc, m.pfu, ?_, ?_, ?_, ?_⟩
      · rw [m.release]
        rfl
      · rw [m.brake]
        rfl
      · rw [m.warning]
        rfl
      · rw [m.retarder]
        rfl
    · have m := State.curtainSet_finish h { s.ctc with floor := true, state := .down }
        [.curtainState .down none (pos s) s.settings.curtain.release]
      exact ⟨_, floorChange_down hh h ho hf hs, m.only, rfl, rfl, by rw [m.release]; rfl, State.finish_sends rfl⟩
    · obtain ⟨t, he, hk⟩ := ctcInput_recorded (same := decide (true = s.ctc.floor)) (track := fun c => { c with floor := true })
        (react := fun e c => c.floorChange e true) (c := { s.ctc with floor := true }) (decide_eq_false (by simp [hf])) hh h
        (by cases hs : s.ctc.state <;> simp_all [Ctc.floorChange]) rfl rfl
      exact ⟨t, congrArg _ he, hk⟩
    · obtain ⟨t, he, hk⟩ := ctcInput_recorded (same := decide (false = s.ctc.floor)) (track := fun c => { c with floor := false })
        (react := fun e c => c.floorChange e false) (c := Ctc.followFloor s.ctcEnv { s.ctc with floor := false })
        (decide_eq_false (by simp [hf])) hh h rfl rfl rfl
      refine ⟨t, congrArg _ he, hk.1, hk.2.trans ?_⟩
      simp only [Ctc.followFloor, Ctc.onDescent, and_true]
      rfl

end Sys2Proof.Machine
end

section
/-!
The start of a descent, the show stop as the curtain observes it, and the entry to STOPPED.
-/

namespace Sys2Proof.Machine

open Sys2Proof.Safety

/-! ## The start of a descent (R57, R86) -/

/-- The descent that a start of a cause opens, with the hold it takes at once where it finds EDGE operated. -/
def Ctc.opened (e : CtcEnv) (cause : DescentCause) (c : Ctc) : Descent :=
  let pos := c.count * 100 / e.params.counts
  let d : Descent :=
    { record := .opened cause e.now pos, params := e.params, sup := .atStart pos (c.faults.contains .encoder),
      u := e.params.release, hold := none, floorTimer := if pos ≤ 20 ∧ c.floor = false then some 0 else none, last := none }
  if c.edge && cause.holdable then d.beginHold e else d

/-- What a start of a descent sends. -/
def Ctc.openedNotes (e : CtcEnv) (cause : DescentCause) (c : Ctc) : List NoticeBody :=
  .curtainState .descending (some cause) (c.count * 100 / e.params.counts) e.params.release ::
    if c.edge && cause.holdable then [.curtainHold .begun] else []

section
variable (e : CtcEnv) (cause : DescentCause) (c : Ctc)

theorem Ctc.opened_cause : (c.opened e cause).record.cause = cause := by
  unfold Ctc.opened
  split <;> rfl

theorem Ctc.opened_u : (c.opened e cause).u = e.params.release := by
  unfold Ctc.opened
  split <;> rfl

theorem Ctc.opened_params : (c.opened e cause).params = e.params := by
  unfold Ctc.opened
  split <;> rfl

theorem Ctc.opened_clock : (c.opened e cause).sup.clock = 0 := by
  unfold Ctc.opened
  split <;> rfl

theorem Ctc.opened_faults : (c.opened e cause).record.faults = [] := by
  unfold Ctc.opened
  split <;> rfl

theorem Ctc.opened_startCause : (c.opened e cause).record.startCause = cause := by
  unfold Ctc.opened
  split <;> rfl

theorem Ctc.opened_startPos : (c.opened e cause).record.startPos = c.count * 100 / e.params.counts := by
  unfold Ctc.opened
  split <;> rfl

theorem Ctc.opened_windowNo : (c.opened e cause).sup.windowNo = 0 := by
  unfold Ctc.opened
  split <;> rfl

theorem Ctc.opened_prevPos : (c.opened e cause).sup.prevPos = c.count * 100 / e.params.counts := by
  unfold Ctc.opened
  split <;> rfl

theorem Ctc.opened_timeOnly : (c.opened e cause).sup.timeOnly = c.faults.contains .encoder := by
  unfold Ctc.opened
  split <;> rfl

theorem Ctc.opened_hold (h : (c.edge && cause.holdable) = false) : (c.opened e cause).hold = none := by
  simp [Ctc.opened, h]

theorem Ctc.opened_arrivesLate : (c.opened e cause).arrivesLate = false := by
  simp [Descent.arrivesLate, Ctc.opened_clock]

theorem Ctc.opened_arrived : (c.opened e cause).arrived =
    { (c.opened e cause).record with finalU := e.params.release, dropTime := 0, ending := some .arrived } := by
  simp [Descent.arrived, Ctc.opened_arrivesLate, Ctc.opened_clock, Ctc.opened_u]

theorem Ctc.openDescent_eq : c.openDescent e cause =
    { ctc := { c with state := .descending, raiseDeadline := none, warnDeadline := none, descent := some (c.opened e cause) },
      notes := c.openedNotes e cause, reports := [] } := by
  have hn : Ctc.stateNote e.params { c with state := .descending, raiseDeadline := none, warnDeadline := none,
                                            descent := some (c.opened e cause) } =
      .curtainState .descending (some cause) (c.count * 100 / e.params.counts) e.params.release := by
    simp only [Ctc.stateNote, Ctc.cause, Ctc.position, Ctc.paramsUsed, Ctc.command, Option.map_some, Ctc.opened_cause,
      Ctc.opened_params, Ctc.opened_u]
  unfold Ctc.openedNotes
  rw [← hn]
  rfl

variable {e cause c}

theorem Ctc.startDescent_open (h : c.floor = false) : c.startDescent e cause =
    { ctc := { c with state := .descending, raiseDeadline := none, warnDeadline := none, descent := some (c.opened e cause) },
      notes := c.openedNotes e cause, reports := [] } := by
  rw [Ctc.startDescent, Ctc.openDescent_eq]
  simp [CtcOut.andThen, Ctc.arriveAtStart, h, CtcOut.of]

theorem Ctc.startDescent_floor (h : c.floor = true) : c.startDescent e cause =
    { ctc := { c with state := .down, raiseDeadline := none, warnDeadline := none, descent := none,
                      history := ((c.opened e cause).arrived :: c.history).take 4 },
      notes := c.openedNotes e cause ++ [.curtainState .down none (c.count * 100 / e.params.counts) e.params.release,
        .curtainArrival (c.opened e cause).arrived],
      reports := [.arrival cause [] 0] } := by
  rw [Ctc.startDescent, Ctc.openDescent_eq]
  simp only [CtcOut.andThen, Ctc.arriveAtStart, h, if_true]
  rw [Ctc.arrive_eq (d := c.opened e cause) rfl]
  simp [Ctc.opened_arrivesLate, Ctc.opened_cause, Ctc.opened_clock, Ctc.opened_arrived, Ctc.opened_faults]

end

/-! ## What CTC's operations keep, and which arrivals they report -/

/-- The count stands, every fault stays latched, and no arrival of a TEST descent is reported. -/
structure Ctc.Stops (c : Ctc) (o : CtcOut) : Prop where
  count   : o.ctc.count = c.count
  faults  : ∀ f, c.faults.contains f = true → o.ctc.faults.contains f = true
  reports : ∀ r ∈ o.reports, ∀ faults dt, r ≠ .arrival .test faults dt

theorem addFault_contains (f g : CurtainFault) (fs : List CurtainFault) :
    (addFault f fs).contains g = true ↔ g = f ∨ fs.contains g = true := by
  have hall : g ∈ CurtainFault.all := by cases g <;> decide
  simp [addFault, hall]

theorem Ctc.Stops.andThen {c : Ctc} {o : CtcOut} {f : Ctc → CtcOut} (h : c.Stops o) (k : ∀ d, Ctc.Stops d (f d)) :
    c.Stops (o.andThen f) where
  count := (k o.ctc).count.trans h.count
  faults g hg := (k o.ctc).faults g (h.faults g hg)
  reports r hr := (List.mem_append.1 hr).elim (h.reports r) ((k o.ctc).reports r)

theorem Ctc.stops_of (c : Ctc) : c.Stops (CtcOut.of c) := ⟨rfl, fun _ h => h, fun _ h => nomatch h⟩

theorem Ctc.enter_stops (e : CtcEnv) (st : CurtainState) (c : Ctc) : c.Stops (c.enter e st) :=
  ⟨rfl, fun _ h => h, fun _ h => nomatch h⟩

theorem Ctc.arise_stops (e : CtcEnv) (f : CurtainFault) (c : Ctc) : c.Stops (c.arise e f) where
  count := by
    unfold Ctc.arise
    dsimp only
    split <;> rfl
  faults g hg := by
    have hf : (c.arise e f).ctc.faults = addFault f c.faults := by
      unfold Ctc.arise
      dsimp only
      split <;> rfl
    rw [hf]
    exact (addFault_contains f g c.faults).2 (.inr hg)
  reports r hr := by
    unfold Ctc.arise at hr
    dsimp only at hr
    split at hr
    · rintro fs dt rfl
      simp at hr
    · cases hr

theorem Ctc.startDescent_stops (e : CtcEnv) {cause : DescentCause} (h : cause ≠ .test) (c : Ctc) :
    c.Stops (c.startDescent e cause) := by
  cases hf : c.floor
  · rw [Ctc.startDescent_open hf]
    exact ⟨rfl, fun _ h => h, fun _ h => nomatch h⟩
  · rw [Ctc.startDescent_floor hf]
    refine ⟨rfl, fun _ h => h, fun r hr fs dt hc => ?_⟩
    rw [List.mem_singleton.1 hr] at hc
    exact h (by injection hc)

theorem Ctc.endWarning_stops (e : CtcEnv) (c : Ctc) : c.Stops (c.endWarning e) := by
  unfold Ctc.endWarning
  split
  · exact (c.arise_stops e .obstructed).andThen (Ctc.enter_stops e .held)
  · exact c.startDescent_stops e (by decide)

theorem Ctc.enterPreDrop_stops (e : CtcEnv) (c : Ctc) : c.Stops (c.enterPreDrop e) := by
  unfold Ctc.enterPreDrop
  have h := (c.enter_stops e .preDrop).andThen (f := fun c =>
    CtcOut.of { c with warnDeadline := some (e.now + e.params.warning * 1000) })
    fun d => ⟨rfl, fun _ h => h, fun _ h => nomatch h⟩
  dsimp only
  split
  · exact h.andThen (Ctc.endWarning_stops e)
  · exact h

theorem Ctc.raiseDenied_stops (e : CtcEnv) (c : Ctc) : c.Stops (c.raiseDenied e) := by
  have ho : c.Stops (if e.overload then c.arise e .hoistOverload else CtcOut.of c) := by
    split
    · exact c.arise_stops e _
    · exact c.stops_of
  unfold Ctc.raiseDenied
  dsimp only
  split
  · exact ho.andThen fun d => d.startDescent_stops e (by decide)
  · split
    · exact ho.andThen (Ctc.enterPreDrop_stops e)
    · split
      · exact (c.arise_stops e _).andThen (Ctc.enter_stops e .held)
      · exact c.stops_of

theorem Ctc.onStopped_stops (e : CtcEnv) (c : Ctc) : c.Stops (c.onStopped e) := by
  unfold Ctc.onStopped
  split
  · exact c.enterPreDrop_stops e
  · exact c.enterPreDrop_stops e
  · exact c.raiseDenied_stops e
  · split
    · exact ⟨rfl, fun _ h => h, fun _ h => nomatch h⟩
    · exact ⟨rfl, fun _ h => h, fun _ h => nomatch h⟩
    · exact c.stops_of
  · exact c.stops_of
  · exact c.stops_of

theorem State.takeArrival_not_test {s : State} {r : CtcReport} (h : ∀ faults dt, r ≠ .arrival .test faults dt) :
    s.takeArrival r = s := by
  cases r with
  | fault f => rfl
  | arrival cause faults dt =>
    refine if_neg ?_
    rintro ⟨-, rfl, -⟩
    exact h faults dt rfl

theorem State.takeArrivals_not_test {rs : List CtcReport} (h : ∀ r ∈ rs, ∀ faults dt, r ≠ .arrival .test faults dt) (s : State) :
    rs.foldl (fun s r => s.takeArrival r) s = s := by
  induction rs with
  | nil => rfl
  | cons r rs ih =>
    rw [List.foldl_cons, State.takeArrival_not_test (h r (.head _))]
    exact ih fun q hq => h q (.tail _ hq)

/-! ## Gates while no phase bars the audience (R168, R174) -/

theorem State.Current.relayCurrent {s : State} (h : s.Current) : RelayCurrent s := by
  rw [RelayCurrent, ← s.gates_relay]
  exact congrArg (·.relay.line) h.1.symm

theorem State.gates_undenied {s : State} (h : s.phase ≠ .running) : s.gates.ilu.deniedZones = 0 := by
  have hf : s.iluView.audienceForcing = [] := by simp [IluView.audienceForcing, inForce, State.iluView, h]
  simp [Ilu.deniedZones, Ilu.next, hf]

/-- Outside RUNNING, with the relay as its demand and the forcing conditions give it, the gates reach no other block. -/
theorem State.regate_unbarred {s : State} (hr : RelayCurrent s) (hp : s.phase ≠ .running) : s.regate = s.gates :=
  State.regate_eq_gates (s.gates_relay.trans hr.symm) (State.gates_undenied hp)

theorem State.move_unbarred {s : State} (hr : RelayCurrent s) (hp : s.phase ≠ .running) {f : CtcEnv → Ctc → CtcOut}
    (ho : s.ctc.Stops (f s.ctcEnv s.ctc)) :
    s.move f = s.curtainSet (f s.ctcEnv s.ctc).ctc (f s.ctcEnv s.ctc).notes := by
  have hm : (s.moveCurtain f).1 = s.curtainSet (f s.ctcEnv s.ctc).ctc (f s.ctcEnv s.ctc).notes :=
    State.regate_unbarred (s := State.notifyAll (f s.ctcEnv s.ctc).notes { s with ctc := (f s.ctcEnv s.ctc).ctc }) hr hp
  rw [State.move, hm]
  exact State.takeArrivals_not_test ho.reports _

/-! ## The entry to STOPPED (R11, R12, R58, R98) -/

/-- What CTC observes at the entry to STOPPED. -/
def State.stoppedEnv (s : State) : CtcEnv := { s.ctcEnv with stopped := true }

/-- The stop call as CLU decides it (R12): none where its template number is 255. -/
def State.stopCall (s : State) : CluOut × CallOutcome :=
  if s.settings.stopTemplate = 255 then (CluOut.of s.clu, .absent)
  else
    let r := s.clu.decideCall s.now .stopped .safety (s.settings.template s.settings.stopTemplate)
    (r.1, r.2.outcome)

/-- The PHASE notice of the entry to STOPPED. -/
def State.stopNote (src : Source) (s : State) : NoticeBody :=
  (s.pfu.perf.showStop src s.now).phaseNote (.request .showStop src) (some s.stopCall.2)

/-- What the entry to STOPPED comes to. -/
structure EntersStopped (src : Source) (s t : State) : Prop where
  untouched : Untouched s t
  ctc   : t.ctc = (s.ctc.onStopped s.stoppedEnv).ctc
  pfu   : t.pfu = (s.pfu.setPerf (s.pfu.perf.showStop src s.now)).refresh
  clu   : t.clu = s.stopCall.1.clu
  lp    : t.lp = (s.notifyAll (s.stopCall.1.notes ++ s.stopNote src :: (s.ctc.onStopped s.stoppedEnv).notes)).lp
  hlu   : t.hlu = if s.ilu.relay.line then s.hlu.toFull s.now s.settings.lightTimes.stopFade .stopFade else s.hlu
  hoist : t.ilu.hoist.line = false

/-- The state after the stop call and the PHASE notice. -/
def State.stopTold (src : Source) (s : State) : State :=
  let r := (s.stopRecord src).announce s.settings.stopTemplate id
  r.1.notify (r.1.pfu.perf.phaseNote (.request .showStop src) (some r.2))

theorem State.stopTold_spec (src : Source) {s : State} (h : s.Current) (hp : stopPhase s.phase = true) :
    let u := s.stopTold src
    RelayCurrent u ∧ u.pfu = (s.stopRecord src).pfu ∧ u.ctc = s.ctc ∧ u.ctcEnv = s.stoppedEnv ∧ u.clu = s.stopCall.1.clu ∧
      u.lp = (s.notifyAll (s.stopCall.1.notes ++ [s.stopNote src])).lp ∧ u.hlu = s.hlu ∧ u.now = s.now ∧
      u.settings = s.settings := by
  have hfor : (s.stopRecord src).forced = s.forced := by
    have hne : s.phase ≠ .evacuate := by rintro he; simp [he, stopPhase] at hp
    simp only [State.forced, hne]
    rfl
  have hrel : RelayCurrent (s.stopRecord src) := by
    rw [RelayCurrent, hfor]
    exact h.relayCurrent
  have henv : (s.stopRecord src).ctcEnv = s.stoppedEnv := by
    simp only [State.ctcEnv, State.stoppedEnv, hfor]
    rfl
  by_cases ht : s.settings.stopTemplate = 255
  · have hc : s.stopCall = (CluOut.of s.clu, .absent) := if_pos ht
    have ha : (s.stopRecord src).announce s.settings.stopTemplate id = (s.stopRecord src, .absent) := if_pos ht
    simp only [State.stopTold, State.stopNote, ha, hc]
    exact ⟨hrel, rfl, rfl, henv, rfl, rfl, rfl, rfl, rfl⟩
  · have hc : s.stopCall = _ := if_neg ht
    have hreg := State.regate_unbarred
      (s := (s.stopRecord src).putClu (s.clu.decideCall s.now .stopped .safety (s.settings.template s.settings.stopTemplate)).1)
      hrel (by decide : Phase.stopped ≠ .running)
    have ha : (s.stopRecord src).announce s.settings.stopTemplate id =
        (((s.stopRecord src).putClu
            (s.clu.decideCall s.now .stopped .safety (s.settings.template s.settings.stopTemplate)).1).gates,
          (s.clu.decideCall s.now .stopped .safety (s.settings.template s.settings.stopTemplate)).2.outcome) := by
      rw [State.announce, if_neg ht]
      exact congrArg (·, _) hreg
    simp only [State.stopTold, State.stopNote, ha, hc]
    refine ⟨State.gates_relayCurrent _, rfl, rfl, henv, rfl, ?_, rfl, rfl, rfl⟩
    rw [← State.notifyAll_append]
    rfl

/-- The state after the curtain has met the entry to STOPPED. -/
def State.stopMoved (src : Source) (s : State) : State :=
  (s.stopTold src).curtainSet (s.ctc.onStopped s.stoppedEnv).ctc (s.ctc.onStopped s.stoppedEnv).notes

theorem State.enterStopped_eq (src : Source) {s : State} (h : s.Current) (hp : stopPhase s.phase = true) :
    s.enterStopped src = (s.stopMoved src).stopFade := by
  obtain ⟨hrel, hpfu, hctc, henv, -⟩ := State.stopTold_spec src h hp
  have hph : (s.stopTold src).phase = .stopped := congrArg (·.perf.phase) hpfu
  have hmove : (s.stopTold src).move (fun e c => c.onStopped e) = s.stopMoved src := by
    rw [State.move_unbarred hrel (by simp [hph]) (Ctc.onStopped_stops _ _), hctc, henv]
    rfl
  exact congrArg State.stopFade hmove

theorem State.enterStopped_untouched (src : Source) (s : State) : Untouched s (s.enterStopped src) :=
  Untouched.trans (t := s.stopRecord src) ⟨rfl, rfl, rfl, rfl, rfl, rfl, rfl, rfl, rfl, id⟩
    ((((State.announce_kept _ _ (s.stopRecord src)).trans (State.notify_kept _ _)).trans (State.move_kept _ _)).trans
      (State.stopFade_kept _)).untouched

theorem State.enterStopped_enters (src : Source) {s : State} (h : s.Current) (hp : stopPhase s.phase = true) :
    EntersStopped src s (s.enterStopped src) := by
  obtain ⟨-, hpfu, -, henv, hclu, hlp, hhlu, hnow, hset⟩ := State.stopTold_spec src h hp
  have hline : (s.stopMoved src).ilu.relay.line = s.ilu.relay.line := by
    have hf : (s.stopTold src).forced = s.forced := congrArg CtcEnv.forced henv
    refine (State.gates_relay _).trans ?_
    rw [h.relayCurrent, ← hf, ← hhlu]
    rfl
  have hph : (s.stopTold src).phase = .stopped := congrArg (·.perf.phase) hpfu
  have hforced : hoistForced (s.stopTold src) = true := by simp [hoistForced, hph]
  have hhoist : (s.stopMoved src).ilu.hoist.line = false := by
    exact (State.gates_hoist _).trans ((congrArg (fun b => _ && !b) hforced).trans (Bool.and_false _))
  have hlp' : (s.stopMoved src).lp =
      (s.notifyAll (s.stopCall.1.notes ++ s.stopNote src :: (s.ctc.onStopped s.stoppedEnv).notes)).lp := by
    rw [List.append_cons, ← State.notifyAll_append]
    simp only [State.stopMoved, State.curtainSet_lp, State.notifyAll, hlp, hnow]
  have hkept := s.enterStopped_untouched src
  rw [State.enterStopped_eq src h hp] at hkept ⊢
  unfold State.stopFade at hkept ⊢
  cases hl : s.ilu.relay.line
  · have ho : (s.stopMoved src).override = true := by rw [State.override, hline, hl]; rfl
    rw [if_pos ho] at hkept ⊢
    exact ⟨hkept, rfl, hpfu, hclu, hlp', by rw [hl]; exact hhlu, hhoist⟩
  · have ho : (s.stopMoved src).override = false := by rw [State.override, hline, hl]; rfl
    rw [if_neg (by simp [ho])] at hkept ⊢
    refine ⟨hkept, rfl, hpfu, hclu, hlp', ?_, hhoist⟩
    rw [hl, if_pos rfl]
    simp only [State.stopMoved, State.curtainSet_hlu, State.curtainSet_now, State.curtainSet_settings, hhlu, hnow, hset]

end Sys2Proof.Machine
end

section
/-!
SHOW-STOP: how each state of the curtain meets it, and the record, the announcement and the lights.
-/

namespace Sys2Proof.Machine

open Sys2Proof.Safety

/-! ## PRE-DROP (R58, R59) -/

theorem Ctc.enterPreDrop_warns {e : CtcEnv} {c : Ctc} (h : c.descent = none) (hw : e.params.warning ≠ 0) :
    c.enterPreDrop e =
      { ctc := { c with state := .preDrop, raiseDeadline := none, warnDeadline := some (e.now + e.params.warning * 1000) },
        notes := [.curtainState .preDrop none (c.position e.params) e.params.release], reports := [] } := by
  simp [Ctc.enterPreDrop, hw, Ctc.enter_atRest h, CtcOut.andThen, CtcOut.of]

/-- The curtain at the end of a stop warning of 0 s. -/
def Ctc.warned (e : CtcEnv) (c : Ctc) : Ctc :=
  { c with state := .preDrop, raiseDeadline := none, warnDeadline := some (e.now + e.params.warning * 1000) }

theorem Ctc.enterPreDrop_atOnce {e : CtcEnv} {c : Ctc} (h : c.descent = none) (hw : e.params.warning = 0) :
    c.enterPreDrop e = CtcOut.andThen
      { ctc := c.warned e, notes := [.curtainState .preDrop none (c.position e.params) e.params.release], reports := [] }
      (Ctc.endWarning e) := by
  simp [Ctc.enterPreDrop, hw, Ctc.enter_atRest h, CtcOut.andThen, CtcOut.of, Ctc.warned]

theorem Ctc.endWarning_obstructed {e : CtcEnv} {c : Ctc} (he : c.edge = true) :
    c.endWarning e = c.faultHeld e .obstructed := if_pos he

theorem Ctc.endWarning_descends {e : CtcEnv} {c : Ctc} (he : c.edge = false) : c.endWarning e = c.startDescent e .stop :=
  if_neg (by simp [he])

/-- A curtain that a show stop brings to PRE-DROP, with what it records of a hoist overload (R53). -/
def Ctc.overloaded (e : CtcEnv) (c : Ctc) : CtcOut :=
  if decide (c.state = .raising) && e.overload then c.arise e .hoistOverload else CtcOut.of c

theorem Ctc.onStopped_drops {e : CtcEnv} {c : Ctc} (hs : e.stopped = true)
    (h : c.state = .up ∨ c.state = .held ∨ (c.state = .raising ∧ e.forced = false)) :
    c.onStopped e = (c.overloaded e).andThen (Ctc.enterPreDrop e) := by
  rcases h with h | h | ⟨h, hf⟩
  · simp [Ctc.onStopped, Ctc.overloaded, h, CtcOut.andThen_of]
  · simp [Ctc.onStopped, Ctc.overloaded, h, CtcOut.andThen_of]
  · simp [Ctc.onStopped, Ctc.overloaded, Ctc.raiseDenied, h, hf, hs]

theorem Ctc.onStopped_changes {e : CtcEnv} {c : Ctc} {d : Descent} (h : CurtainOk c) (hd : c.descent = some d)
    (hc : d.record.cause = .test ∨ d.record.cause = .request) :
    c.onStopped e =
      { ctc := { c with descent := some { d with record := { d.record with cause := .stop } } },
        notes := [.curtainState .descending (some .stop) (c.position e.params) d.u], reports := [] } := by
  have hs := h.descending hd
  rcases hc with hc | hc <;>
    simp [Ctc.onStopped, hs, Ctc.cause, hd, hc, Ctc.changeCause, Ctc.onDescent, Ctc.stateNote, Ctc.command, Ctc.position,
      Ctc.paramsUsed]

theorem Ctc.onStopped_stays {e : CtcEnv} {c : Ctc} (h : CurtainOk c)
    (hc : c.state = .down ∨ c.state = .preDrop ∨ c.cause = some .stop ∨ c.cause = some .emergency ∨ c.cause = some .reset) :
    c.onStopped e = CtcOut.of c := by
  have hdesc {x : DescentCause} (hx : c.cause = some x) : c.state = .descending := by
    cases hd : c.descent with
    | none => simp [Ctc.cause, hd] at hx
    | some d => exact h.descending hd
  rcases hc with hc | hc | hc | hc | hc
  · simp [Ctc.onStopped, hc]
  · simp [Ctc.onStopped, hc]
  all_goals simp [Ctc.onStopped, hdesc hc, hc]

/-! ## A curtain at rest or RAISING meets a show stop -/

/-- The faults of a curtain that meets a show stop (R53). -/
def Ctc.stopFaults (e : CtcEnv) (c : Ctc) : List CurtainFault :=
  if decide (c.state = .raising) && e.overload then addFault .hoistOverload c.faults else c.faults

/-- What a curtain that a show stop brings to PRE-DROP sends first. -/
def Ctc.stopEntry (e : CtcEnv) (c : Ctc) : List NoticeBody :=
  (if decide (c.state = .raising) && e.overload then
    [.curtainFault .hoistOverload .raising none (c.position e.params)] else []) ++
    [.curtainState .preDrop none (c.position e.params) e.params.release]

theorem Ctc.overloaded_eq {e : CtcEnv} {c : Ctc} (h : c.descent = none) : c.overloaded e =
    { ctc := { c with faults := c.stopFaults e },
      notes := if decide (c.state = .raising) && e.overload then
        [.curtainFault .hoistOverload .raising none (c.position e.params)] else [],
      reports := [] } := by
  unfold Ctc.overloaded Ctc.stopFaults
  cases hb : (decide (c.state = .raising) && e.overload)
  · simp [CtcOut.of]
  · have hr : c.state = .raising := of_decide_eq_true (Bool.and_eq_true_iff.1 hb).1
    simp [Ctc.arise_atRest h, hr, reported]

/-- What a show stop makes of a curtain UP, HELD or RAISING. -/
theorem Ctc.onStopped_preDrop {e : CtcEnv} {c : Ctc} (h : c.descent = none) (hs : e.stopped = true)
    (hst : c.state = .up ∨ c.state = .held ∨ (c.state = .raising ∧ e.forced = false)) :
    (e.params.warning ≠ 0 → c.onStopped e =
      { ctc := { c with state := .preDrop, faults := c.stopFaults e, raiseDeadline := none,
                        warnDeadline := some (e.now + e.params.warning * 1000) },
        notes := c.stopEntry e, reports := [] }) ∧
    (e.params.warning = 0 → c.onStopped e = CtcOut.andThen
      { ctc := Ctc.warned e { c with faults := c.stopFaults e }, notes := c.stopEntry e, reports := [] } (Ctc.endWarning e)) := by
  rw [Ctc.onStopped_drops hs hst, Ctc.overloaded_eq h]
  refine ⟨fun hw => ?_, fun hw => ?_⟩
  · simp only [CtcOut.andThen]
    rw [Ctc.enterPreDrop_warns (c := { c with faults := c.stopFaults e }) h hw]
    rfl
  · simp only [CtcOut.andThen]
    rw [Ctc.enterPreDrop_atOnce (c := { c with faults := c.stopFaults e }) h hw]
    simp only [CtcOut.andThen, Ctc.stopEntry, List.append_assoc, List.nil_append]
    rfl

/-! ## The request -/

theorem stopPhase_iff (p : Phase) :
    stopPhase p = true ↔ p = .houseOpen ∨ p = .running ∨ p = .interval ∨ p = .resuming := by
  cases p <;> simp [stopPhase]

theorem State.decideShowStop_eq {s : State} (src : Source) (h : stopPhase s.phase = true) :
    s.decideShowStop src = (s.enterStopped src, .done (s.enterStopped src).phaseBody) := if_pos h

theorem State.decideShowStop_refused {s : State} (src : Source) (h : stopPhase s.phase = false) :
    s.decideShowStop src = (s, .refused .wrongPhase .none) := if_neg (by simp [h])

/-- A channel after a fade to full has started (R94, R98). -/
theorem Hlu.toFull_channels (now time : Nat) (origin : FadeOrigin) {u : Hlu} {i : Nat} {r : ChannelRun}
    (hr : u.channels[i]? = some r) :
    (u.toFull now time origin).channels[i]? = some
      (if time = 0 then { active := 1000, fade := none }
       else { r with fade := some { start := r.active, target := 1000, started := now, duration := time * 100, origin,
                                    evals := 0 } }) := by
  simp [Hlu.toFull, Hlu.start, hr, ChannelRun.start]

theorem State.enterStopped_phaseBody {src : Source} {s t : State} (k : EntersStopped src s t) :
    t.phaseBody = .phase .stopped s.pfu.perf.act s.pfu.perf.intervalNo := by
  simp only [State.phaseBody, State.phase, k.pfu]
  rfl

/-! ## A stop warning of 0 s (R59) -/

theorem CtcOut.andThen_mk (c : Ctc) (bs : List NoticeBody) (rs : List CtcReport) (f : Ctc → CtcOut) :
    CtcOut.andThen { ctc := c, notes := bs, reports := rs } f =
      { ctc := (f c).ctc, notes := bs ++ (f c).notes, reports := rs ++ (f c).reports } := rfl

/-- A curtain that a show stop has brought to PRE-DROP. -/
def Ctc.dropping (e : CtcEnv) (c : Ctc) : Ctc := Ctc.warned e { c with faults := c.stopFaults e }

/-- The descent that a show stop starts at once. -/
def Ctc.stopDescent (e : CtcEnv) (c : Ctc) : Descent := (c.dropping e).opened e .stop

theorem Ctc.stopDescent_notes {e : CtcEnv} {c : Ctc} (h : c.descent = none) : (c.dropping e).openedNotes e .stop =
    [.curtainState .descending (some .stop) (c.position e.params) e.params.release] := by
  rw [Ctc.openedNotes, Ctc.position_of_none h]
  simp only [DescentCause.holdable, Bool.and_false]
  rfl

/-- The descent that a show stop starts at once (R57). -/
theorem Ctc.stopDescent_starts {e : CtcEnv} {c : Ctc} (h : c.descent = none) :
    let d := c.stopDescent e
    d.record.startCause = .stop ∧ d.record.cause = .stop ∧ d.record.startPos = c.position e.params ∧ d.params = e.params ∧
      d.u = e.params.release ∧ d.hold = none ∧ d.sup.clock = 0 ∧ d.sup.prevPos = c.position e.params ∧
      d.sup.timeOnly = (c.stopFaults e).contains .encoder := by
  rw [Ctc.position_of_none h]
  exact ⟨Ctc.opened_startCause e .stop (c.dropping e), Ctc.opened_cause e .stop (c.dropping e),
    Ctc.opened_startPos e .stop (c.dropping e), Ctc.opened_params e .stop (c.dropping e), Ctc.opened_u e .stop (c.dropping e),
    Ctc.opened_hold e .stop (c.dropping e) (Bool.and_false _), Ctc.opened_clock e .stop (c.dropping e),
    Ctc.opened_prevPos e .stop (c.dropping e), Ctc.opened_timeOnly e .stop (c.dropping e)⟩

theorem Ctc.stopDescent_arrived {e : CtcEnv} {c : Ctc} (h : c.descent = none) :
    let r := (c.stopDescent e).arrived
    r.startCause = .stop ∧ r.cause = .stop ∧ r.startPos = c.position e.params ∧ r.dropTime = 0 ∧ r.ending = some .arrived := by
  intro r
  have hr : r = _ := Ctc.opened_arrived e .stop (c.dropping e)
  obtain ⟨h1, h2, h3, -⟩ := Ctc.stopDescent_starts (e := e) h
  rw [hr]
  exact ⟨h1, h2, h3, rfl, rfl⟩

section
variable {e : CtcEnv} {c : Ctc} (h : c.descent = none) (hs : e.stopped = true)
  (hst : c.state = .up ∨ c.state = .held ∨ (c.state = .raising ∧ e.forced = false)) (hw : e.params.warning = 0)
include h hs hst hw

theorem Ctc.onStopped_atOnce : c.onStopped e = CtcOut.andThen
    { ctc := c.dropping e, notes := c.stopEntry e, reports := [] } (Ctc.endWarning e) := (Ctc.onStopped_preDrop h hs hst).2 hw

theorem Ctc.onStopped_obstructed (he : c.edge = true) : c.onStopped e =
    { ctc := { c with state := .held, faults := addFault .obstructed (c.stopFaults e), raiseDeadline := none,
                      warnDeadline := none },
      notes := c.stopEntry e ++ [.curtainFault .obstructed .preDrop none (c.position e.params),
        .curtainState .held none (c.position e.params) e.params.release],
      reports := [] } := by
  have hx : (c.dropping e).endWarning e = _ :=
    (Ctc.endWarning_obstructed (c := c.dropping e) he).trans (Ctc.faultHeld_atRest (c := c.dropping e) h .obstructed)
  rw [Ctc.onStopped_atOnce h hs hst hw, CtcOut.andThen_mk, hx]
  rfl

theorem Ctc.onStopped_descends (he : c.edge = false) (hf : c.floor = false) : c.onStopped e =
    { ctc := { c with state := .descending, faults := c.stopFaults e, raiseDeadline := none, warnDeadline := none,
                      descent := some (c.stopDescent e) },
      notes := c.stopEntry e ++ [.curtainState .descending (some .stop) (c.position e.params) e.params.release],
      reports := [] } := by
  have hx : (c.dropping e).endWarning e = _ :=
    (Ctc.endWarning_descends (c := c.dropping e) he).trans (Ctc.startDescent_open (c := c.dropping e) hf)
  rw [Ctc.onStopped_atOnce h hs hst hw, CtcOut.andThen_mk, hx, Ctc.stopDescent_notes h]
  rfl

theorem Ctc.onStopped_arrives (he : c.edge = false) (hf : c.floor = true) : c.onStopped e =
    { ctc := { c with state := .down, faults := c.stopFaults e, raiseDeadline := none, warnDeadline := none,
                      history := ((c.stopDescent e).arrived :: c.history).take 4 },
      notes := c.stopEntry e ++ [.curtainState .descending (some .stop) (c.position e.params) e.params.release,
        .curtainState .down none (c.position e.params) e.params.release, .curtainArrival (c.stopDescent e).arrived],
      reports := [.arrival .stop [] 0] } := by
  have hx : (c.dropping e).endWarning e = _ :=
    (Ctc.endWarning_descends (c := c.dropping e) he).trans (Ctc.startDescent_floor (c := c.dropping e) hf)
  rw [Ctc.onStopped_atOnce h hs hst hw, CtcOut.andThen_mk, hx, Ctc.stopDescent_notes h, Ctc.position_of_none h]
  simp only [h]
  rfl

end

theorem Perf.showStop_eq (now : Nat) {p : Perf} (h : stopPhase p.phase = true) : p.showStop .link now = { p with
    phase := .stopped, stopCause := .link, stops := min 15 (p.stops + 1), entry := now,
    resume := some (if p.phase = .houseOpen then .houseOpen else if p.phase = .interval then .interval else .resuming),
    clocks := p.clocks.map fun k => if k.run = .running then { k with run := .paused } else k } := by
  have hr : some (match p.phase with
      | .houseOpen => ResumePhase.houseOpen
      | .interval => .interval
      | _ => .resuming) =
      some (if p.phase = .houseOpen then .houseOpen else if p.phase = .interval then .interval else .resuming) := by
    cases hp : p.phase <;> simp_all [stopPhase]
  rw [← hr]
  rfl

/-- Settles O21: the entry to STOPPED, and how each state of the curtain meets it. -/
theorem showStopStopsTheShow : Obligations.ShowStopStopsTheShow := by
  intro s ha hg ho hph call phaseNote q overload faults entry
  have h : s.Current := hg ha.released
  have hp : stopPhase s.phase = true := (stopPhase_iff _).2 hph
  have hne : s.phase ≠ .evacuate := by
    rintro he
    simp [he, stopPhase] at hp
  have hf : s.stoppedEnv.forced = s.fireFull := by
    simp [State.stoppedEnv, State.ctcEnv, State.forced, hne]
  have k := State.enterStopped_enters .link (State.hunting_current h) hp
  have hd := State.decideShowStop_eq (s := s.hunting) .link hp
  rw [State.enterStopped_phaseBody k] at hd
  generalize s.hunting.enterStopped .link = u at k hd
  have hreply : ∀ bs, s.stopCall.1.notes ++ s.stopNote .link :: (s.ctc.onStopped s.stoppedEnv).notes = bs →
      Replies s .showStop (.done (.phase .stopped s.pfu.perf.act s.pfu.perf.intervalNo)) bs
        (u.replied .showStop
          (.done (.phase .stopped s.pfu.perf.act s.pfu.perf.intervalNo))) := by
    rintro bs rfl
    exact State.replied_replies k.lp _ _
  have hnote : s.stopNote .link = phaseNote s.stopCall.2 := rfl
  have hhunt : s.hunting.stopCall = s.stopCall := rfl
  have hpfu := k.pfu
  have hctc : u.ctc = (s.ctc.onStopped s.stoppedEnv).ctc := k.ctc
  have hrest {t : State} (hh : t.hlu = u.hlu) :
      (s.ilu.relay.line = true → t.hlu = { s.hlu with channels := t.hlu.channels } ∧
        ∀ (i : Nat) (r : ChannelRun), s.hlu.channels[i]? = some r → t.hlu.channels[i]? = some
          (if s.settings.lightTimes.stopFade = 0 then { active := 1000, fade := none }
           else { r with
             fade := some { start := r.active, target := 1000, started := s.now,
                            duration := s.settings.lightTimes.stopFade * 100, origin := .stopFade, evals := 0 } })) ∧
      (s.ilu.relay.line = false → t.hlu = s.hlu) := by
    rw [hh, k.hlu]
    refine ⟨fun hl => ?_, fun hl => if_neg (by simp [hl])⟩
    rw [show s.hunting.ilu.relay.line = true from hl, if_pos rfl]
    exact ⟨rfl, fun i r hr => Hlu.toFull_channels _ _ _ hr⟩
  obtain ⟨hl1, hl2⟩ := hrest (t := u.replied .showStop
    (.done (.phase .stopped s.pfu.perf.act s.pfu.perf.intervalNo))) rfl
  refine ⟨_, (s.ctc.onStopped s.stoppedEnv).notes, exec_of_decided ha rfl hd,
    (s.hunting_untouched.trans k.untouched).replied _ _, ?_, ?_, ?_, ?_, ?_, ?_, ?_, ?_, hl1, hl2, k.hoist⟩
  · rw [State.replied_pfu, hpfu]
    exact (Perf.showStop_eq s.now hp) ▸ RecordIs.refl _
  · rw [State.replied_pfu, hpfu]
    rfl
  · rw [State.replied_pfu, hpfu]
    rfl
  · intro h255
    have hc : s.stopCall = (CluOut.of s.clu, .absent) := if_pos h255
    refine ⟨k.clu.trans (by rw [hhunt, hc]; rfl), hreply _ ?_⟩
    rw [hnote, hc]
    rfl
  · intro h255
    have hc : s.stopCall = (call.1, call.2.outcome) := if_neg h255
    refine ⟨k.clu.trans (by rw [hhunt, hc]), hreply _ ?_⟩
    rw [hnote, hc]
  · intro hst
    have hdn : s.ctc.descent = none :=
      ho.descent_none (by rcases hst with hst | hst | ⟨hst, -⟩ <;> rw [hst] <;> decide)
    have hst' : s.ctc.state = .up ∨ s.ctc.state = .held ∨ (s.ctc.state = .raising ∧ s.stoppedEnv.forced = false) := by
      rwa [hf]
    refine ⟨fun hw => ?_, fun hw => ⟨fun he => ?_, fun he hf => ?_, fun he hf => ?_⟩⟩
    · have hx := (Ctc.onStopped_preDrop (e := s.stoppedEnv) hdn rfl hst').1 hw
      exact ⟨congrArg CtcOut.notes hx, hctc.trans (congrArg CtcOut.ctc hx)⟩
    · have hx := Ctc.onStopped_obstructed (e := s.stoppedEnv) hdn rfl hst' hw he
      exact ⟨congrArg CtcOut.notes hx, hctc.trans (congrArg CtcOut.ctc hx)⟩
    · have hx := Ctc.onStopped_descends (e := s.stoppedEnv) hdn rfl hst' hw he hf
      have hdd := (congrArg Ctc.descent hctc).trans (congrArg (·.ctc.descent) hx)
      refine ⟨congrArg CtcOut.notes hx, s.ctc.stopDescent s.stoppedEnv, hdd, ?_, ?_⟩
      · rw [State.replied_ctc, hctc, hx]
        rfl
      · exact Ctc.stopDescent_starts (e := s.stoppedEnv) hdn
    · have hx := Ctc.onStopped_arrives (e := s.stoppedEnv) hdn rfl hst' hw he hf
      refine ⟨(s.ctc.stopDescent s.stoppedEnv).arrived, congrArg CtcOut.notes hx, ?_, ?_⟩
      · rw [State.replied_ctc, hctc, hx]
        rfl
      · exact Ctc.stopDescent_arrived (e := s.stoppedEnv) hdn
  · intro d hdd hc
    have hx := Ctc.onStopped_changes (e := s.stoppedEnv) ho hdd hc
    exact ⟨congrArg CtcOut.notes hx, hctc.trans (congrArg CtcOut.ctc hx)⟩
  · intro hc
    have hx := Ctc.onStopped_stays (e := s.stoppedEnv) ho hc
    exact ⟨congrArg CtcOut.notes hx, hctc.trans (congrArg CtcOut.ctc hx)⟩

end Sys2Proof.Machine
end

section
/-!
CURTAIN-HALT and CURTAIN-CLEAR.
-/

namespace Sys2Proof.Machine

open Sys2Proof.Safety

/-! ## A report that stops the show (R14) -/

/-- A fault whose arising in RUNNING brings a show stop. -/
def stopsShow (f : CurtainFault) : Bool := f = .encoder || f = .retarder

theorem State.takeReport_running {s : State} {f : CurtainFault} (hf : stopsShow f = true) (hp : s.phase = .running) :
    s.takeReport (.fault f) = s.enterStopped .safety := by
  have hst : stopPhase s.phase = true := by rw [hp]; rfl
  have hx : (s.decideShowStop .safety).1 = s.enterStopped .safety := by rw [State.decideShowStop_eq .safety hst]
  cases f <;> simp_all [State.takeReport, stopsShow]

/-- The record after a show stop of the curtain's in RUNNING (R11, R14). -/
structure StoppedByCurtain (s t : State) : Prop where
  phase  : t.phase = .stopped
  cause  : t.pfu.perf.stopCause = .curtain
  resume : t.pfu.perf.resume = some .resuming
  count  : t.ctc.count = s.ctc.count
  faults : ∀ f, s.ctc.faults.contains f = true → t.ctc.faults.contains f = true
  kept   : Untouched s t
  told   : ∃ cs, t.lp = (s.notifyAll cs).lp

theorem State.enterStopped_byCurtain {s : State} (h : s.Current) (hp : s.phase = .running) :
    StoppedByCurtain s (s.enterStopped .safety) := by
  have hst : stopPhase s.phase = true := by rw [hp]; rfl
  have k := State.enterStopped_enters .safety h hst
  have hs := Ctc.onStopped_stops s.stoppedEnv s.ctc
  have hr : (s.pfu.perf.showStop .safety s.now).resume = some .resuming := by
    have hp' : s.pfu.perf.phase = .running := hp
    simp only [Perf.showStop, hp']
  generalize s.enterStopped .safety = u at k
  refine ⟨?_, ?_, ?_, ?_, fun f hf => ?_, k.untouched, _, k.lp⟩
  · rw [State.phase, k.pfu]
    rfl
  · rw [k.pfu]
    rfl
  · rw [k.pfu]
    exact hr
  · rw [k.ctc]
    exact hs.count
  · rw [k.ctc]
    exact hs.faults f hf

/-- An operation of CTC in RUNNING that reports a fault which stops the show, with what it reports after it. -/
theorem State.withCtc_stops {s : State} (h : s.Current) (hp : s.phase = .running) {f : CtcEnv → Ctc → CtcOut} {c : Ctc}
    {bs : List NoticeBody} {g : CurtainFault} {fs : List CurtainFault} (hg : stopsShow g = true)
    (ho : f s.ctcEnv s.ctc = { ctc := c, notes := bs, reports := (g :: fs).map .fault }) :
    StoppedByCurtain (s.curtainSet c bs) (s.withCtc f) := by
  have k := State.enterStopped_byCurtain (State.curtainSet_current h c bs) hp
  rw [State.withCtc_eq h ho]
  show StoppedByCurtain _ ((fs.map .fault).foldl (fun s r => s.takeReport r) ((s.curtainSet c bs).takeReport (.fault g)))
  rw [State.takeReport_running (s := s.curtainSet c bs) hg hp, State.takeReports_faults (by rw [k.phase]; decide)]
  exact k

/-- An operation of CTC that reports nothing, or only faults where no act runs. -/
theorem State.withCtc_moves {s : State} (h : s.Current) {f : CtcEnv → Ctc → CtcOut} {c : Ctc} {bs : List NoticeBody}
    {fs : List CurtainFault} (ho : f s.ctcEnv s.ctc = { ctc := c, notes := bs, reports := fs.map .fault })
    (hf : fs = [] ∨ s.phase ≠ .running) : s.withCtc f = s.curtainSet c bs := by
  rw [State.withCtc_eq h ho]
  rcases hf with rfl | hf
  · rfl
  · exact State.takeReports_faults (s := s.curtainSet c bs) hf _

theorem State.curtainSet_told (c : Ctc) (bs cs : List NoticeBody) (s : State) :
    ((s.curtainSet c bs).notifyAll cs).lp = (s.notifyAll (bs ++ cs)).lp := by
  rw [← State.notifyAll_append]
  rfl

/-! ## CURTAIN-HALT (R61) -/

theorem State.decideHalt_raising {s : State} (h : s.Current) (ho : CurtainOk s.ctc) (hr : s.ctc.state = .raising) :
    s.decideHalt = (s.curtainSet { s.ctc with state := .held, raiseDeadline := none }
      [.curtainState .held none (pos s) s.settings.curtain.release], .done .empty) := by
  have hd := ho.descent_none (by simp [hr])
  have hw := ho.warn_none (by simp [hr])
  have hx : s.ctc.enter s.ctcEnv .held =
      { ctc := { s.ctc with state := .held, raiseDeadline := none },
        notes := [.curtainState .held none (pos s) s.settings.curtain.release],
        reports := ([] : List CurtainFault).map .fault } := by
    rw [Ctc.enter_atRest hd]
    simp only [hw]
    rfl
  simp only [State.decideHalt, hr]
  rw [State.withCtc_moves (f := fun e c => c.enter e .held) h hx (.inl rfl)]

theorem Ctc.halt_eq {e : CtcEnv} {c : Ctc} {d : Descent} (ho : CurtainOk c) (hd : c.descent = some d) :
    (c.closeDescent .halted).enter e .held =
      { ctc := { c with state := .held, descent := none, history := (d.closed .halted :: c.history).take 4 },
        notes := [.curtainState .held none (c.count * 100 / e.params.counts) e.params.release],
        reports := ([] : List CurtainFault).map .fault } := by
  have hs := ho.descending hd
  have hr := ho.raise_none (by simp [hs])
  have hw := ho.warn_none (by simp [hs])
  have hc : c.closeDescent .halted = { c with descent := none, history := (d.closed .halted :: c.history).take 4 } := by
    simp only [Ctc.closeDescent, hd]
  rw [hc, Ctc.enter_atRest (c := { c with descent := none, history := (d.closed .halted :: c.history).take 4 }) rfl]
  simp only [hr, hw]
  rfl

theorem Ctc.haltable_iff {e : CtcEnv} {c : Ctc} {d : Descent} (hd : c.descent = some d) :
    c.haltable e = true ↔ (d.record.cause = .test ∨ d.record.cause = .request) ∧ d.params.slowZone < c.position e.params ∧
      c.faults.contains .encoder = false := by
  simp only [Ctc.haltable, hd, Bool.and_eq_true, Bool.or_eq_true, decide_eq_true_eq, Bool.not_eq_true', and_assoc]

theorem State.decideHalt_descending {s : State} {d : Descent} (h : s.Current) (ho : CurtainOk s.ctc)
    (hd : s.ctc.descent = some d) (hh : s.ctc.haltable s.ctcEnv = true) :
    s.decideHalt = (s.curtainSet
      { s.ctc with state := .held, descent := none, history := (d.closed .halted :: s.ctc.history).take 4 }
      [.curtainState .held none (s.ctc.count * 100 / s.settings.curtain.counts) s.settings.curtain.release],
      .done .empty) := by
  simp only [State.decideHalt, ho.descending hd, hh, if_true]
  rw [State.withCtc_moves (f := fun e c => (c.closeDescent .halted).enter e .held) h (Ctc.halt_eq ho hd) (.inl rfl)]
  rfl

theorem State.decideHalt_refused {s : State} (ho : CurtainOk s.ctc)
    (h : ∀ d, s.ctc.descent = some d → s.ctc.haltable s.ctcEnv = false) (hr : s.ctc.state ≠ .raising) :
    s.decideHalt = (s, .refused .wrongState .none) := by
  unfold State.decideHalt
  cases hs : s.ctc.state <;> simp_all
  · obtain ⟨d, hd⟩ := Option.isSome_iff_exists.1 (ho.descent.2 hs)
    simp [h d hd]

/-! ## CURTAIN-CLEAR (R67) -/

/-- The faults found again at a CURTAIN-CLEAR, in the order of their table. -/
def foundAgain (encoder limit retarder : Bool) : List CurtainFault :=
  (if encoder then [.encoder] else []) ++ (if limit then [.limit] else []) ++ (if retarder then [.retarder] else [])

/-- Those of them that are reported to PFU. -/
def reportedAgain (encoder retarder : Bool) : List CurtainFault :=
  (if encoder then [.encoder] else []) ++ (if retarder then [.retarder] else [])

theorem CtcOut.andThen_eq {o : CtcOut} {f : Ctc → CtcOut} {c d : Ctc} {bs cs : List NoticeBody} {rs qs : List CtcReport}
    (ho : o = { ctc := c, notes := bs, reports := rs }) (hf : f c = { ctc := d, notes := cs, reports := qs }) :
    o.andThen f = { ctc := d, notes := bs ++ cs, reports := rs ++ qs } := by
  rw [ho, CtcOut.andThen_mk, hf]

/-- A fault found again, where its condition stands. -/
def Ctc.again (e : CtcEnv) (b : Bool) (f : CurtainFault) (c : Ctc) : CtcOut := if b then c.arise e f else CtcOut.of c

theorem Ctc.again_eq {c : Ctc} (h : c.descent = none) (e : CtcEnv) (b : Bool) (f : CurtainFault) : c.again e b f =
    { ctc := { c with faults := if b then addFault f c.faults else c.faults },
      notes := if b then [.curtainFault f c.state none (c.position e.params)] else [],
      reports := (if b then reported f else []).map .fault } := by
  unfold Ctc.again
  cases b
  · rfl
  · exact Ctc.arise_atRest h f

theorem foundAgain_eq (a l r : Bool) :
    (if l then addFault .limit (if r then addFault .retarder (if a then addFault .encoder [] else [])
        else (if a then addFault .encoder [] else []))
      else (if r then addFault .retarder (if a then addFault .encoder [] else [])
        else (if a then addFault .encoder [] else []))) = foundAgain a l r := by
  revert a l r
  decide

theorem reportedAgain_eq (a l r : Bool) :
    (((if a then reported .encoder else []) ++ (if r then reported .retarder else [])) ++
      (if l then reported .limit else [])) = reportedAgain a r := by
  revert a l r
  decide

theorem Ctc.clearFaults_eq {e : CtcEnv} {c : Ctc} (hd : c.descent = none) (low : Bool) :
    let above := decide (e.params.travel + 200 < c.position e.params)
    ∃ bs, c.clearFaults e low =
      { ctc := { c with faults := foundAgain above c.overtravel low, aboveLimit := above },
        notes := bs, reports := (reportedAgain above low).map .fault } := by
  intro above
  have hx : c.clearFaults e low = (((CtcOut.of { c with faults := [], aboveLimit := above }).andThen
      (Ctc.again e above .encoder)).andThen (Ctc.again e low .retarder)).andThen
      fun c => Ctc.again e c.overtravel .limit c := rfl
  have h1 := CtcOut.andThen_eq (f := Ctc.again e above .encoder) (o := CtcOut.of { c with faults := [], aboveLimit := above })
    rfl (Ctc.again_eq (c := { c with faults := [], aboveLimit := above }) hd e above .encoder)
  have h2 := CtcOut.andThen_eq (f := Ctc.again e low .retarder) h1 (Ctc.again_eq (by exact hd) e low .retarder)
  have h3 := CtcOut.andThen_eq (f := fun c => Ctc.again e c.overtravel .limit c) h2
    (Ctc.again_eq (by exact hd) e c.overtravel .limit)
  have h := hx.trans h3
  have hc : (c.clearFaults e low).ctc = { c with faults := foundAgain above c.overtravel low, aboveLimit := above } := by
    rw [h, ← foundAgain_eq]
  have hr : (c.clearFaults e low).reports = (reportedAgain above low).map .fault := by
    rw [h, ← reportedAgain_eq above c.overtravel low]
    simp only [List.map_append, List.nil_append]
  exact ⟨(c.clearFaults e low).notes, by rw [← hc, ← hr]⟩

/-- The faults that CURTAIN-CLEAR finds again (R67). -/
def State.foundAgain (s : State) : List CurtainFault :=
  Machine.foundAgain (decide (s.settings.curtain.travel + 200 < pos s)) s.ctc.overtravel (decide (s.lmu.limitState 1 = .low))

/-- The curtain cleared. -/
def State.cleared (s : State) : Ctc :=
  { s.ctc with faults := s.foundAgain, aboveLimit := decide (s.settings.curtain.travel + 200 < pos s) }

theorem State.decideClear_eq {s : State} (ho : CurtainOk s.ctc)
    (hs : s.ctc.state = .down ∨ s.ctc.state = .up ∨ s.ctc.state = .held) :
    ∃ o bs,
      o = { ctc := s.cleared, notes := bs,
            reports := (reportedAgain (decide (s.settings.curtain.travel + 200 < pos s))
              (decide (s.lmu.limitState 1 = .low))).map CtcReport.fault } ∧
      s.decideClear = (s.withCtc fun _ _ => o, .done (.faults s.foundAgain)) := by
  have hd : s.ctc.descent = none := ho.descent_none (by rcases hs with hs | hs | hs <;> rw [hs] <;> decide)
  obtain ⟨bs, hx⟩ := Ctc.clearFaults_eq (e := s.ctcEnv) hd (decide (s.lmu.limitState 1 = .low))
  refine ⟨_, bs, hx, ?_⟩
  have hf : (s.ctc.clearFaults s.ctcEnv (decide (s.lmu.limitState 1 = .low))).ctc.faults = s.foundAgain := by
    rw [hx]
    rfl
  rw [← hf]
  rcases hs with hs | hs | hs <;> simp only [State.decideClear, hs]

theorem foundAgain_harmless {a l r : Bool} (h : foundAgain a l r = [] ∨ foundAgain a l r = [.limit]) :
    reportedAgain a r = [] := by
  revert h
  cases a <;> cases l <;> cases r <;> simp [foundAgain, reportedAgain]

theorem foundAgain_stops {a l r : Bool}
    (h : (foundAgain a l r).contains .encoder = true ∨ (foundAgain a l r).contains .retarder = true) :
    ∃ g fs, reportedAgain a r = g :: fs ∧ stopsShow g = true := by
  revert h
  cases a <;> cases l <;> cases r <;> simp [foundAgain, reportedAgain, stopsShow]

/-- CURTAIN-CLEAR: the reply and the notices, whatever comes of the faults found again. -/
theorem State.withCtc_told {s : State} (h : s.Current) {o : CtcOut} {fs : List CurtainFault} (hr : o.reports = fs.map .fault)
    (hs : s.phase = .running → fs = [] ∨ ∃ g gs, fs = g :: gs ∧ stopsShow g = true) :
    ∃ cs, (s.withCtc fun _ _ => o).lp = (s.notifyAll cs).lp := by
  have ho : o = { ctc := o.ctc, notes := o.notes, reports := fs.map .fault } := by rw [← hr]
  by_cases hp : s.phase = .running
  · rcases hs hp with rfl | ⟨g, gs, rfl, hg⟩
    · exact ⟨o.notes, by rw [State.withCtc_moves (f := fun _ _ => o) h ho (.inl rfl)]; rfl⟩
    · obtain ⟨cs, hc⟩ := (State.withCtc_stops (f := fun _ _ => o) h hp hg ho).told
      exact ⟨o.notes ++ cs, by rw [hc, State.curtainSet_told]⟩
  · exact ⟨o.notes, by rw [State.withCtc_moves (f := fun _ _ => o) h ho (.inr hp)]; rfl⟩

theorem reportedAgain_stops (a r : Bool) : reportedAgain a r = [] ∨ ∃ g gs, reportedAgain a r = g :: gs ∧ stopsShow g = true := by
  cases a <;> cases r <;> simp [reportedAgain, stopsShow]

/-- Settles O29: CURTAIN-HALT and CURTAIN-CLEAR by the state of the curtain. -/
theorem curtainHaltAndClear : Obligations.CurtainHaltAndClear := by
  refine ⟨fun s ha hg ho => ⟨fun hr => ?_, fun d hd => ⟨fun hh => ?_, fun hh => ?_⟩, fun hs => ?_⟩, fun s ha hg ho => ?_⟩
  all_goals have h : s.Current := hg ha.released
  · have hd := State.decideHalt_raising (s := s.hunting) h ho hr
    have m := State.curtainSet_replied h { s.ctc with state := .held, raiseDeadline := none }
      [.curtainState .held none (pos s) s.settings.curtain.release] .curtainHalt (.done .empty)
    exact ⟨_, exec_of_decided ha rfl hd, m.only, rfl, rfl, m.hoist, State.replied_replies rfl _ _⟩
  · have hx := State.decideHalt_descending (s := s.hunting) h ho hd ((Ctc.haltable_iff hd).2 hh)
    have m := State.curtainSet_replied h
      { s.ctc with state := .held, descent := none, history := (d.closed .halted :: s.ctc.history).take 4 }
      [.curtainState .held none (s.ctc.count * 100 / s.settings.curtain.counts) s.settings.curtain.release]
      .curtainHalt (.done .empty)
    exact ⟨_, exec_of_decided ha rfl hx, m.only, rfl, rfl, State.replied_replies rfl _ _⟩
  · have hn : s.ctc.haltable s.ctcEnv = false := by
      rw [← Bool.not_eq_true, Ctc.haltable_iff hd]
      rintro ⟨hc, hp, he⟩
      have hp' : d.params.slowZone < pos s := hp
      rcases hh with hh | hh | hh | hh | hh
      · rw [hh] at hc
        exact absurd hc (by decide)
      · rw [hh] at hc
        exact absurd hc (by decide)
      · rw [hh] at hc
        exact absurd hc (by decide)
      · omega
      · exact absurd (hh.symm.trans he) (by decide)
    refine refuses_of_decided ha rfl (State.decideHalt_refused (s := s.hunting) ho (fun _ _ => hn) ?_)
    show s.ctc.state ≠ .raising
    rw [ho.descending hd]
    decide
  · refine refuses_of_decided ha rfl (State.decideHalt_refused (s := s.hunting) ho (fun d hd => ?_) ?_)
    · have hds := ho.descending hd
      rcases hs with hs | hs | hs | hs <;> rw [hs] at hds <;> cases hds
    · show s.ctc.state ≠ .raising
      rcases hs with hs | hs | hs | hs <;> rw [hs] <;> decide
  · intro fs
    have hfs : fs = s.foundAgain := by
      simp only [fs, State.foundAgain, foundAgain, decide_eq_true_eq]
    clear_value fs
    subst hfs
    refine ⟨fun hs => ?_, fun hs => ?_⟩
    · obtain ⟨o, bs, hoe, hd⟩ := State.decideClear_eq (s := s.hunting) ho hs
      have hx := exec_of_decided (c := .curtainClear) ha rfl hd
      refine ⟨_, hx, ?_, fun hp => ?_, fun hp hf => ?_⟩
      · obtain ⟨cs, hc⟩ := State.withCtc_told (o := o) (State.hunting_current h) (by rw [hoe])
          fun _ => reportedAgain_stops _ _
        exact ⟨cs, State.replied_replies hc _ _⟩
      · have hne : reportedAgain (decide (s.settings.curtain.travel + 200 < pos s)) (decide (s.lmu.limitState 1 = .low)) = [] ∨
            s.phase ≠ .running := hp.elim .inr fun hf => .inl (foundAgain_harmless hf)
        rw [State.withCtc_moves (s := s.hunting) (f := fun _ _ => o) h hoe hne]
        have m := State.curtainSet_replied h s.cleared bs .curtainClear (.done (.faults s.foundAgain))
        exact ⟨m.still rfl rfl, rfl⟩
      · obtain ⟨g, gs, hr, hgs⟩ := foundAgain_stops hf
        have hoe' : o = { ctc := s.hunting.cleared, notes := bs, reports := (g :: gs).map .fault } := by
          rw [hoe, ← hr]
          rfl
        have k := State.withCtc_stops (s := s.hunting) (f := fun _ _ => o) h hp hgs hoe'
        exact ⟨k.phase, k.cause, k.resume⟩
    · refine refuses_of_decided ha rfl ?_
      rcases hs with hs | hs | hs <;> simp [State.decideClear, hs]

end Sys2Proof.Machine
end

section
/-!
A change of the encoder count, by the state of the curtain and its height.
-/

namespace Sys2Proof.Machine

open Sys2Proof.Safety

/-! ## The command (R46, R52) -/

theorem encoderCountChange_next {n : Nat} {s : State} (hh : s.held = none) (hn : n < 65536) (hne : n ≠ s.ctc.count)
    (hr : s.ctc.topRace s.settings.curtain n = false) :
    exec (.encoderCountChange n) s = .next (s.withCtc fun e c => c.encoderChange e false n).finish := by
  refine congrArg Host.Outcome.next ?_
  have hx : s.encoderInput n = s.ctcInput (decide (n = s.ctc.count)) (fun c => { c with count := n })
      fun e c => c.encoderChange e false n := if_neg (by simp [hr])
  rw [Nat.mod_eq_of_lt hn, hx, State.ctcInput, if_neg (by simp [hh]), if_neg (by simp [hne])]

/-- Where two events come at one moment, their order is free. -/
theorem encoderCountChange_race {n : Nat} {s : State} (hh : s.held = none) (hn : n < 65536) (hne : n ≠ s.ctc.count)
    (hr : s.ctc.topRace s.settings.curtain n = true) :
    exec (.encoderCountChange n) s =
      .next (s.drawn.withCtc fun e c => c.encoderChange e (Config.freeBit s.free) n).finish := by
  refine congrArg Host.Outcome.next ?_
  have hx : s.encoderInput n = s.drawn.ctcInput (decide (n = s.ctc.count)) (fun c => { c with count := n })
      fun e c => c.encoderChange e (Config.freeBit s.free) n := if_pos ⟨by rw [hh]; rfl, hne, hr⟩
  rw [Nat.mod_eq_of_lt hn, hx, State.ctcInput, if_neg (by simp [hh]), if_neg (by simp [hne])]

/-! ## What a change of the count comes to in CTC -/

/-- The curtain at a new count. -/
def Ctc.counted (n : Nat) (above : Bool) (c : Ctc) : Ctc := { c with count := n, aboveLimit := above }

section
variable {e : CtcEnv} {c : Ctc} {n : Nat}

theorem Ctc.encoderTest_below (h : n * 100 / (c.paramsUsed e.params).counts ≤ (c.paramsUsed e.params).travel + 200) :
    Ctc.encoderTest e { c with count := n } = CtcOut.of (c.counted n false) := by
  have ha : ¬ ((c.paramsUsed e.params).travel + 200 < Ctc.position e.params { c with count := n }) := Nat.not_lt.2 h
  simp only [Ctc.encoderTest]
  rw [if_neg fun hc => ha hc.1]
  exact congrArg (fun b => CtcOut.of (c.counted n b)) (decide_eq_false ha)

theorem Ctc.encoderTest_above (h : (c.paramsUsed e.params).travel + 200 < n * 100 / (c.paramsUsed e.params).counts)
    (hl : c.aboveLimit = false) : Ctc.encoderTest e { c with count := n } = (c.counted n true).arise e .encoder := by
  have ha : (c.paramsUsed e.params).travel + 200 < Ctc.position e.params { c with count := n } := h
  simp only [Ctc.encoderTest]
  rw [if_pos ⟨ha, hl⟩]
  exact congrArg (fun b => (c.counted n b).arise e .encoder) (decide_eq_true ha)

theorem Ctc.encoderChange_below (h : n * 100 / (c.paramsUsed e.params).counts ≤ (c.paramsUsed e.params).travel + 200) :
    c.encoderChange e false n = (c.counted n false).encoderMoves e false := by
  simp [Ctc.encoderChange, Ctc.encoderTest_below h, CtcOut.andThen, CtcOut.of]

theorem Ctc.encoderChange_above (h : (c.paramsUsed e.params).travel + 200 < n * 100 / (c.paramsUsed e.params).counts)
    (hl : c.aboveLimit = false) :
    c.encoderChange e false n = ((c.counted n true).arise e .encoder).andThen (Ctc.encoderMoves e true) := by
  have hr : decide (((c.counted n true).arise e .encoder).reports ≠ []) = true := by simp [Ctc.arise]
  simp only [Ctc.encoderChange, Ctc.encoderTest_above h hl, hr]
  rfl

/-- What an arising of ENCODER makes of a curtain with a new count. -/
def Ctc.encoderLatched (n : Nat) (c : Ctc) : Ctc :=
  { c with count := n, aboveLimit := true, faults := addFault .encoder c.faults }

theorem Ctc.counted_arise (h : c.descent = none) : (c.counted n true).arise e .encoder =
    { ctc := c.encoderLatched n, notes := [.curtainFault .encoder c.state none (n * 100 / e.params.counts)],
      reports := [.encoder].map .fault } := by
  have hp : (c.counted n true).position e.params = n * 100 / e.params.counts :=
    Ctc.position_of_none (c := c.counted n true) h e.params
  rw [Ctc.arise_atRest (c := c.counted n true) h, hp]
  rfl

/-- The moves of a curtain at rest whose ENCODER has arisen. -/
theorem Ctc.encoderMoves_latched (h : c.descent = none) (hp : e.params.travel + 200 < n * 100 / e.params.counts) :
    (c.encoderLatched n).encoderMoves e true =
      if c.state = .raising then (c.encoderLatched n).enter e .held else CtcOut.of (c.encoderLatched n) := by
  have hq : (c.encoderLatched n).position e.params = n * 100 / e.params.counts :=
    Ctc.position_of_none (c := c.encoderLatched n) h e.params
  have hs : (c.encoderLatched n).state = c.state := rfl
  have hu : ¬ (n * 100 / e.params.counts + 100 < e.params.travel ∧
      (c.encoderLatched n).faults.contains .encoder = false) := fun hc => by omega
  have hf : (c.encoderLatched n).followFloor e = c.encoderLatched n := by
    simp [Ctc.followFloor, Ctc.onDescent, Ctc.encoderLatched, h]
  simp only [Ctc.encoderMoves, hs, hq, if_neg hu, hf]
  cases c.state <;> simp

end

/-! ## A curtain at rest -/

theorem Ctc.topRace_of_state {q : CurtainParams} {c : Ctc} (h : c.state ≠ .raising) (n : Nat) : c.topRace q n = false := by
  simp [Ctc.topRace, h]

theorem Ctc.topRace_below {q : CurtainParams} {c : Ctc} (hd : c.descent = none) {n : Nat}
    (h : n * 100 / q.counts ≤ q.travel + 200) : c.topRace q n = false := by
  have hp : Ctc.position q { c with count := n } = n * 100 / q.counts := Ctc.position_of_none (c := { c with count := n }) hd q
  simp [Ctc.topRace, hp, h]

theorem Ctc.paramsUsed_of_none {q : CurtainParams} {c : Ctc} (h : c.descent = none) : c.paramsUsed q = q := by
  simp [Ctc.paramsUsed, h]

/-- A change of the count that CTC meets with no report, or where no act runs. -/
theorem encoderCountChange_moves {n : Nat} {s : State} {c : Ctc} {bs : List NoticeBody} {fs : List CurtainFault}
    (hh : s.held = none) (h : s.Current) (hn : n < 65536) (hne : n ≠ s.ctc.count)
    (hr : s.ctc.topRace s.settings.curtain n = false)
    (ho : s.ctc.encoderChange s.ctcEnv false n = { ctc := c, notes := bs, reports := fs.map .fault })
    (hf : fs = [] ∨ s.phase ≠ .running) :
    ∃ t, exec (.encoderCountChange n) s = .next t ∧ CurtainMoved s c t ∧ Sends s bs t := by
  refine ⟨(s.curtainSet c bs).finish, ?_, State.curtainSet_finish h c bs, State.finish_sends rfl⟩
  rw [encoderCountChange_next hh hn hne hr,
    State.withCtc_moves (f := fun e c => c.encoderChange e false n) h ho hf]

/-- The same where two events come at one moment. -/
theorem encoderCountChange_moves_race {n : Nat} {s : State} {b : Bool} {c : Ctc} {bs : List NoticeBody}
    {fs : List CurtainFault} (hh : s.held = none) (h : s.Current) (hn : n < 65536) (hne : n ≠ s.ctc.count)
    (hr : s.ctc.topRace s.settings.curtain n = true) (hb : Config.freeBit s.free = b)
    (ho : s.ctc.encoderChange s.ctcEnv b n = { ctc := c, notes := bs, reports := fs.map .fault })
    (hf : fs = [] ∨ s.phase ≠ .running) :
    ∃ t, exec (.encoderCountChange n) s = .next t ∧ CurtainMoved s c t := by
  have m := State.curtainSet_finish (s := s.drawn) h c bs
  refine ⟨(s.drawn.curtainSet c bs).finish, ?_, fun q hq => ?_, m.ctc, m.hoist, m.release, m.brake, m.warning,
    m.retarder, m.gates⟩
  · rw [encoderCountChange_race hh hn hne hr, hb,
      State.withCtc_moves (s := s.drawn) (f := fun e c => c.encoderChange e b n) h ho hf]
  · have hk := m.only q hq
    cases q <;> simp_all [Part.same, State.drawn]

/-- What a change of the count that lies within its limit makes of a curtain that it does not move. -/
theorem Ctc.encoderChange_recorded {e : CtcEnv} {c : Ctc} {n : Nat} (hd : c.descent = none)
    (hp : n * 100 / e.params.counts ≤ e.params.travel + 200)
    (hs : c.state = .down ∨ c.state = .preDrop ∨ c.state = .held ∨
      (c.state = .raising ∧ (n * 100 / e.params.counts + 20 < e.params.travel ∨ c.faults.contains .encoder = true)) ∨
      (c.state = .up ∧ e.params.travel ≤ n * 100 / e.params.counts + 100)) :
    c.encoderChange e false n =
      { ctc := c.counted n false, notes := [], reports := ([] : List CurtainFault).map .fault } := by
  have hq : (c.counted n false).position e.params = n * 100 / e.params.counts :=
    Ctc.position_of_none (c := c.counted n false) hd e.params
  have hst : (c.counted n false).state = c.state := rfl
  have hfl : (c.counted n false).faults = c.faults := rfl
  rw [Ctc.encoderChange_below (by rwa [Ctc.paramsUsed_of_none hd])]
  unfold Ctc.encoderMoves
  dsimp only
  rw [hst, hq, hfl]
  rcases hs with hs | hs | hs | ⟨hs, hc⟩ | ⟨hs, hc⟩ <;> simp only [hs]
  · rfl
  · rfl
  · rfl
  · rw [if_neg (by decide), if_neg]
    · rfl
    · rintro ⟨h1, h2⟩
      rcases hc with hc | hc
      · omega
      · exact absurd (hc.symm.trans h2) (by decide)
  · rw [if_neg (by omega)]
    rfl

/-- RAISING reaches the top (R52). -/
theorem Ctc.encoderChange_top {e : CtcEnv} {c : Ctc} {n : Nat} (hd : c.descent = none) (hw : c.warnDeadline = none)
    (hs : c.state = .raising) (hp : n * 100 / e.params.counts ≤ e.params.travel + 200)
    (ht : e.params.travel ≤ n * 100 / e.params.counts + 20) (hf : c.faults.contains .encoder = false) :
    c.encoderChange e false n =
      { ctc := { c with count := n, aboveLimit := false, state := .up, raiseDeadline := none },
        notes := [.curtainState .up none (n * 100 / e.params.counts) e.params.release],
        reports := ([] : List CurtainFault).map .fault } := by
  have hq : (c.counted n false).position e.params = n * 100 / e.params.counts :=
    Ctc.position_of_none (c := c.counted n false) hd e.params
  rw [Ctc.encoderChange_below (by rwa [Ctc.paramsUsed_of_none hd])]
  have hx : (c.counted n false).encoderMoves e false = (c.counted n false).enterUp e := by
    have hst : (c.counted n false).state = .raising := hs
    have hfl : (c.counted n false).faults.contains .encoder = false := hf
    unfold Ctc.encoderMoves
    dsimp only
    rw [hst, hq, hfl]
    simp only [Bool.false_eq_true, if_false, and_true, if_pos ht]
  rw [hx, Ctc.enterUp_top (c := c.counted n false) hd (.inl (by rw [hq]; omega)), hq]
  simp only [Ctc.counted, hw]
  rfl

/-- A curtain UP that falls below H − 100 (R54). -/
theorem Ctc.encoderChange_creeps {e : CtcEnv} {c : Ctc} {n : Nat} (hd : c.descent = none) (hr : c.raiseDeadline = none)
    (hw : c.warnDeadline = none) (hs : c.state = .up) (hp : n * 100 / e.params.counts + 100 < e.params.travel)
    (hf : c.faults.contains .encoder = false) :
    c.encoderChange e false n =
      { ctc := { c with count := n, aboveLimit := false, faults := addFault .creep c.faults, state := .held },
        notes := [.curtainFault .creep .up none (n * 100 / e.params.counts),
          .curtainState .held none (n * 100 / e.params.counts) e.params.release],
        reports := [.creep].map .fault } := by
  have hq : (c.counted n false).position e.params = n * 100 / e.params.counts :=
    Ctc.position_of_none (c := c.counted n false) hd e.params
  rw [Ctc.encoderChange_below (by rw [Ctc.paramsUsed_of_none hd]; omega)]
  have hst : (c.counted n false).state = .up := hs
  have hx : (c.counted n false).encoderMoves e false = (c.counted n false).faultHeld e .creep := by
    have hfl : (c.counted n false).faults.contains .encoder = false := hf
    unfold Ctc.encoderMoves
    dsimp only
    rw [hst, hq, hfl]
    simp only [and_true, if_pos hp]
  rw [hx, Ctc.faultHeld_atRest (c := c.counted n false) hd, hq, hst]
  simp only [Ctc.counted, hr, hw]
  rfl

/-! ## A descent -/

theorem Ctc.encoderMoves_descending {e : CtcEnv} {c : Ctc} (b : Bool) (hs : c.state = .descending) :
    c.encoderMoves e b = CtcOut.of (c.followFloor e) := by
  simp [Ctc.encoderMoves, hs]

theorem Ctc.encoderChange_descending {e : CtcEnv} {c : Ctc} {d : Descent} {n : Nat} (hs : c.state = .descending)
    (hd : c.descent = some d) (hp : n * 100 / d.params.counts ≤ d.params.travel + 200) :
    c.encoderChange e false n =
      { ctc := { c with
          count := n, aboveLimit := false,
          descent := some { d with
            floorTimer := if n * 100 / d.params.counts ≤ 20 ∧ c.floor = false then some (d.floorTimer.getD 0) else none } },
        notes := [], reports := ([] : List CurtainFault).map .fault } := by
  have hq : c.paramsUsed e.params = d.params := by simp only [Ctc.paramsUsed, hd]
  rw [Ctc.encoderChange_below (by rwa [hq]), Ctc.encoderMoves_descending (c := c.counted n false) false hs]
  simp [Ctc.followFloor, Ctc.onDescent, Ctc.counted, hd, Ctc.position, Ctc.paramsUsed, CtcOut.of]

theorem Ctc.encoderMoves_above {e : CtcEnv} {c : Ctc} {d : Descent} (b : Bool) (hs : c.state = .descending)
    (hd : c.descent = some d) (hp : 20 < c.count * 100 / d.params.counts) :
    c.encoderMoves e b = { ctc := { c with descent := some { d with floorTimer := none } }, notes := [], reports := [] } := by
  rw [Ctc.encoderMoves_descending b hs]
  simp [Ctc.followFloor, Ctc.onDescent, hd, Ctc.position, Ctc.paramsUsed, CtcOut.of, hp]

theorem Ctc.encoderChange_latches {e : CtcEnv} {c : Ctc} {d : Descent} {n : Nat} (hs : c.state = .descending)
    (hd : c.descent = some d) (hp : d.params.travel + 200 < n * 100 / d.params.counts) (hl : c.aboveLimit = false) :
    c.encoderChange e false n =
      { ctc := { c with
          count := n, aboveLimit := true, faults := addFault .encoder c.faults,
          descent := some { d with
            record := { d.record with faults := addFault .encoder d.record.faults },
            sup := { d.sup with timeOnly := true }, floorTimer := none } },
        notes := .curtainFault .encoder .descending (some d.record.cause) (n * 100 / d.params.counts) ::
          if d.sup.timeOnly then [] else [.timeOnly d.sup.clock d.sup.windowNo],
        reports := [.encoder].map .fault } := by
  have hq : c.paramsUsed e.params = d.params := by simp only [Ctc.paramsUsed, hd]
  have ha : (c.counted n true).arise e .encoder =
      { ctc := { c with
          count := n, aboveLimit := true, faults := addFault .encoder c.faults,
          descent := some { d with
            record := { d.record with faults := addFault .encoder d.record.faults },
            sup := { d.sup with timeOnly := true } } },
        notes := .curtainFault .encoder .descending (some d.record.cause) (n * 100 / d.params.counts) ::
          if d.sup.timeOnly then [] else [.timeOnly d.sup.clock d.sup.windowNo],
        reports := [.encoder].map .fault } := by
    simp [Ctc.arise, Ctc.counted, Ctc.onDescent, hd, hs, Descent.gain, Descent.toTimeOnly, Ctc.cause, Ctc.position,
      Ctc.paramsUsed, Ctc.timeOnlyNote]
  rw [Ctc.encoderChange_above (by rwa [hq]) hl,
    CtcOut.andThen_eq ha (Ctc.encoderMoves_above true hs rfl (by show 20 < n * 100 / d.params.counts; omega))]
  simp only [List.append_nil]

/-! ## ENCODER arises at rest (R52, R66) -/

section
variable {e : CtcEnv} {c : Ctc} {n : Nat} (hd : c.descent = none)
  (hp : e.params.travel + 200 < n * 100 / e.params.counts) (hl : c.aboveLimit = false)
include hd hp hl

theorem Ctc.encoderChange_latches_atRest (hs : c.state ≠ .raising) : c.encoderChange e false n =
    { ctc := c.encoderLatched n, notes := [.curtainFault .encoder c.state none (n * 100 / e.params.counts)],
      reports := [.encoder].map .fault } := by
  rw [Ctc.encoderChange_above (by rwa [Ctc.paramsUsed_of_none hd]) hl, Ctc.counted_arise hd, CtcOut.andThen_mk,
    Ctc.encoderMoves_latched hd hp, if_neg hs]
  rfl

theorem Ctc.encoderChange_holds (hw : c.warnDeadline = none) (hs : c.state = .raising) : c.encoderChange e false n =
    { ctc := { c with count := n, aboveLimit := true, faults := addFault .encoder c.faults, state := .held,
                      raiseDeadline := none },
      notes := [.curtainFault .encoder c.state none (n * 100 / e.params.counts),
        .curtainState .held none (n * 100 / e.params.counts) e.params.release],
      reports := [.encoder].map .fault } := by
  have hq : (c.encoderLatched n).position e.params = n * 100 / e.params.counts :=
    Ctc.position_of_none (c := c.encoderLatched n) hd e.params
  rw [Ctc.encoderChange_above (by rwa [Ctc.paramsUsed_of_none hd]) hl, Ctc.counted_arise hd, CtcOut.andThen_mk,
    Ctc.encoderMoves_latched hd hp, if_pos hs, Ctc.enter_atRest (c := c.encoderLatched n) hd, hq]
  simp only [Ctc.encoderLatched, hw]
  rfl

/-- The top is taken first, and ENCODER arises in UP (R52). -/
theorem Ctc.encoderChange_topFirst (hw : c.warnDeadline = none) : c.encoderChange e true n =
    { ctc := { c with count := n, aboveLimit := true, faults := addFault .encoder c.faults, state := .up,
                      raiseDeadline := none },
      notes := [.curtainState .up none (n * 100 / e.params.counts) e.params.release,
        .curtainFault .encoder .up none (n * 100 / e.params.counts)],
      reports := [.encoder].map .fault } := by
  have hq : Ctc.position e.params { c with count := n } = n * 100 / e.params.counts :=
    Ctc.position_of_none (c := { c with count := n }) hd e.params
  have hx : c.encoderChange e true n = (Ctc.enterUp e { c with count := n }).andThen (Ctc.encoderTest e) := rfl
  rw [hx, Ctc.enterUp_top (c := { c with count := n }) hd (.inl (by rw [hq]; omega)), CtcOut.andThen_mk, hq]
  let v : Ctc := { c with state := .up, raiseDeadline := none, warnDeadline := none }
  have hv : Ctc.encoderTest e { v with count := n } = (v.counted n true).arise e .encoder :=
    Ctc.encoderTest_above (c := v) (by rwa [Ctc.paramsUsed_of_none (c := v) hd]) hl
  have ha := hv.trans (Ctc.counted_arise (c := v) hd)
  simp only [v, Ctc.encoderLatched] at ha
  simp only [hw, ha]
  rfl

end

theorem Ctc.topRace_iff {q : CurtainParams} {c : Ctc} (hd : c.descent = none) (hs : c.state = .raising) {n : Nat}
    (hp : q.travel + 200 < n * 100 / q.counts) (hl : c.aboveLimit = false) :
    c.topRace q n = !c.faults.contains .encoder := by
  have hq : Ctc.position q { c with count := n } = n * 100 / q.counts := Ctc.position_of_none (c := { c with count := n }) hd q
  unfold Ctc.topRace
  rw [hq, hs, hl]
  simp [hp]

theorem CurtainFault.encoder_latched (fs : List CurtainFault) : (addFault .encoder fs).contains .encoder = true :=
  (addFault_contains _ _ _).2 (.inl rfl)

/-- The show that an arising of ENCODER has stopped (R14). -/
def EncoderStops (n : Nat) (s t : State) : Prop :=
  t.phase = .stopped ∧ t.pfu.perf.stopCause = .curtain ∧ t.pfu.perf.resume = some .resuming ∧ t.ctc.count = n ∧
    t.ctc.faults.contains .encoder = true ∧ Untouched s t

theorem encoderStops_of {n : Nat} {s u : State} (hu : u = s ∨ u = s.drawn) (h : s.Current) (hr : s.phase = .running)
    {f : CtcEnv → Ctc → CtcOut} {c : Ctc} {bs : List NoticeBody}
    (hx : f s.ctcEnv s.ctc = { ctc := c, notes := bs, reports := [.encoder].map .fault }) (hc : c.count = n)
    (hf : c.faults.contains .encoder = true) : EncoderStops n s (u.withCtc f).finish := by
  have k : StoppedByCurtain (u.curtainSet c bs) (u.withCtc f) := by
    rcases hu with rfl | rfl
    · exact State.withCtc_stops h hr rfl hx
    · exact State.withCtc_stops (s := s.drawn) h hr rfl hx
  have hk : Untouched s (u.curtainSet c bs) := by
    rcases hu with rfl | rfl <;> exact ⟨rfl, rfl, rfl, rfl, rfl, rfl, rfl, rfl, rfl, fun h => h⟩
  obtain ⟨now, held, settings, store, lmu, dsu, pending, fire, supply, demand⟩ := hk.trans k.kept
  exact ⟨k.phase, k.cause, k.resume, k.count.trans hc, k.faults _ hf,
    ⟨now, held, settings, store, lmu, dsu, pending, fire, supply, demand⟩⟩

/-- An arising of ENCODER in RUNNING, in whatever state the curtain stands (R14). -/
theorem encoderCountChange_stops {n : Nat} {s : State} (hh : s.held = none) (h : s.Current) (ho : CurtainOk s.ctc)
    (hn : n < 65536) (hne : n ≠ s.ctc.count)
    (hp : (s.ctc.paramsUsed s.settings.curtain).travel + 200 < n * 100 / (s.ctc.paramsUsed s.settings.curtain).counts)
    (hl : s.ctc.aboveLimit = false) (hr : s.phase = .running) :
    ∃ t, exec (.encoderCountChange n) s = .next t ∧ EncoderStops n s t := by
  cases hd : s.ctc.descent with
  | some d =>
    have hs := ho.descending hd
    rw [show s.ctc.paramsUsed s.settings.curtain = d.params by simp only [Ctc.paramsUsed, hd]] at hp
    exact ⟨_, encoderCountChange_next hh hn hne (Ctc.topRace_of_state (by rw [hs]; decide) n),
      encoderStops_of (.inl rfl) h hr (Ctc.encoderChange_latches (e := s.ctcEnv) hs hd hp hl) rfl
        (CurtainFault.encoder_latched _)⟩
  | none =>
    rw [Ctc.paramsUsed_of_none hd] at hp
    by_cases hs : s.ctc.state = .raising
    · have hw := ho.warn_none (by simp [hs])
      have hx := Ctc.encoderChange_holds (e := s.ctcEnv) hd hp hl hw hs
      cases hrace : s.ctc.topRace s.settings.curtain n
      · exact ⟨_, encoderCountChange_next hh hn hne hrace,
          encoderStops_of (.inl rfl) h hr hx rfl (CurtainFault.encoder_latched _)⟩
      · have he := encoderCountChange_race hh hn hne hrace
        cases hb : Config.freeBit s.free <;> rw [hb] at he
        · exact ⟨_, he, encoderStops_of (.inr rfl) h hr hx rfl (CurtainFault.encoder_latched _)⟩
        · exact ⟨_, he, encoderStops_of (.inr rfl) h hr (Ctc.encoderChange_topFirst (e := s.ctcEnv) hd hp hl hw) rfl
            (CurtainFault.encoder_latched _)⟩
    · exact ⟨_, encoderCountChange_next hh hn hne (Ctc.topRace_of_state hs n),
        encoderStops_of (.inl rfl) h hr (Ctc.encoderChange_latches_atRest (e := s.ctcEnv) hd hp hl hs) rfl
          (CurtainFault.encoder_latched _)⟩

/-! ## ENCODER arises in RAISING, where no act runs (R52) -/

/-- A raising curtain that comes above H + 200: held, or UP where reaching the top is taken first. -/
theorem encoderCountChange_overruns {n : Nat} {s : State} (hh : s.held = none) (h : s.Current) (ho : CurtainOk s.ctc)
    (hn : n < 65536) (hne : n ≠ s.ctc.count) (hs : s.ctc.state = .raising)
    (hp : s.settings.curtain.travel + 200 < n * 100 / s.settings.curtain.counts) (hl : s.ctc.aboveLimit = false)
    (hr : s.phase ≠ .running) :
    ∃ t, exec (.encoderCountChange n) s = .next t ∧ Only [.curtain, .gates, .link, .lines, .draws] s t ∧
      t.ilu.hoist.line = false ∧
      (t.ctc = { s.ctc with count := n, aboveLimit := true, faults := addFault .encoder s.ctc.faults, state := .held,
                            raiseDeadline := none } ∧ t.lines.brake = true ∨
        s.ctc.faults.contains .encoder = false ∧
          t.ctc = { s.ctc with count := n, aboveLimit := true, faults := addFault .encoder s.ctc.faults, state := .up,
                               raiseDeadline := none }) := by
  have hd := ho.descent_none (by simp [hs])
  have hw := ho.warn_none (by simp [hs])
  have hheld := Ctc.encoderChange_holds (e := s.ctcEnv) hd hp hl hw hs
  have htop := Ctc.encoderChange_topFirst (e := s.ctcEnv) hd hp hl hw
  cases hrace : s.ctc.topRace s.settings.curtain n
  · obtain ⟨t, he, m, -⟩ := encoderCountChange_moves hh h hn hne hrace hheld (.inr hr)
    exact ⟨t, he, m.only, m.hoist, .inl ⟨m.ctc, m.brake⟩⟩
  · cases hb : Config.freeBit s.free
    · obtain ⟨t, he, m⟩ := encoderCountChange_moves_race hh h hn hne hrace hb hheld (.inr hr)
      exact ⟨t, he, m.only, m.hoist, .inl ⟨m.ctc, m.brake⟩⟩
    · obtain ⟨t, he, m⟩ := encoderCountChange_moves_race hh h hn hne hrace hb htop (.inr hr)
      rw [Ctc.topRace_iff hd hs hp hl] at hrace
      exact ⟨t, he, m.only, m.hoist, .inr ⟨by simpa using hrace, m.ctc⟩⟩

/-! ## A curtain UP that creeps (R54) -/

/-- The CREEP notice of PFU, which goes out in RUNNING alone (R14). -/
def creepNotes (s : State) : List NoticeBody :=
  if s.phase = .running then [.phaseCreep .running s.pfu.perf.act .none] else []

theorem State.takeReport_creep (s : State) (c : Ctc) (bs : List NoticeBody) :
    (s.curtainSet c bs).takeReport (.fault .creep) = s.curtainSet c (bs ++ creepNotes s) := by
  have hp : (s.curtainSet c bs).phase = s.phase := rfl
  unfold State.takeReport
  dsimp only
  rw [hp]
  unfold creepNotes
  split
  next hr =>
    rw [hr]
    show (s.curtainSet c bs).notifyAll _ = _
    unfold State.curtainSet
    rw [← State.notifyAll_append]
    rfl
  next => rw [List.append_nil]

theorem encoderCountChange_creeps {n : Nat} {s : State} (hh : s.held = none) (h : s.Current) (ho : CurtainOk s.ctc)
    (hn : n < 65536) (hne : n ≠ s.ctc.count) (hs : s.ctc.state = .up)
    (hp : n * 100 / s.settings.curtain.counts + 100 < s.settings.curtain.travel)
    (hf : s.ctc.faults.contains .encoder = false) :
    ∃ t bs, exec (.encoderCountChange n) s = .next t ∧ Only [.curtain, .gates, .link, .lines, .draws] s t ∧
      t.ctc = { s.ctc with count := n, aboveLimit := false, faults := addFault .creep s.ctc.faults, state := .held } ∧
      t.lines.brake = true ∧
      Sends s ([.curtainFault .creep .up none (n * 100 / s.settings.curtain.counts),
        .curtainState .held none (n * 100 / s.settings.curtain.counts) s.settings.curtain.release] ++ bs) t ∧
      (s.phase = .running → bs = [.phaseCreep .running s.pfu.perf.act .none]) ∧ (s.phase ≠ .running → bs = []) := by
  have hx := Ctc.encoderChange_creeps (e := s.ctcEnv) (ho.descent_none (by simp [hs])) (ho.raise_none (by simp [hs]))
    (ho.warn_none (by simp [hs])) hs hp hf
  have he := encoderCountChange_next hh hn hne (Ctc.topRace_of_state (by simp [hs]) n)
  rw [State.withCtc_eq (f := fun e c => c.encoderChange e false n) h hx] at he
  have m := State.curtainSet_finish h
    { s.ctc with count := n, aboveLimit := false, faults := addFault .creep s.ctc.faults, state := .held }
    ([.curtainFault .creep .up none (n * 100 / s.settings.curtain.counts),
      .curtainState .held none (n * 100 / s.settings.curtain.counts) s.settings.curtain.release] ++ creepNotes s)
  refine ⟨_, creepNotes s, he.trans (congrArg (fun u => Host.Outcome.next (State.finish u)) (State.takeReport_creep s _ _)),
    m.only, m.ctc, m.brake, State.finish_sends rfl, fun hr => if_pos hr, fun hr => if_neg hr⟩

/-- Settles O30: a change of the encoder count, by the curtain's state and its height. -/
theorem encoderCountChange : Obligations.EncoderCountChange := by
  intro n s hh hg ho hn hne q p
  have h : s.Current := hg hh
  have hnone : s.ctc.state ≠ .descending → s.ctc.descent = none := ho.descent_none
  have hq : s.ctc.descent = none → q = s.settings.curtain := Ctc.paramsUsed_of_none
  have race : s.ctc.state ≠ .raising → s.ctc.topRace s.settings.curtain n = false := fun hs => Ctc.topRace_of_state hs n
  have hq0 : q = s.ctc.paramsUsed s.settings.curtain := rfl
  have hp0 : p = n * 100 / q.counts := rfl
  clear_value p q
  refine ⟨fun hp hs => ?_, fun hp hl hr hs => ?_, fun hp hl hr => ?_, fun hs hp ht hf => ?_, fun hs hp => ?_,
    fun hs hp hl hr => ?_, fun hs hp hf => ?_, fun hs hl hp => ?_, fun d hd hp hl hr => ?_, fun d hd hp => ?_⟩
  · have hd := hnone (by rcases hs with hs | hs | hs <;> simp [hs])
    rw [hp0, hq hd] at hp
    obtain ⟨t, he, m, hs⟩ := encoderCountChange_moves hh h hn hne (race (by rcases hs with hs | hs | hs <;> simp [hs]))
      (Ctc.encoderChange_recorded (e := s.ctcEnv) hd hp (by tauto)) (.inl rfl)
    exact ⟨t, he, m.still rfl rfl, m.ctc, hs⟩
  · have hd := hnone (by rcases hs with hs | hs | hs | hs <;> simp [hs])
    have hr' : s.ctc.state ≠ .raising := by rcases hs with hs | hs | hs | hs <;> simp [hs]
    rw [hp0, hq hd] at hp ⊢
    obtain ⟨t, he, m, hs⟩ := encoderCountChange_moves hh h hn hne (race hr')
      (Ctc.encoderChange_latches_atRest (e := s.ctcEnv) hd hp hl hr') (.inr hr)
    exact ⟨t, he, m.still rfl rfl, m.ctc, hs⟩
  · subst hp0 hq0
    exact encoderCountChange_stops hh h ho hn hne hp hl hr
  · have hd := hnone (by simp [hs])
    rw [hp0, hq hd] at hp ht ⊢
    obtain ⟨t, he, m, hs⟩ := encoderCountChange_moves hh h hn hne (Ctc.topRace_below hd hp)
      (Ctc.encoderChange_top (e := s.ctcEnv) hd (ho.warn_none (by simp [hs])) hs hp ht hf) (.inl rfl)
    exact ⟨t, he, m.only, m.ctc, m.hoist, hs⟩
  · have hd := hnone (by simp [hs])
    rw [hp0, hq hd] at hp
    have hp' : n * 100 / s.settings.curtain.counts ≤ s.settings.curtain.travel + 200 := by omega
    obtain ⟨t, he, m, -⟩ := encoderCountChange_moves hh h hn hne (Ctc.topRace_below hd hp')
      (Ctc.encoderChange_recorded (e := s.ctcEnv) hd hp'
        (.inr (.inr (.inr (.inl ⟨hs, hp.imp_right And.left⟩))))) (.inl rfl)
    exact ⟨t, he, m.still rfl rfl, m.ctc⟩
  · have hd := hnone (by simp [hs])
    rw [hp0, hq hd] at hp
    exact encoderCountChange_overruns hh h ho hn hne hs hp hl hr
  · have hd := hnone (by simp [hs])
    rw [hp0, hq hd] at hp ⊢
    exact encoderCountChange_creeps hh h ho hn hne hs hp hf
  · have hd := hnone (by simp [hs])
    rw [hp0, hq hd] at hp
    rw [hp0, hq hd] at hl
    obtain ⟨t, he, m, -⟩ := encoderCountChange_moves hh h hn hne (Ctc.topRace_below hd hp)
      (Ctc.encoderChange_recorded (e := s.ctcEnv) hd hp (.inr (.inr (.inr (.inr ⟨hs, hl⟩))))) (.inl rfl)
    exact ⟨t, he, m.still rfl rfl, m.ctc⟩
  · have hs := ho.descending hd
    have hqd : q = d.params := by rw [hq0]; simp only [Ctc.paramsUsed, hd]
    rw [hp0, hqd] at hp ⊢
    obtain ⟨t, he, m, hs⟩ := encoderCountChange_moves hh h hn hne (race (by simp [hs]))
      (Ctc.encoderChange_latches (e := s.ctcEnv) hs hd hp hl) (.inr hr)
    exact ⟨t, he, m.still rfl rfl, m.ctc, hs⟩
  · have hs := ho.descending hd
    have hqd : q = d.params := by rw [hq0]; simp only [Ctc.paramsUsed, hd]
    rw [hp0, hqd] at hp ⊢
    obtain ⟨t, he, m, -⟩ := encoderCountChange_moves hh h hn hne (race (by simp [hs]))
      (Ctc.encoderChange_descending (e := s.ctcEnv) hs hd hp) (.inl rfl)
    exact ⟨t, he, m.still rfl rfl, m.ctc⟩

end Sys2Proof.Machine
end

section
/-!
CURTAIN-LOWER, CURTAIN-TEST and CURTAIN-RAISE as their owner decides them, whoever asks; and the first two as requests.
-/

namespace Sys2Proof.Safety

open Sys2Proof.Machine

/-! ## What only certain parts of the state have changed -/

theorem Part.same_trans {s t u : State} {p : Part} (h : p.same s t) (k : p.same t u) : p.same s u := by
  cases p <;> exact k.trans h

theorem Only.mono {ps qs : List Part} {s t : State} (h : Only ps s t) (hs : ps ⊆ qs) : Only qs s t :=
  fun p hp => h p fun hq => hp (hs hq)

theorem Only.trans {ps : List Part} {s t u : State} (h : Only ps s t) (k : Only ps t u) : Only ps s u :=
  fun p hp => Part.same_trans (h p hp) (k p hp)

theorem Only.finish {ps : List Part} {s u : State} (h : Only ps s u) : Only (.link :: .lines :: .draws :: ps) s u.finish := by
  intro p hp
  have hk := h p fun hc => hp (by simp [hc])
  cases p <;> simp_all [Part.same]

/-- What LP does with a request shows in the link part alone. -/
theorem Only.replied {ps : List Part} {s u : State} (h : Only ps s.hunting u) (kind : RequestKind) (d : Decision) :
    Only (.link :: .lines :: .draws :: ps) s (u.replied kind d) := by
  intro p hp
  have hk := h p fun hc => hp (by simp [hc])
  cases p <;> simp_all [Part.same]

end Sys2Proof.Safety

namespace Sys2Proof.Machine

open Sys2Proof.Safety

/-! ## Refusals in order (R51, R55, R56) -/

theorem State.unlessRefused_some {s : State} {o : Option Reason} {r : Reason} (h : o = some r) (f : State → State) :
    s.unlessRefused o f = (s, .refused r .none) := by
  rw [h]
  rfl

theorem State.unlessRefused_none {s : State} {o : Option Reason} (h : o = none) (f : State → State) :
    s.unlessRefused o f = (f s, .done .empty) := by
  rw [h]
  rfl

theorem movePhase_iff (p : Phase) : movePhase p = true ↔ p ≠ .running ∧ p ≠ .stopped ∧ p ≠ .evacuate := by
  cases p <;> decide

theorem movePhase_barred {p : Phase} (h : p = .running ∨ p = .stopped ∨ p = .evacuate) : movePhase p = false := by
  rcases h with rfl | rfl | rfl <;> rfl

theorem testPhase_barred {p : Phase} (h : p = .running ∨ p = .resuming ∨ p = .stopped ∨ p = .evacuate ∨ p = .closed) :
    testPhase p = false := by
  rcases h with rfl | rfl | rfl | rfl | rfl <;> rfl

theorem testPhase_taken {p : Phase} (h : p = .dark ∨ p = .prepare ∨ p = .houseOpen ∨ p = .interval) :
    testPhase p = true := by
  rcases h with rfl | rfl | rfl | rfl <;> rfl

section
variable {s : State}

theorem State.lowerRefusal_phase (h : movePhase s.phase = false) : s.lowerRefusal = some .wrongPhase := if_pos h

theorem State.lowerRefusal_state (h : movePhase s.phase = true) (hs : s.ctc.state ≠ .up) (hs' : s.ctc.state ≠ .held) :
    s.lowerRefusal = some .wrongState := by
  simp [State.lowerRefusal, h, hs, hs']

theorem State.lowerRefusal_edge (h : movePhase s.phase = true) (hs : s.ctc.state = .up ∨ s.ctc.state = .held)
    (he : s.ctc.edge = true) : s.lowerRefusal = some .notReady := by
  rcases hs with hs | hs <;> simp [State.lowerRefusal, h, hs, he]

theorem State.lowerRefusal_none (h : movePhase s.phase = true) (hs : s.ctc.state = .up ∨ s.ctc.state = .held)
    (he : s.ctc.edge = false) : s.lowerRefusal = none := by
  rcases hs with hs | hs <;> simp [State.lowerRefusal, h, hs, he]

theorem State.testRefusal_phase (h : testPhase s.phase = false) : s.testRefusal = some .wrongPhase := if_pos h

/-- CTC is ready for a test (R56). -/
def testReady (s : State) : Prop := s.lmu.limitState 1 ≠ .low ∧ s.ctc.faults.contains .encoder = false

theorem State.testRefusal_notReady (h : testPhase s.phase = true) (hr : ¬ testReady s) : s.testRefusal = some .notReady := by
  have hr' : s.lmu.limitState 1 = .low ∨ s.ctc.faults.contains .encoder = true := by
    by_contra hc
    rw [not_or] at hc
    exact hr ⟨hc.1, by simpa using hc.2⟩
  unfold State.testRefusal
  rw [if_neg (by simp [h]), if_pos hr']

theorem State.testRefusal_state (h : testPhase s.phase = true) (hr : testReady s) (hs : s.ctc.state ≠ .up) :
    s.testRefusal = some .wrongState := by
  unfold State.testRefusal
  rw [if_neg (by simp [h]), if_neg (by rw [hr.2]; simp [hr.1]), if_pos hs]

theorem State.testRefusal_edge (h : testPhase s.phase = true) (hr : testReady s) (hs : s.ctc.state = .up)
    (he : s.ctc.edge = true) : s.testRefusal = some .notReady := by
  unfold State.testRefusal
  rw [if_neg (by simp [h]), if_neg (by rw [hr.2]; simp [hr.1]), if_neg (by simp [hs]), if_pos he]

theorem State.testRefusal_none (h : testPhase s.phase = true) (hr : testReady s) (hs : s.ctc.state = .up)
    (he : s.ctc.edge = false) : s.testRefusal = none := by
  unfold State.testRefusal
  rw [if_neg (by simp [h]), if_neg (by rw [hr.2]; simp [hr.1]), if_neg (by simp [hs]), if_neg (by simp [he])]

theorem State.raiseRefusal_phase (h : movePhase s.phase = false) : s.raiseRefusal = some .wrongPhase := if_pos h

/-- CTC is ready for a raise (R51). -/
def raiseReady (s : State) : Prop :=
  s.lmu.limitState 0 ≠ .high ∧ s.ctc.faults.contains .encoder = false ∧ s.ctc.overtravel = false

theorem State.raiseRefusal_alarm (h : movePhase s.phase = true) (hf : s.fireFull = true) :
    s.raiseRefusal = some .alarmActive := by
  unfold State.raiseRefusal
  rw [if_neg (by simp [h]), if_pos hf]

theorem State.raiseRefusal_notReady (h : movePhase s.phase = true) (hf : s.fireFull = false) (hr : ¬ raiseReady s) :
    s.raiseRefusal = some .notReady := by
  have hr' : s.lmu.limitState 0 = .high ∨ s.ctc.faults.contains .encoder = true ∨ s.ctc.overtravel = true := by
    by_contra hc
    simp only [not_or, Bool.not_eq_true] at hc
    exact hr hc
  unfold State.raiseRefusal
  rw [if_neg (by simp [h]), if_neg (by simp [hf]), if_pos hr']

theorem not_or_of_raiseReady (hr : raiseReady s) :
    ¬ (s.lmu.limitState 0 = .high ∨ s.ctc.faults.contains .encoder = true ∨ s.ctc.overtravel = true) := by
  rw [hr.2.1, hr.2.2]
  simp [hr.1]

theorem State.raiseRefusal_state (h : movePhase s.phase = true) (hf : s.fireFull = false) (hr : raiseReady s)
    (hs : s.ctc.state ≠ .down) (hs' : s.ctc.state ≠ .held) : s.raiseRefusal = some .wrongState := by
  unfold State.raiseRefusal
  rw [if_neg (by simp [h]), if_neg (by simp [hf]), if_neg (not_or_of_raiseReady hr), if_pos ⟨hs, hs'⟩]

theorem State.raiseRefusal_none (h : movePhase s.phase = true) (hf : s.fireFull = false) (hr : raiseReady s)
    (hs : s.ctc.state = .down ∨ s.ctc.state = .held) : s.raiseRefusal = none := by
  unfold State.raiseRefusal
  rw [if_neg (by simp [h]), if_neg (by simp [hf]), if_neg (not_or_of_raiseReady hr), if_neg (by tauto)]

end

/-! ## A descent started from rest (R57) -/

/-- A descent of a cause has been started in `s`, and `bs` is what was notified after its start. -/
structure Descended (cause : DescentCause) (s : State) (bs : List NoticeBody) (u : State) : Prop where
  only    : Only [.performance, .curtain, .gates, .link] s u
  lp      : u.lp = (s.notifyAll (.curtainState .descending (some cause) (pos s) s.settings.curtain.release :: bs)).lp
  pfu     : u.pfu = s.pfu.proved (s.ctc.floor && proves s.phase cause [])
  release : u.ilu.release.line = false
  onWay   : s.ctc.floor = false → bs = [] ∧
    u.ctc = { s.ctc with state := .descending, descent := some (s.ctc.opened s.ctcEnv cause) }
  arrived : s.ctc.floor = true →
    u.ctc = { s.ctc with state := .down, history := ((s.ctc.opened s.ctcEnv cause).arrived :: s.ctc.history).take 4 }

@[simp] theorem State.curtainSet_lines (c : Ctc) (bs : List NoticeBody) (s : State) : (s.curtainSet c bs).lines = s.lines := rfl
@[simp] theorem State.curtainSet_free (c : Ctc) (bs : List NoticeBody) (s : State) : (s.curtainSet c bs).free = s.free := rfl

theorem State.curtainSet_only (c : Ctc) (bs : List NoticeBody) (s : State) :
    Only [.curtain, .gates, .link] s (s.curtainSet c bs) := by
  intro p hp
  cases p <;> simp_all [Part.same, State.curtainSet]

theorem Pfu.proved_false (f : Pfu) : f.proved false = f := by simp [Pfu.proved]

theorem State.startDescent_descends {s : State} (cause : DescentCause) (h : s.Current) (ho : CurtainOk s.ctc)
    (hs : s.ctc.state = .up ∨ s.ctc.state = .held) (he : s.ctc.edge = false) :
    ∃ bs, Descended cause s bs (s.move fun e c => c.startDescent e cause) := by
  have hd := ho.descent_none (by rcases hs with hs | hs <;> simp [hs])
  have hr := ho.raise_none (by rcases hs with hs | hs <;> simp [hs])
  have hw := ho.warn_none (by rcases hs with hs | hs <;> simp [hs])
  have hp : pos s = s.ctc.count * 100 / s.settings.curtain.counts := Ctc.position_of_none hd _
  have hn : s.ctc.openedNotes s.ctcEnv cause =
      [.curtainState .descending (some cause) (pos s) s.settings.curtain.release] := by
    rw [hp]
    simp only [Ctc.openedNotes, he, Bool.false_and]
    rfl
  cases hf : s.ctc.floor
  · have hm := State.move_eq (f := fun e c => c.startDescent e cause) h (Ctc.startDescent_open (e := s.ctcEnv) hf)
    simp only [hn, List.foldl_nil] at hm
    rw [hm]
    refine ⟨[], ⟨(State.curtainSet_only _ _ s).mono (by decide), rfl, ?_, ?_, fun _ => ⟨rfl, ?_⟩, fun hc => ?_⟩⟩
    · rw [hf, Bool.false_and, Pfu.proved_false]
      rfl
    · rw [State.curtainSet_release h]
      rfl
    · simp only [State.curtainSet_ctc, hr, hw]
    · rw [hf] at hc
      cases hc
  · have hm := State.move_eq (f := fun e c => c.startDescent e cause) h (Ctc.startDescent_floor (e := s.ctcEnv) hf)
    simp only [hn, List.foldl_cons, List.foldl_nil, State.takeArrival_eq] at hm
    rw [hm]
    refine ⟨[.curtainState .down none (s.ctc.count * 100 / s.ctcEnv.params.counts) s.ctcEnv.params.release,
      .curtainArrival (s.ctc.opened s.ctcEnv cause).arrived] ++
        if proves s.phase cause [] then [.curtainProven 0] else [], ⟨?_, ?_, ?_, ?_, fun hc => ?_, fun _ => ?_⟩⟩
    · intro p hp
      cases p <;> simp_all [Part.same]
    · rw [← List.cons_append, ← State.notifyAll_append]
      rfl
    · rw [hf, Bool.true_and]
      rfl
    · exact State.curtainSet_release h _ _
    · rw [hf] at hc
      cases hc
    · simp only [State.notifyAll_ctc, State.curtainSet_ctc, hr, hw, hd]


section
variable {cause : DescentCause} {s u : State} {bs : List NoticeBody}

theorem Descended.brake (k : Descended cause s bs u) (he : s.ctc.edge = false) : u.ctc.brake = false := by
  cases hf : s.ctc.floor
  · rw [(k.onWay hf).2]
    simp [Ctc.brake, Ctc.holding, Ctc.opened_hold, he]
  · rw [k.arrived hf]
    rfl

theorem Descended.warning (k : Descended cause s bs u) (hf : s.ctc.floor = false) : u.ctc.warning = true := by
  rw [(k.onWay hf).2]
  rfl

/-- A descent of cause REQUEST proves nothing. -/
theorem Descended.onlyCurtain (k : Descended .request s bs u) : Only [.curtain, .gates, .link] s u := by
  intro p hp
  by_cases hq : p = .performance
  · subst hq
    have hn : proves s.phase .request [] = false := by simp [proves]
    exact k.pfu.trans (by rw [hn, Bool.and_false, Pfu.proved_false])
  · exact k.only p (by simp_all)

end

/-- The record of a descent that arrives at its start (R69, R86). -/
theorem Ctc.opened_arrived_facts (e : CtcEnv) (cause : DescentCause) (c : Ctc) (h : c.descent = none) :
    (c.opened e cause).arrived.startCause = cause ∧ (c.opened e cause).arrived.cause = cause ∧
      (c.opened e cause).arrived.startPos = c.position e.params ∧ (c.opened e cause).arrived.dropTime = 0 ∧
      (c.opened e cause).arrived.maxSpeed = 0 ∧ (c.opened e cause).arrived.finalU = e.params.release ∧
      (c.opened e cause).arrived.ending = some .arrived := by
  have hm : (c.opened e cause).record.maxSpeed = 0 := by
    unfold Ctc.opened
    split <;> rfl
  rw [Ctc.opened_arrived]
  exact ⟨Ctc.opened_startCause e cause c, Ctc.opened_cause e cause c,
    (Ctc.opened_startPos e cause c).trans (Ctc.position_of_none h _).symm, rfl, hm, rfl, rfl⟩

/-! ## CURTAIN-LOWER and CURTAIN-TEST as requests (R55, R56) -/

/-- Settles O28: CURTAIN-LOWER and CURTAIN-TEST. -/
theorem curtainLowerAndTest : Obligations.CurtainLowerAndTest := by
  refine ⟨fun s ha => ⟨fun hp => ?_, fun h1 h2 h3 => ?_⟩, fun s ha => ⟨fun hp => ?_, fun hp => ?_⟩⟩
  · exact refuses_of_decided (d := State.decideLower) ha rfl
      (State.unlessRefused_some (s := s.hunting) (State.lowerRefusal_phase (movePhase_barred hp)) _)
  · have hm : movePhase s.phase = true := (movePhase_iff _).2 ⟨h1, h2, h3⟩
    refine ⟨fun hu hl => ?_, fun hs => ⟨fun he => ?_, fun he hg ho => ?_⟩⟩
    · exact refuses_of_decided (d := State.decideLower) ha rfl
        (State.unlessRefused_some (s := s.hunting) (State.lowerRefusal_state hm hu hl) _)
    · exact refuses_of_decided (d := State.decideLower) ha rfl
        (State.unlessRefused_some (s := s.hunting) (State.lowerRefusal_edge hm hs he) _)
    · have h : s.Current := hg ha.released
      have hn := ho.descent_none (by rcases hs with hs | hs <;> simp [hs])
      have hd : s.hunting.decideLower = _ :=
        State.unlessRefused_none (s := s.hunting) (State.lowerRefusal_none hm hs he) _
      obtain ⟨bs, k⟩ := State.startDescent_descends (s := s.hunting) .request h ho hs he
      refine ⟨_, bs, exec_of_decided ha rfl hd, (k.onlyCurtain.replied _ _).mono (by decide), State.replied_replies k.lp _ _, k.release,
        k.brake he, fun hf => ⟨(k.onWay hf).1, k.warning hf, (k.onWay hf).2.trans ?_⟩, fun hf => ?_⟩
      · have hp : pos s = s.ctc.count * 100 / s.settings.curtain.counts := Ctc.position_of_none hn _
        have hf' : s.ctc.floor = false := hf
        simp only [hp, Ctc.opened, he, Bool.false_and, Bool.false_eq_true, if_false, State.hunting, hf', and_true]
        rfl
      · have hr := Ctc.opened_arrived_facts s.ctcEnv .request s.ctc hn
        obtain ⟨h1, h2, h3, h4, h5, h6, h7⟩ := hr
        rw [State.replied_ctc, k.arrived hf]
        exact ⟨rfl, hn, rfl, _, rfl, h1, h2, h3, h4, h5, h6, h7⟩
  · exact refuses_of_decided (d := State.decideTest) ha rfl
      (State.unlessRefused_some (s := s.hunting) (State.testRefusal_phase (testPhase_barred hp)) _)
  · have hm := testPhase_taken hp
    refine ⟨fun hr => ?_, fun hr1 hr2 => ⟨fun hs => ?_, fun hs => ⟨fun he => ?_, fun he hg ho => ?_⟩⟩⟩
    · refine refuses_of_decided (d := State.decideTest) ha rfl
        (State.unlessRefused_some (s := s.hunting) (State.testRefusal_notReady hm fun hc => ?_) _)
      rcases hr with hr | hr
      · exact hc.1 hr
      · exact absurd (hr.symm.trans hc.2) (by decide)
    · exact refuses_of_decided (d := State.decideTest) ha rfl
        (State.unlessRefused_some (s := s.hunting) (State.testRefusal_state hm ⟨hr1, hr2⟩ hs) _)
    · exact refuses_of_decided (d := State.decideTest) ha rfl
        (State.unlessRefused_some (s := s.hunting) (State.testRefusal_edge hm ⟨hr1, hr2⟩ hs he) _)
    · have h : s.Current := hg ha.released
      have hn := ho.descent_none (by simp [hs])
      have hd : s.hunting.decideTest = _ :=
        State.unlessRefused_none (s := s.hunting) (State.testRefusal_none hm ⟨hr1, hr2⟩ hs he) _
      obtain ⟨bs, k⟩ := State.startDescent_descends (s := s.hunting) .test h ho (.inl hs) he
      refine ⟨_, bs, exec_of_decided ha rfl hd, (k.only.replied _ _).mono (by decide), State.replied_replies k.lp _ _,
        k.release, fun hf => ?_, fun hf => ⟨?_, ?_⟩⟩
      · obtain ⟨hb, hc⟩ := k.onWay hf
        have hpf := k.pfu
        rw [show s.hunting.ctc.floor = false from hf, Bool.false_and, Pfu.proved_false] at hpf
        refine ⟨hb, hpf, ?_⟩
        rw [State.replied_ctc, hc]
        refine ⟨rfl, k.warning hf, rfl, rfl, _, rfl, ?_⟩
        exact ⟨Ctc.opened_startCause _ _ _, Ctc.opened_cause _ _ _,
          (Ctc.opened_startPos _ _ _).trans (Ctc.position_of_none hn _).symm, Ctc.opened_faults _ _ _,
          Ctc.opened_params _ _ _, Ctc.opened_u _ _ _, Ctc.opened_hold _ _ _ (by simp [he]), Ctc.opened_clock _ _ _,
          Ctc.opened_windowNo _ _ _, (Ctc.opened_prevPos _ _ _).trans (Ctc.position_of_none hn _).symm,
          (Ctc.opened_timeOnly _ _ _).trans hr2⟩
      · rw [State.replied_ctc, k.arrived hf]
      · rw [State.replied_pfu, k.pfu, show s.hunting.ctc.floor = true from hf, Bool.true_and]
        simp only [Pfu.proved, proves, decide_true, Bool.and_true, List.any_nil, Bool.not_false]
        rfl

end Sys2Proof.Machine
end

section
/-!
The entries to EVACUATE and to FULL: the queue they leave, the gates they shut, and the curtain that falls.
-/

namespace Sys2Proof.Machine

open Sys2Proof.Safety

/-! ## A queue without SHOW and HOUSE calls (R167) -/

/-- Every entry is of class EVAC or ALERT. -/
def Clu.Cleared (c : Clu) : Prop := ∀ e ∈ c.entries, isShowOrHouse e.cls = false

theorem isShowOrHouse_false {k : CallClass} (h : isShowOrHouse k = false) : k = .evac ∨ k = .alert := by
  revert h
  cases k <;> decide

section
variable {c : Clu}

theorem Clu.Cleared.remove (h : c.Cleared) (e : CallEntry) (cause : RemovalCause) : (c.remove e cause).clu.Cleared :=
  fun f hf => h f (List.mem_filter.1 hf).1

theorem Clu.Cleared.stop (h : c.Cleared) (now : Nat) : (c.stop now).Cleared := h

theorem Clu.Cleared.modify (h : c.Cleared) (id : Nat) {f : CallEntry → CallEntry} (hf : ∀ e, (f e).cls = e.cls) :
    (c.modify id f).Cleared := by
  intro e he
  obtain ⟨g, hg, rfl⟩ := List.mem_map.1 he
  split
  · rw [hf]
    exact h g hg
  · exact h g hg

theorem Clu.Cleared.cancel (h : c.Cleared) (now : Nat) (e : CallEntry) : (c.cancel now e).clu.Cleared := by
  unfold Clu.cancel
  split
  · exact (h.stop now).remove e _
  · exact h.remove e _

theorem Clu.Cleared.cut (h : c.Cleared) (now : Nat) (denied : ZoneSet) : (c.cut now denied).clu.Cleared := by
  unfold Clu.cut
  split
  · exact h
  · dsimp only
    split
    · exact h
    · split
      · exact (h.stop now).remove _ _
      · exact h.modify _ fun _ => rfl

theorem Clu.Cleared.selectFrom (h : c.Cleared) (now : Nat) (phase : Phase) (k : Nat) :
    (c.selectFrom now phase k).clu.Cleared := by
  induction k generalizing c with
  | zero => exact h
  | succ k ih =>
    unfold Clu.selectFrom
    split
    · exact h
    · dsimp only
      split
      · exact ih (h.remove _ _)
      · exact Clu.Cleared.modify h _ fun _ => rfl

theorem Clu.Cleared.select (h : c.Cleared) (now : Nat) (phase : Phase) : (c.select now phase).clu.Cleared := by
  unfold Clu.select
  split
  · exact h.selectFrom now phase _
  · exact h

theorem Clu.Cleared.preempt (h : c.Cleared) (now : Nat) (cls : CallClass) : (c.preempt now cls).clu.Cleared := by
  unfold Clu.preempt
  split
  · exact h
  · split
    · exact (h.stop now).remove _ _
    · split
      · exact (h.stop now).modify _ fun _ => rfl
      · exact h

theorem Clu.Cleared.arrived (h : c.Cleared) (now : Nat) (phase : Phase) (cls : CallClass) :
    (c.arrived now phase cls).clu.Cleared := (h.preempt now cls).select now phase

theorem Clu.Cleared.renumber (h : c.Cleared) : c.renumber.Cleared := by
  intro e he
  obtain ⟨f, hf, rfl⟩ := List.mem_map.1 he
  exact h f hf

theorem Clu.Cleared.addEntry (h : c.Cleared) (src : Source) {t : Template} (ht : isShowOrHouse t.cls = false) (z : ZoneSet)
    (pool : Bool) : (c.addEntry src t z pool).1.Cleared := by
  unfold Clu.addEntry
  intro e he
  rcases List.mem_append.1 he with he | he
  · split at he
    · exact h.renumber e he
    · exact h e he
  · rw [List.mem_singleton.1 he]
    exact ht

theorem Clu.Cleared.decideCall (h : c.Cleared) (now : Nat) (phase : Phase) (src : Source) {t : Template}
    (ht : isShowOrHouse t.cls = false) : (c.decideCall now phase src t).1.clu.Cleared := by
  unfold Clu.decideCall
  split
  · exact h
  · split
    · exact h
    · dsimp only
      split
      · exact h
      · split
        · refine Clu.Cleared.arrived (Clu.Cleared.modify h _ ?_) now phase _
          exact fun _ => rfl
        · split
          · exact (h.addEntry src ht _ _).arrived now phase _
          · split
            · exact h
            · exact ((h.remove _ _).addEntry src ht _ _).arrived now phase _

/-- The flush leaves of the queue only what it was not told to remove. -/
theorem Clu.flushEach_entries (now : Nat) (es : List CallEntry) (c : Clu) {f : CallEntry}
    (hf : f ∈ (Clu.flushEach now es c).clu.entries) :
    f ∈ c.entries ∧ ∀ e ∈ es, isShowOrHouse e.cls = true → f.id ≠ e.id := by
  induction es generalizing c with
  | nil => exact ⟨hf, fun _ h => nomatch h⟩
  | cons e es ih =>
    obtain ⟨hin, hne⟩ := ih _ hf
    by_cases he : isShowOrHouse e.cls = true
    · have hk : f ∈ c.entries ∧ f.id ≠ e.id := by
        rw [if_pos he] at hin
        split at hin
        · exact ⟨(List.mem_filter.1 hin).1, by simpa using (List.mem_filter.1 hin).2⟩
        · exact ⟨(List.mem_filter.1 hin).1, by simpa using (List.mem_filter.1 hin).2⟩
      exact ⟨hk.1, fun g hg hs => (List.mem_cons.1 hg).elim (fun h => h ▸ hk.2) fun h => hne g h hs⟩
    · rw [if_neg he] at hin
      exact ⟨hin, fun g hg hs => (List.mem_cons.1 hg).elim (fun h => absurd (h ▸ hs) he) fun h => hne g h hs⟩

theorem Clu.flush_cleared (now : Nat) (c : Clu) : (c.flush now).clu.Cleared := by
  intro f hf
  obtain ⟨hin, hne⟩ := Clu.flushEach_entries now c.entries c hf
  exact Bool.eq_false_iff.2 fun hs => hne f hin hs rfl

end

/-! ## The part under the entry to FULL -/

section
variable {s : State}

theorem State.takeCuts_cleared (h : s.clu.Cleared) : s.takeCuts.clu.Cleared := by
  unfold State.takeCuts
  split
  · exact h
  · exact h.cut _ _

theorem State.takeDrop_clu (b : Bool) (s : State) : (s.takeDrop b).clu = s.clu := by
  unfold State.takeDrop
  split <;> rfl

theorem State.regate_cleared (h : s.clu.Cleared) : s.regate.clu.Cleared :=
  State.takeCuts_cleared (by rwa [State.takeDrop_clu])

theorem State.withClu_cleared {f : Clu → CluOut} (h : (f s.clu).clu.Cleared) : (s.withClu f).clu.Cleared :=
  State.regate_cleared (s := s.putClu (f s.clu)) h

theorem State.cancelKept_cleared (id : Option Nat) (h : s.clu.Cleared) : (s.cancelKept id).1.clu.Cleared := by
  unfold State.cancelKept
  split
  · exact h
  · split
    · exact State.withClu_cleared (h.cancel _ _)
    · exact h

theorem State.announce_cleared (n : Nat) {f : Template → Template} (hf : ∀ t, isShowOrHouse (f t).cls = false)
    (h : s.clu.Cleared) : (s.announce n f).1.clu.Cleared := by
  unfold State.announce
  split
  · exact h
  · exact State.regate_cleared (s := s.putClu _) (h.decideCall _ _ _ (hf _))

theorem State.fullCalls_cleared (h : s.clu.Cleared) : s.fullCalls.1.clu.Cleared :=
  State.announce_cleared _ (fun _ => rfl) (State.cancelKept_cleared _ h)

/-- FDU's calls and the flush leave no SHOW or HOUSE call, in whichever order they come. -/
theorem State.callsAndFlush_cleared (s : State) : s.callsAndFlush.1.clu.Cleared := by
  dsimp only [State.callsAndFlush]
  split
  · exact State.fullCalls_cleared (State.withClu_cleared (Clu.flush_cleared _ _))
  · exact State.withClu_cleared (Clu.flush_cleared _ _)

theorem State.takeArrival_clu (r : CtcReport) (s : State) : (s.takeArrival r).clu = s.clu := by
  unfold State.takeArrival
  split
  · split <;> rfl
  · rfl

theorem State.takeArrival_ilu (r : CtcReport) (s : State) : (s.takeArrival r).ilu = s.ilu := by
  unfold State.takeArrival
  split
  · split <;> rfl
  · rfl

theorem State.takeArrival_ctc (r : CtcReport) (s : State) : (s.takeArrival r).ctc = s.ctc := by
  unfold State.takeArrival
  split
  · split <;> rfl
  · rfl

/-- What PFU takes of arrivals shows in its own record and in its notices. -/
theorem State.takeArrivals_frame (rs : List CtcReport) (s : State) :
    let t := rs.foldl (fun s r => s.takeArrival r) s
    t.clu = s.clu ∧ t.ilu = s.ilu ∧ t.ctc = s.ctc := by
  induction rs generalizing s with
  | nil => exact ⟨rfl, rfl, rfl⟩
  | cons r rs ih =>
    obtain ⟨h1, h2, h3⟩ := ih (s.takeArrival r)
    exact ⟨h1.trans (s.takeArrival_clu r), h2.trans (s.takeArrival_ilu r), h3.trans (s.takeArrival_ctc r)⟩

theorem State.takeForcing_cleared (b : Bool) (h : s.clu.Cleared) : (s.takeForcing b).clu.Cleared := by
  unfold State.takeForcing
  split
  · exact State.regate_cleared h
  · have hk := (State.takeArrivals_frame (s.moveCurtain fun e c => c.onForced e).2 (s.moveCurtain fun e c => c.onForced e).1).1
    rw [State.move, hk]
    exact State.regate_cleared (s := State.notifyAll _ { s with ctc := _ }) h

end

/-! ## The gates that are shut (R174) -/

/-- HOIST, RELEASE and the relay of the emergency lighting are de-energised. -/
def State.Shut (s : State) : Prop := s.ilu.hoist.line = false ∧ s.ilu.release.line = false ∧ s.ilu.relay.line = false

theorem hoistForced_of_forced {s : State} (h : s.forced = true) : hoistForced s = true := by
  simp only [State.forced, Bool.or_eq_true, decide_eq_true_eq] at h
  rcases h with h | h <;> simp [hoistForced, h]

theorem State.gates_release (s : State) : s.gates.ilu.release.line = (s.ctc.releaseDemand && !s.forced) := by
  simp [Ilu.next, safeForcing_isEmpty]
  rfl

theorem State.gates_shut {s : State} (h : s.forced = true) : s.gates.Shut := by
  refine ⟨?_, ?_, ?_⟩
  · rw [State.gates_hoist, hoistForced_of_forced h, Bool.not_true, Bool.and_false]
  · rw [State.gates_release, h, Bool.not_true, Bool.and_false]
  · rw [State.gates_relay, h, Bool.not_true, Bool.and_false]

theorem State.regate_shut {s : State} (h : s.forced = true) : s.regate.Shut := by
  have hd : (s.gates.takeDrop s.ilu.relay.line).Shut ∧ (s.gates.takeDrop s.ilu.relay.line).forced = true := by
    unfold State.takeDrop
    split
    · exact ⟨State.gates_shut h, h⟩
    · exact ⟨State.gates_shut h, h⟩
  unfold State.regate State.takeCuts
  split
  · exact hd.1
  · exact State.gates_shut hd.2

theorem State.takeForcing_shut (b : Bool) {s : State} (h : s.forced = true) : (s.takeForcing b).Shut := by
  unfold State.takeForcing
  split
  · exact State.regate_shut h
  · have hk := (State.takeArrivals_frame (s.moveCurtain fun e c => c.onForced e).2
      (s.moveCurtain fun e c => c.onForced e).1).2.1
    have hs : (s.moveCurtain fun e c => c.onForced e).1.Shut :=
      State.regate_shut (s := State.notifyAll _ { s with ctc := _ }) h
    unfold State.Shut at hs ⊢
    rw [← hk] at hs
    exact hs

/-! ## The curtain that falls (R53, R64) -/

/-- The curtain is down, or comes down in a descent that cannot be stopped. -/
def Ctc.Falls (c : Ctc) : Prop := c.state = .down ∨ c.cause = some .emergency ∨ c.cause = some .reset

theorem Ctc.startDescent_falls (e : CtcEnv) (c : Ctc) : (c.startDescent e .emergency).ctc.Falls := by
  cases hf : c.floor
  · rw [Ctc.startDescent_open hf]
    exact .inr (.inl (congrArg some (Ctc.opened_cause _ _ _)))
  · rw [Ctc.startDescent_floor hf]
    exact .inl rfl

theorem Ctc.onForced_falls {e : CtcEnv} {c : Ctc} (ho : CurtainOk c) (he : e.forced = true) : (c.onForced e).ctc.Falls := by
  unfold Ctc.onForced
  split
  · next h => exact .inl h
  · unfold Ctc.raiseDenied
    rw [if_pos he]
    exact Ctc.startDescent_falls e _
  · exact Ctc.startDescent_falls e c
  · exact Ctc.startDescent_falls e c
  · exact Ctc.startDescent_falls e c
  · next h =>
    obtain ⟨d, hd⟩ := Option.isSome_iff_exists.1 (ho.descent.2 h)
    have hc : c.cause = some d.record.cause := by rw [Ctc.cause, hd]; rfl
    have hx : ∀ k, (c.changeCause e k).ctc.cause = some k := fun k => by
      simp [Ctc.changeCause, Ctc.cause, Ctc.onDescent, hd]
    cases hk : d.record.cause <;> simp only [hc, hk]
    case test => exact .inr (.inl (hx _))
    case request => exact .inr (.inl (hx _))
    case stop => exact .inr (.inl (hx _))
    case emergency => exact .inr (.inl (hc.trans (congrArg some hk)))
    case reset => exact .inr (.inr (hc.trans (congrArg some hk)))

/-- Where no RELEASE forcing condition was in force before, the curtain reacts; else it fell already. -/
theorem State.takeForcing_falls {b : Bool} {s : State} (ho : CurtainOk s.ctc) (h : s.forced = true)
    (hb : b = true → s.ctc.Falls) : (s.takeForcing b).ctc.Falls := by
  unfold State.takeForcing
  split
  · next hw =>
    rw [State.regate_ctc]
    exact hb hw
  · have hk := (State.takeArrivals_frame (s.moveCurtain fun e c => c.onForced e).2
      (s.moveCurtain fun e c => c.onForced e).1).2.2
    rw [State.move, hk]
    have hc : (s.moveCurtain fun e c => c.onForced e).1.ctc = (s.ctc.onForced s.ctcEnv).ctc := by
      rw [State.moveCurtain]
      dsimp only
      rw [State.regate_ctc]
      rfl
    rw [hc]
    exact Ctc.onForced_falls ho h

/-! ## What the reactions keep -/

theorem State.putCalls_kept (s : State) (a b : Option Nat) :
    Kept s { s with fdu := s.fdu.setFire { s.fdu.fire with staffCall := a, evacCall := b } } :=
  ⟨⟨rfl, rfl, rfl, rfl, rfl, rfl, rfl, rfl, rfl, fun h => h⟩, rfl, rfl, rfl, ⟨rfl, fun _ _ h _ => h⟩, ⟨rfl, fun h => h⟩, [], rfl⟩

theorem State.fullCalls_kept (s : State) : Kept s s.fullCalls.1 :=
  ((State.cancelKept_kept _ s).trans (State.announce_kept _ _ _)).trans (State.putCalls_kept _ _ _)

theorem State.callsAndFlush_kept (s : State) : Kept s s.callsAndFlush.1 := by
  dsimp only [State.callsAndFlush]
  split
  · exact ((State.drawn_kept s).trans (State.withClu_kept _ _)).trans (State.fullCalls_kept _)
  · exact ((State.drawn_kept s).trans (State.fullCalls_kept _)).trans (State.withClu_kept _ _)

theorem State.takeForcing_kept (b : Bool) (s : State) : Kept s (s.takeForcing b) := by
  unfold State.takeForcing
  split
  · exact State.regate_kept s
  · exact State.move_kept _ s

theorem State.withClu_ctc (f : Clu → CluOut) (s : State) : (s.withClu f).ctc = s.ctc := by
  rw [State.withClu, State.regate_ctc, State.putClu_ctc]

theorem State.cancelKept_ctc (id : Option Nat) (s : State) : (s.cancelKept id).1.ctc = s.ctc := by
  unfold State.cancelKept
  split
  · rfl
  · split
    · exact State.withClu_ctc _ s
    · rfl

theorem State.announce_ctc (n : Nat) (f : Template → Template) (s : State) : (s.announce n f).1.ctc = s.ctc := by
  unfold State.announce
  split
  · rfl
  · show (State.regate _).ctc = s.ctc
    rw [State.regate_ctc, State.putClu_ctc]

theorem State.fullCalls_ctc (s : State) : s.fullCalls.1.ctc = s.ctc :=
  (State.announce_ctc _ _ _).trans (State.cancelKept_ctc _ s)

theorem State.callsAndFlush_ctc (s : State) : s.callsAndFlush.1.ctc = s.ctc := by
  dsimp only [State.callsAndFlush]
  split
  · rw [State.fullCalls_ctc, State.withClu_ctc]
    rfl
  · rw [State.withClu_ctc, State.fullCalls_ctc]
    rfl

end Sys2Proof.Machine
end

section
/-!
EVACUATE, as PFU decides it whoever asks, and as a request.
-/

namespace Sys2Proof.Safety

open Sys2Proof.Machine

theorem Kept.forced {s t : State} (h : Kept s t) : t.forced = s.forced := by
  have hf : t.fdu.fire.state = s.fdu.fire.state := by rw [h.untouched.fire]; rfl
  have hp : t.phase = s.phase := h.record.phase
  rw [Bool.eq_iff_iff]
  simp only [State.forced, State.fireFull, Bool.or_eq_true, decide_eq_true_eq, hf, hp]

end Sys2Proof.Safety

namespace Sys2Proof.Machine

open Sys2Proof.Safety

/-! ## What meets a RELEASE forcing condition -/

/-- From `b`, which is under a RELEASE forcing condition, the part has come to `u`. -/
structure ForcingMet (b u : State) : Prop where
  kept  : Kept b u
  shut  : u.Shut
  falls : u.ctc.Falls

theorem State.takeForcing_met {b n : State} {w : Bool} (hk : Kept b n) (hc : n.ctc = b.ctc) (ho : CurtainOk b.ctc)
    (hf : b.forced = true) (hw : w = true → b.ctc.Falls) : ForcingMet b (n.takeForcing w) := by
  have hn : n.forced = true := hk.forced.trans hf
  exact ⟨hk.trans (State.takeForcing_kept w n), State.takeForcing_shut w hn,
    State.takeForcing_falls (hc ▸ ho) hn (hc ▸ hw)⟩

/-! ## The entry to EVACUATE by a request (R15, R16) -/

/-- The record at an entry to EVACUATE by a request, with its notices. -/
def State.evacuated (src : Source) (s : State) : State :=
  s.evacuateRecord.notify (s.evacuateRecord.pfu.perf.phaseNote (.request .evacuate src) none)

/-- What the entry to EVACUATE begins with: the record, and the entry to FULL where the fire state is not FULL. -/
def State.evacuationBase (src : Source) (s : State) : State :=
  if s.fdu.fire.state = .full then s.evacuated src else s.evacuateFull src

section
variable (src : Source) (s : State)

theorem State.evacuationBase_cases {P : State → Prop} (h : P (s.evacuated src)) (k : P (s.evacuateFull src)) :
    P (s.evacuationBase src) := by
  unfold State.evacuationBase
  split
  · exact h
  · exact k

theorem State.evacuationBase_pfu :
    (s.evacuationBase src).pfu = (s.pfu.skipAll.1.setPerf (s.pfu.perf.evacuate s.now)).refresh :=
  State.evacuationBase_cases src s (P := fun u => u.pfu = _) rfl rfl

theorem State.evacuationBase_ctc : (s.evacuationBase src).ctc = s.ctc :=
  State.evacuationBase_cases src s (P := fun u => u.ctc = _) rfl rfl

/-- The blocks that the entry to EVACUATE does not reach. -/
theorem State.evacuationBase_frame : Only [.performance, .fire, .link] s (s.evacuationBase src) := by
  refine State.evacuationBase_cases src s (fun p hp => ?_) (fun p hp => ?_) <;>
    cases p <;> simp_all [Part.same, State.evacuated, State.evacuateFull, State.evacuateRecord, State.fullRecord, State.putFdu]

theorem State.evacuationBase_full : (s.evacuationBase src).fireFull = true := by
  unfold State.evacuationBase
  split
  · next h => exact decide_eq_true h
  · exact decide_eq_true rfl

theorem State.evacuationBase_forced : (s.evacuationBase src).forced = true := by
  rw [State.forced, State.evacuationBase_full, Bool.true_or]

/-- The notices of the record come first. -/
theorem State.evacuationBase_told : ∃ cs, (s.evacuationBase src).lp = (s.notifyAll (s.pfu.skipAll.2 ++
    .phase .evacuate s.pfu.perf.act s.pfu.perf.intervalNo (.request .evacuate src) .none s.pfu.perf.stops none :: cs)).lp := by
  have he : ∀ cs, ((s.evacuated src).notifyAll cs).lp = (s.notifyAll (s.pfu.skipAll.2 ++
      .phase .evacuate s.pfu.perf.act s.pfu.perf.intervalNo (.request .evacuate src) .none s.pfu.perf.stops none :: cs)).lp := by
    intro cs
    rw [List.append_cons, ← State.notifyAll_append, ← State.notifyAll_append]
    rfl
  unfold State.evacuationBase
  split
  · exact ⟨[], he []⟩
  · refine ⟨s.fdu.fire.walkNote .full ++ (((s.evacuated src).fdu.setFire
      (s.fdu.fire.enterFull s.now .evacuate)).endIsolations s.settings).notes, ?_⟩
    rw [← he, ← State.notifyAll_append]
    rfl

end

theorem State.enterEvacuate_met (src : Source) {s : State} (ho : CurtainOk s.ctc) (hf : s.forced = true → s.ctc.Falls) :
    ForcingMet (s.evacuationBase src) (s.enterEvacuate src) ∧ (s.enterEvacuate src).clu.Cleared := by
  have hc := State.evacuationBase_ctc src s
  have hb := State.evacuationBase_forced src s
  have met : ∀ n, Kept (s.evacuationBase src) n → n.ctc = (s.evacuationBase src).ctc → n.clu.Cleared →
      ForcingMet (s.evacuationBase src) (n.takeForcing s.forced) ∧ (n.takeForcing s.forced).clu.Cleared :=
    fun n hk hn hq => ⟨State.takeForcing_met hk hn (hc ▸ ho) hb (hc ▸ hf), State.takeForcing_cleared _ hq⟩
  by_cases h : s.fdu.fire.state = .full
  · have e : s.enterEvacuate src = ((s.evacuated src).withClu (Clu.flush s.now)).takeForcing s.forced := by
      simp only [State.enterEvacuate, h, if_true]
      rfl
    rw [show s.evacuationBase src = s.evacuated src from if_pos h] at met ⊢
    rw [e]
    exact met _ (State.withClu_kept _ _) (State.withClu_ctc _ _) (State.withClu_cleared (Clu.flush_cleared _ _))
  · have e : s.enterEvacuate src = ((s.evacuateFull src).callsAndFlush.1.notify
        ((s.evacuateFull src).callsAndFlush.1.fdu.fire.note s.fdu.fire.state (s.evacuateFull src).callsAndFlush.2.1
          (s.evacuateFull src).callsAndFlush.2.2)).takeForcing s.forced := by
      simp only [State.enterEvacuate, h, if_false]
      rfl
    rw [show s.evacuationBase src = s.evacuateFull src from if_neg h] at met ⊢
    rw [e]
    exact met _ ((State.callsAndFlush_kept _).trans (State.notify_kept _ _)) (State.callsAndFlush_ctc _)
      (State.callsAndFlush_cleared _)

/-- A table that a reaction leaves to follow and that holds no PENDING step stands. -/
theorem table_eq_of_settled {f g : Pfu} (h : TableFollows f g) (hn : ∀ e ∈ f.table, e ≠ .pending) : g.table = f.table := by
  refine List.ext_getElem? fun i => ?_
  cases hi : f.table[i]? with
  | some e => exact h.settled i e hi (hn e (List.mem_of_getElem? hi))
  | none => exact List.getElem?_eq_none (h.length ▸ List.getElem?_eq_none_iff.1 hi)

theorem skipAll_settled (f : Pfu) : ∀ e ∈ f.skipAll.1.table, e ≠ .pending := by
  intro e he
  obtain ⟨g, _, rfl⟩ := List.mem_map.1 he
  split
  · decide
  · assumption

/-- EVACUATE has been accepted in `s`, and the part has met it. -/
structure Evacuates (src : Source) (s u : State) : Prop where
  now      : u.now = s.now
  held     : u.held = s.held
  settings : u.settings = s.settings
  store    : u.store = s.store
  lmu      : u.lmu = s.lmu
  dsu      : u.dsu = s.dsu
  pending  : u.pending = s.pending
  copy     : u.pfu.runningCopy = s.pfu.runningCopy
  record   : RecordIs (s.pfu.perf.evacuate s.now) u.pfu.perf
  table    : u.pfu.table = s.pfu.skipAll.1.table
  told     : ∃ cs, u.lp = (s.notifyAll (s.pfu.skipAll.2 ++
    .phase .evacuate s.pfu.perf.act s.pfu.perf.intervalNo (.request .evacuate src) .none s.pfu.perf.stops none :: cs)).lp
  full     : u.fireFull = true
  fire     : s.fireFull = false → u.fdu.fire.cause = some .evacuate ∧ u.fdu.fire.silenced = false ∧
    u.fdu.fire.timer = none ∧ u.fdu.fire.entry = s.now ∧ u.fdu.fire.walk = none ∧
    u.fdu.isolation = List.replicate 16 none
  cleared  : u.clu.Cleared
  shut     : u.Shut
  falls    : u.ctc.Falls

theorem State.enterEvacuate_evacuates (src : Source) {s : State} (ho : CurtainOk s.ctc) (hf : s.forced = true → s.ctc.Falls) :
    Evacuates src s (s.enterEvacuate src) := by
  obtain ⟨m, hq⟩ := State.enterEvacuate_met src ho hf
  have hb := State.evacuationBase_frame src s
  have hpfu := State.evacuationBase_pfu src s
  have hfull := State.evacuationBase_full src s
  obtain ⟨bs, hbs⟩ := State.evacuationBase_told src s
  have hnf : s.fireFull = false → s.evacuationBase src = s.evacuateFull src := fun hn =>
    if_neg (by simpa [State.fireFull] using hn)
  generalize s.enterEvacuate src = u at m hq
  obtain ⟨kept, shut, falls⟩ := m
  obtain ⟨cs, hcs⟩ := kept.notices
  have hu := kept.untouched
  have hnow : (s.evacuationBase src).now = s.now := hb .uptime (by decide)
  refine ⟨hu.now.trans hnow, hu.held.trans (hb .reset (by decide)),
    hu.settings.trans (hb .settings (by decide)), hu.store.trans (hb .store (by decide)),
    hu.lmu.trans (hb .monitor (by decide)), hu.dsu.trans (hb .desk (by decide)),
    hu.pending.trans (hb .queue (by decide)), ?_, ?_, ?_, ⟨bs ++ cs, ?_⟩, ?_, fun hn => ?_, hq, shut, falls⟩
  · rw [kept.runningCopy, hpfu]
    rfl
  · have hr := kept.record
    rw [hpfu] at hr
    exact hr
  · have ht := kept.table
    rw [hpfu] at ht
    have hk := table_eq_of_settled ht fun e he => skipAll_settled s.pfu e he
    exact hk
  · rw [hcs, ← List.cons_append, ← List.append_assoc, ← State.notifyAll_append]
    simp only [State.notifyAll, hbs, hnow]
  · have hs : u.fdu.fire.state = (s.evacuationBase src).fdu.fire.state := by rw [hu.fire]; rfl
    exact decide_eq_true (hs.trans (of_decide_eq_true hfull))
  · have hfd := hu.fire
    rw [hnf hn] at hfd
    rw [hfd]
    exact ⟨rfl, rfl, rfl, rfl, rfl, rfl⟩

/-! ## EVACUATE as a request -/

theorem evacuablePhase_iff (p : Phase) : evacuablePhase p = true ↔ p ≠ .dark ∧ p ≠ .evacuate ∧ p ≠ .closed := by
  cases p <;> decide

theorem State.decideEvacuate_eq (src : Source) {s : State} (h : evacuablePhase s.phase = true) :
    s.decideEvacuate src = (s.enterEvacuate src, .done (s.enterEvacuate src).phaseBody) := if_pos h

theorem State.decideEvacuate_refused (src : Source) {s : State} (h : evacuablePhase s.phase = false) :
    s.decideEvacuate src = (s, .refused .wrongPhase .none) := if_neg (by simp [h])

/-- Settles O22: EVACUATE clears the house, and is refused with SHOW-STOP in the other phases. -/
theorem evacuateClearsTheHouse : Obligations.EvacuateClearsTheHouse := by
  refine ⟨fun s ha ho hf h1 h2 h3 => ?_, fun s ha => ⟨fun hp => ?_, fun hp => ?_⟩⟩
  · have hp : evacuablePhase s.hunting.phase = true := (evacuablePhase_iff _).2 ⟨h1, h2, h3⟩
    have hd := State.decideEvacuate_eq .link hp
    have k := State.enterEvacuate_evacuates .link (s := s.hunting) ho (hf ha.released)
    generalize s.hunting.enterEvacuate .link = u at k hd
    have hbody : u.phaseBody = .phase .evacuate s.pfu.perf.act s.pfu.perf.intervalNo := by
      simp only [State.phaseBody, State.phase, k.record.phase, k.record.act, k.record.intervalNo]
      rfl
    rw [hbody] at hd
    obtain ⟨cs, hcs⟩ := k.told
    obtain ⟨hh, hr, hl⟩ := k.shut
    exact ⟨_, exec_of_decided ha rfl hd, k.now, k.held.trans ha.released, k.settings, k.store, k.lmu, k.dsu, k.pending,
      k.copy, k.record, k.table, ⟨cs, State.replied_replies hcs _ _⟩, k.full, k.fire,
      fun e he => isShowOrHouse_false (k.cleared e he), hh, hr, hl, fun _ _ => k.falls⟩
  · refine refuses_of_decided (d := State.decideShowStop .link) ha rfl
      (State.decideShowStop_refused (s := s.hunting) .link ?_)
    rcases hp with hp | hp | hp | hp | hp <;> exact congrArg stopPhase hp
  · refine refuses_of_decided (d := State.decideEvacuate .link) ha rfl
      (State.decideEvacuate_refused (s := s.hunting) .link ?_)
    rcases hp with hp | hp | hp <;> exact congrArg evacuablePhase hp

end Sys2Proof.Machine
end

section
/-!
Calls as CLU decides them, whoever makes them: the id an admitted call takes, the entry it leaves in the queue, and the gates,
which a call leaves as the denials of the moment give them.
-/

namespace Sys2Proof.Machine

open Sys2Proof.Safety

/-! ## A fresh id (R156) -/

theorem Clu.entries_le (c : Clu) : c.entries.length ≤ c.poolInUse + (c.reservedInUse .plan + c.reservedInUse .desk +
    c.reservedInUse .link + c.reservedInUse .safety) := by
  unfold Clu.poolInUse Clu.reservedInUse
  induction c.entries with
  | nil => exact Nat.zero_le _
  | cons e es ih => cases hp : e.pool <;> cases hs : e.source <;> simp [hp, hs] <;> omega

/-- Reservations and pool leave more ids than entries. -/
theorem Clu.entries_lt {c : Clu} (hq : QueueOk c) : c.entries.length < 255 := by
  have h := c.entries_le
  have h1 := hq.reserved .plan
  have h2 := hq.reserved .desk
  have h3 := hq.reserved .link
  have h4 := hq.reserved .safety
  have h5 := hq.pool
  simp only [reservation] at h1 h2 h3 h4
  omega

/-- The ids in the order in which they are tried. -/
def idsFrom (n : Nat) : List Nat := (List.range 255).map fun k => (n - 1 + k) % 255 + 1

theorem idsFrom_nodup (n : Nat) : (idsFrom n).Nodup := by
  refine List.Nodup.map_on (fun a ha b hb h => ?_) List.nodup_range
  rw [List.mem_range] at ha hb
  omega

theorem mem_idsFrom {n i : Nat} (h : i ∈ idsFrom n) : 1 ≤ i ∧ i ≤ 255 := by
  obtain ⟨k, -, rfl⟩ := List.mem_map.1 h
  omega

theorem Clu.freshId_spec {c : Clu} (h : c.entries.length < 255) :
    (1 ≤ c.freshId ∧ c.freshId ≤ 255) ∧ ∀ f ∈ c.entries, f.id ≠ c.freshId := by
  have hdef : c.freshId = ((idsFrom c.nextId).find? fun i => c.entries.all fun e => e.id ≠ i).getD c.nextId := rfl
  cases hf : (idsFrom c.nextId).find? fun i => c.entries.all fun e => e.id ≠ i with
  | some i =>
    rw [hdef, hf]
    refine ⟨mem_idsFrom (List.mem_of_find?_eq_some hf), ?_⟩
    simpa using List.find?_some hf
  | none =>
    exfalso
    have hsub : idsFrom c.nextId ⊆ c.entries.map (·.id) := by
      intro i hi
      simpa using List.find?_eq_none.1 hf i hi
    have hle := ((idsFrom_nodup c.nextId).subperm hsub).length_le
    simp only [idsFrom, List.length_map, List.length_range] at hle
    omega

/-! ## An entry that stays (R158, R166) -/

/-- The queue holds an entry, in whatever state. -/
def Clu.Holds (c : Clu) (e : CallEntry) : Prop := ∃ f ∈ c.entries, f = { e with state := f.state }

section
variable {c : Clu} {e : CallEntry}

theorem Clu.holds_of_mem (h : e ∈ c.entries) : c.Holds e := ⟨e, h, rfl⟩

theorem Clu.Holds.remove (h : c.Holds e) {g : CallEntry} (hg : e.id ≠ g.id) (cause : RemovalCause) :
    (c.remove g cause).clu.Holds e := by
  obtain ⟨f, hf, hfe⟩ := h
  have hid : f.id = e.id := by rw [hfe]
  exact ⟨f, List.mem_filter.2 ⟨hf, by simpa [hid] using hg⟩, hfe⟩

/-- A change of the state of one entry. -/
theorem Clu.Holds.setState (h : c.Holds e) (id : Nat) (st : EntryState) :
    (c.modify id fun f => { f with state := st }).Holds e := by
  obtain ⟨f, hf, hfe⟩ := h
  refine ⟨_, List.mem_map_of_mem hf, ?_⟩
  split <;> rw [hfe]

theorem Clu.ids_remove (g : CallEntry) (cause : RemovalCause) (h : (c.entries.map (·.id)).Nodup) :
    ((c.remove g cause).clu.entries.map (·.id)).Nodup := h.sublist (List.filter_sublist.map _)

theorem Clu.ids_modify (id : Nat) {f : CallEntry → CallEntry} (hf : ∀ e, (f e).id = e.id) :
    (c.modify id f).entries.map (·.id) = c.entries.map (·.id) := by
  simp only [Clu.modify, List.map_map]
  refine List.map_congr_left fun e _ => ?_
  simp only [Function.comp]
  split
  · exact hf e
  · rfl

theorem Clu.firstQueued_mem (h : c.firstQueued = some e) : e ∈ c.entries :=
  c.ordered_perm.mem_iff.1 (List.mem_of_find?_eq_some h)

/-- Selection removes only entries that are barred. -/
theorem Clu.selectFrom_holds {now : Nat} {phase : Phase} (k : Nat) (hn : (c.entries.map (·.id)).Nodup)
    (h : c.Holds e) (hz : playZones phase e.cls e.zones ≠ 0) : (c.selectFrom now phase k).clu.Holds e := by
  induction k generalizing c with
  | zero => exact h
  | succ k ih =>
    unfold Clu.selectFrom
    split
    · exact h
    · next g hg =>
      dsimp only
      split
      · next hb =>
        refine ih (Clu.ids_remove g _ hn) (h.remove ?_ _)
        intro hid
        obtain ⟨f, hf, hfe⟩ := h
        have hfid : f.id = g.id := by rw [hfe]; exact hid
        have hfg : f = g := List.inj_on_of_nodup_map hn hf (Clu.firstQueued_mem hg) hfid
        refine hz ?_
        have hk : playZones phase g.cls g.zones = playZones phase e.cls e.zones := by rw [← hfg, hfe]
        exact hk ▸ hb.2.2
      · exact h.setState _ _

theorem Clu.preempt_holds {now : Nat} {cls : CallClass} (h : c.Holds e)
    (hp : ∀ g, c.playing = some g → e.id = g.id → isShowOrHouse g.cls = isShowOrHouse cls) :
    (c.preempt now cls).clu.Holds e := by
  unfold Clu.preempt
  split
  · exact h
  · next g hg =>
    split
    · next hc =>
      refine Clu.Holds.remove (c := c.stop now) h (fun hid => ?_) _
      have := hp g hg hid
      rw [hc.1, hc.2] at this
      cases this
    · split
      · exact Clu.Holds.setState (c := c.stop now) h _ _
      · exact h

theorem Clu.ids_preempt {now : Nat} {cls : CallClass} (hn : (c.entries.map (·.id)).Nodup) :
    ((c.preempt now cls).clu.entries.map (·.id)).Nodup := by
  unfold Clu.preempt
  split
  · exact hn
  · next g _ =>
    split
    · exact Clu.ids_remove (c := c.stop now) _ _ hn
    · split
      · show (List.map (·.id) (Clu.modify _ _ (c.stop now)).entries).Nodup
        have hi := Clu.ids_modify (c := c.stop now) g.id (f := fun f => { f with state := .queued }) fun _ => rfl
        rw [hi]
        exact hn
      · exact hn

theorem Clu.arrived_holds {now : Nat} {phase : Phase} {cls : CallClass} (hn : (c.entries.map (·.id)).Nodup)
    (h : c.Holds e) (hp : ∀ g, c.playing = some g → e.id = g.id → isShowOrHouse g.cls = isShowOrHouse cls)
    (hz : playZones phase e.cls e.zones ≠ 0) : (c.arrived now phase cls).clu.Holds e := by
  have hk := Clu.preempt_holds (now := now) h hp
  show (Clu.select now phase (c.preempt now cls).clu).clu.Holds e
  unfold Clu.select
  split
  · exact Clu.selectFrom_holds _ (Clu.ids_preempt hn) hk hz
  · exact hk

/-- Neither preemption nor selection hands out ids or arrival orders. -/
theorem Clu.selectFrom_next (now : Nat) (phase : Phase) (k : Nat) (c : Clu) :
    (c.selectFrom now phase k).clu.nextId = c.nextId ∧ (c.selectFrom now phase k).clu.nextArrival = c.nextArrival := by
  induction k generalizing c with
  | zero => exact ⟨rfl, rfl⟩
  | succ k ih =>
    unfold Clu.selectFrom
    split
    · exact ⟨rfl, rfl⟩
    · dsimp only
      split
      · exact ih _
      · exact ⟨rfl, rfl⟩

theorem Clu.arrived_next (now : Nat) (phase : Phase) (cls : CallClass) (c : Clu) :
    (c.arrived now phase cls).clu.nextId = c.nextId ∧ (c.arrived now phase cls).clu.nextArrival = c.nextArrival := by
  have hp : (c.preempt now cls).clu.nextId = c.nextId ∧ (c.preempt now cls).clu.nextArrival = c.nextArrival := by
    unfold Clu.preempt
    split
    · exact ⟨rfl, rfl⟩
    · split
      · exact ⟨rfl, rfl⟩
      · split <;> exact ⟨rfl, rfl⟩
  have hs : ∀ d : Clu, (d.select now phase).clu.nextId = d.nextId ∧ (d.select now phase).clu.nextArrival = d.nextArrival := by
    intro d
    unfold Clu.select
    split
    · exact Clu.selectFrom_next now phase _ d
    · exact ⟨rfl, rfl⟩
  exact ⟨(hs _).1.trans hp.1, (hs _).2.trans hp.2⟩

end

/-! ## No audience relay is denied (R168, R174) -/

/-- No SHOW or HOUSE call plays to an audience zone in RUNNING. -/
def Clu.Unbarred (phase : Phase) (c : Clu) : Prop :=
  phase = .running → ∀ e ∈ c.entries, isShowOrHouse e.cls = true → ∀ z, e.state = .playing z → z &&& audienceZones = 0

theorem withoutAudience_audience (z : ZoneSet) : withoutAudience z &&& audienceZones = 0 := by
  revert z
  decide +kernel

section
variable {c : Clu} {phase : Phase}

theorem Clu.Unbarred.remove (h : c.Unbarred phase) (e : CallEntry) (cause : RemovalCause) :
    (c.remove e cause).clu.Unbarred phase := fun hp f hf => h hp f (List.mem_filter.1 hf).1

theorem Clu.Unbarred.modify (h : c.Unbarred phase) (id : Nat) {f : CallEntry → CallEntry}
    (hf : phase = .running → ∀ e ∈ c.entries, e.id = id → isShowOrHouse (f e).cls = true → ∀ z, (f e).state = .playing z →
      z &&& audienceZones = 0) : (c.modify id f).Unbarred phase := by
  intro hp e he
  obtain ⟨g, hg, rfl⟩ := List.mem_map.1 he
  split
  · next hi => exact hf hp g hg hi
  · exact h hp g hg

/-- A play that selection begins is made without the audience zones where they are barred. -/
theorem Clu.Unbarred.selectFrom (h : c.Unbarred phase) (hn : (c.entries.map (·.id)).Nodup) (now k : Nat) :
    (c.selectFrom now phase k).clu.Unbarred phase := by
  induction k generalizing c with
  | zero => exact h
  | succ k ih =>
    unfold Clu.selectFrom
    split
    · exact h
    · next g hg =>
      dsimp only
      split
      · exact ih (h.remove _ _) (Clu.ids_remove _ _ hn)
      · refine Clu.Unbarred.modify h _ fun hp e he hi hs z hz => ?_
        have heg : e = g := List.inj_on_of_nodup_map hn he (Clu.firstQueued_mem hg) hi
        cases hz
        rw [playZones, if_pos ⟨hp, heg ▸ hs⟩]
        exact withoutAudience_audience _

theorem Clu.Unbarred.preempt (h : c.Unbarred phase) (now : Nat) (cls : CallClass) : (c.preempt now cls).clu.Unbarred phase := by
  unfold Clu.preempt
  split
  · exact h
  · split
    · exact Clu.Unbarred.remove (c := c.stop now) h _ _
    · split
      · exact Clu.Unbarred.modify (c := c.stop now) h _ fun _ _ _ _ _ _ hz => nomatch hz
      · exact h

theorem Clu.Unbarred.arrived (h : c.Unbarred phase) (hn : (c.entries.map (·.id)).Nodup) (now : Nat) (cls : CallClass) :
    (c.arrived now phase cls).clu.Unbarred phase := by
  show (Clu.select now phase (c.preempt now cls).clu).clu.Unbarred phase
  unfold Clu.select
  split
  · exact (h.preempt now cls).selectFrom (Clu.ids_preempt hn) now _
  · exact h.preempt now cls

end

/-- There is one PLAYING entry at most. -/
theorem Clu.playing_of_state {c : Clu} {e : CallEntry} {z : ZoneSet} (hq : QueueOk c) (he : e ∈ c.entries)
    (hz : e.state = .playing z) : c.playing = some e := by
  have hmem : e ∈ c.entries.filter fun f => f.state.effective.isSome :=
    List.mem_filter.2 ⟨he, by rw [hz]; rfl⟩
  have hlen : (c.entries.filter fun f => f.state.effective.isSome).length ≤ 1 := by
    rw [hq.playing]
    split <;> omega
  unfold Clu.playing
  rw [← List.head?_filter]
  obtain ⟨f, hf⟩ := List.length_eq_one_iff.1 (le_antisymm hlen (List.length_pos_of_mem hmem))
  rw [hf] at hmem ⊢
  rw [List.mem_singleton.1 hmem]
  rfl

/-- Under current gates that deny no audience relay, no call plays where it is barred. -/
theorem State.Current.unbarred {s : State} (h : s.Current) (hq : QueueOk s.clu) : s.clu.Unbarred s.phase := by
  intro hp e he hs z hz
  have hpl : s.clu.playing = some e := Clu.playing_of_state hq he hz
  have hd := Ilu.next_deniedZones (v := s.iluView) (d := s.clu.demanded) rfl rfl rfl hp
    (Clu.showPlay_of_playing hpl ((isShowOrHouse_iff _).1 hs)) s.ilu
  rw [h.1, h.2, (Clu.demanded_playing hq hpl hz).2] at hd
  exact hd.symm

theorem State.gates_denyNone {s : State} (h : s.clu.Unbarred s.phase) : s.gates.ilu.deniedZones = 0 := by
  by_cases hp : s.phase = .running
  · cases hs : s.clu.showPlay
    · have hf : s.iluView.audienceForcing = [] := by simp [IluView.audienceForcing, inForce, State.iluView, hs]
      simp [Ilu.deniedZones, Ilu.next, hf]
    · have hd : s.clu.demanded &&& audienceZones = 0 := by
        cases hpl : s.clu.playing with
        | none => simp [Clu.showPlay, hpl] at hs
        | some e =>
          obtain ⟨z, hz⟩ : ∃ z, e.state = .playing z := by
            have := Clu.playing_state hpl
            cases he : e.state <;> simp_all [EntryState.effective]
          have heff : s.clu.effective = z := by simp [Clu.effective, hpl, hz, EntryState.effective]
          have hzz := h hp e (List.mem_of_find?_eq_some hpl) (by simpa [Clu.showPlay, hpl] using hs) z hz
          unfold Clu.demanded
          split
          · rwa [heff]
          · rwa [heff]
          · rwa [heff]
          · simp
          · simp
      exact (Ilu.next_deniedZones (v := s.iluView) rfl rfl rfl hp hs s.ilu).trans hd
  · exact State.gates_undenied hp

/-- A call after which no audience relay is denied reaches the gates and no further. -/
theorem State.putClu_regate {s : State} (h : s.Current) {o : CluOut} (hu : o.clu.Unbarred s.phase) :
    (s.putClu o).regate = (s.putClu o).gates :=
  State.regate_eq_gates ((State.gates_relay _).trans h.relayCurrent.symm) (State.gates_denyNone hu)

/-! ## Calls as CLU decides them (R153 to R157) -/

/-- An entry that a call merges with (R155). -/
def CallEntry.Same (t : Template) (z : ZoneSet) (e : CallEntry) : Prop := e.slot = t.slot ∧ e.zones = z ∧ e.cls = t.cls

theorem Clu.mergeTarget_none {t : Template} {z : ZoneSet} {c : Clu} (h : ∀ e ∈ c.entries, ¬ e.Same t z) :
    c.mergeTarget t z = none := by
  refine List.find?_eq_none.2 fun e he hc => h e he ?_
  simpa [CallEntry.Same, and_assoc] using hc

theorem Clu.mergeTarget_first {t : Template} {z : ZoneSet} {c : Clu} {before after : List CallEntry} {e : CallEntry}
    (hl : c.entries = before ++ e :: after) (hb : ∀ f ∈ before, ¬ f.Same t z) (he : e.Same t z) :
    c.mergeTarget t z = some e := by
  unfold Clu.mergeTarget
  rw [hl]
  refine List.find?_eq_some_iff_append.2 ⟨by simpa [CallEntry.Same, and_assoc] using he, before, after, rfl, fun f hf => ?_⟩
  have := hb f hf
  simp only [CallEntry.Same] at this
  simp only [Bool.not_eq_true', Bool.and_eq_false_iff, decide_eq_false_iff_not]
  tauto

/-- The entry that an admitted call is given (R156). -/
def Clu.entryFor (src : Source) (t : Template) (z : ZoneSet) (pool : Bool) (c : Clu) : CallEntry :=
  { id := c.freshId, source := src, cls := t.cls, slot := t.slot, zones := z, bell := t.bell, repeats := t.repeats,
    gap := t.gap, plays := 0, state := .queued, arrival := c.nextArrival, pool }

/-- The queue before a new entry, renumbered where its arrival order runs out (R156). -/
def Clu.numbered (c : Clu) : Clu := if 4294967295 < c.nextArrival then c.renumber else c

section
variable {now : Nat} {phase : Phase} {src : Source} {t : Template} {c : Clu}

theorem Clu.decideCall_badField (h : templateOk t = false) :
    c.decideCall now phase src t = (CluOut.of c, .refused .badField) := if_pos h

theorem Clu.decideCall_wrongPhase (h : templateOk t = true) (hp : phase = .evacuate) (hs : isShowOrHouse t.cls = true) :
    c.decideCall now phase src t = (CluOut.of c, .refused .wrongPhase) := by
  unfold Clu.decideCall
  rw [if_neg (by simp [h]), if_pos ⟨hp, hs⟩]

theorem Clu.decideCall_barred (h : templateOk t = true) (hp : ¬ (phase = .evacuate ∧ isShowOrHouse t.cls = true))
    (hz : playZones phase t.cls t.zones = 0) :
    c.decideCall now phase src t = (CluOut.of c, .refused .zonesBarred) := by
  unfold Clu.decideCall
  rw [if_neg (by simp [h]), if_neg hp]
  exact if_pos hz

theorem Clu.decideCall_full (h : templateOk t = true) (hp : ¬ (phase = .evacuate ∧ isShowOrHouse t.cls = true))
    (hz : playZones phase t.cls t.zones ≠ 0) (hm : c.mergeTarget t (playZones phase t.cls t.zones) = none)
    (ha : c.accounting src t.cls = none) (hs : src ≠ .safety) :
    c.decideCall now phase src t = (CluOut.of c, .refused .queueFull) := by
  unfold Clu.decideCall
  rw [if_neg (by simp [h]), if_neg hp]
  dsimp only
  rw [if_neg hz, hm]
  dsimp only
  rw [ha]
  dsimp only
  rw [if_neg hs]

theorem Clu.decideCall_merged (h : templateOk t = true) (hp : ¬ (phase = .evacuate ∧ isShowOrHouse t.cls = true))
    (hz : playZones phase t.cls t.zones ≠ 0) {e : CallEntry}
    (hm : c.mergeTarget t (playZones phase t.cls t.zones) = some e) :
    c.decideCall now phase src t = (Clu.arrived now phase t.cls
      (c.modify e.id fun f => { f with repeats := largerRepeats f.repeats t.repeats, gap := t.gap }),
      .admitted e.id true e.zones) := by
  unfold Clu.decideCall
  rw [if_neg (by simp [h]), if_neg hp]
  dsimp only
  rw [if_neg hz, hm]

theorem Clu.decideCall_admitted (h : templateOk t = true) (hp : ¬ (phase = .evacuate ∧ isShowOrHouse t.cls = true))
    (hz : playZones phase t.cls t.zones ≠ 0) (hm : c.mergeTarget t (playZones phase t.cls t.zones) = none) {pool : Bool}
    (ha : c.accounting src t.cls = some pool) :
    c.decideCall now phase src t =
      (Clu.arrived now phase t.cls (c.addEntry src t (playZones phase t.cls t.zones) pool).1,
        .admitted c.numbered.freshId false (playZones phase t.cls t.zones)) := by
  unfold Clu.decideCall
  rw [if_neg (by simp [h]), if_neg hp]
  dsimp only
  rw [if_neg hz, hm]
  dsimp only
  rw [ha]
  rfl

end

theorem Clu.numbered_ids (c : Clu) : c.numbered.entries.map (·.id) = c.entries.map (·.id) := by
  unfold Clu.numbered
  split
  · simp [Clu.renumber, Function.comp_def]
  · rfl

theorem Clu.numbered_arrival (c : Clu) :
    c.numbered.nextArrival = if c.nextArrival ≤ 4294967295 then c.nextArrival else c.entries.length + 1 := by
  unfold Clu.numbered
  split
  · rw [if_neg (by omega)]
    rfl
  · rw [if_pos (by omega)]

theorem Clu.Unbarred.numbered {phase : Phase} {c : Clu} (h : c.Unbarred phase) : c.numbered.Unbarred phase := by
  unfold Clu.numbered
  split
  · intro hp e he
    obtain ⟨f, hf, rfl⟩ := List.mem_map.1 he
    exact h hp f hf
  · exact h

/-- The id of a new entry lies in its range and is no other entry's (R156). -/
theorem Clu.newId_spec {c : Clu} (hq : QueueOk c) :
    (1 ≤ c.numbered.freshId ∧ c.numbered.freshId ≤ 255) ∧ ∀ f ∈ c.entries, f.id ≠ c.numbered.freshId := by
  have hl : c.numbered.entries.length < 255 := by
    have := congrArg List.length c.numbered_ids
    simp only [List.length_map] at this
    rw [this]
    exact Clu.entries_lt hq
  obtain ⟨hr, hne⟩ := Clu.freshId_spec hl
  refine ⟨hr, fun f hf hid => ?_⟩
  have hmem : c.numbered.freshId ∈ c.numbered.entries.map (·.id) := by
    rw [c.numbered_ids, ← hid]
    exact List.mem_map_of_mem hf
  obtain ⟨g, hg, hgid⟩ := List.mem_map.1 hmem
  exact hne g hg hgid

/-! ## A call placed (R153, R174) -/

theorem playZones_idem (phase : Phase) (cls : CallClass) (z : ZoneSet) :
    playZones phase cls (playZones phase cls z) = playZones phase cls z := by
  have hw : ∀ z : ZoneSet, withoutAudience (withoutAudience z) = withoutAudience z := by decide +kernel
  unfold playZones
  split
  · exact hw z
  · rfl

/-- A call was decided in `s`: CLU and the gates have followed, and no other block has changed. -/
structure CallPlaced (s u : State) : Prop where
  only : Only [.fire, .calls, .gates, .link] s u
  kept : Kept s u

theorem State.Current.gates_eq {s : State} (h : s.Current) : s.gates = s := by
  unfold State.gates
  rw [h.1]

theorem State.Current.regate_eq {s : State} (h : s.Current) : s.regate = s := by
  rw [State.regate_eq_gates (congrArg (·.ilu.relay.line) h.gates_eq) ((congrArg (·.ilu.deniedZones) h.gates_eq).trans h.2),
    h.gates_eq]

theorem State.putClu_of (s : State) : s.putClu (CluOut.of s.clu) = s := by
  have ho : ∀ o : Option Nat, (o.filter fun _ => true) = o := fun o => by cases o <;> rfl
  have hf : s.fdu.setFire (s.fdu.fire.forget []) = s.fdu := by simp [FireRecord.forget, Fdu.setFire, ho]
  unfold State.putClu
  simp only [CluOut.of, hf]
  rfl

theorem State.placeCall_refused {s : State} (h : s.Current) {src : Source} {t : Template} {r : Reason}
    (hd : s.clu.decideCall s.now s.phase src t = (CluOut.of s.clu, .refused r)) : s.placeCall src t = (s, .refused r) := by
  unfold State.placeCall
  rw [hd]
  dsimp only
  rw [State.putClu_of, h.regate_eq]

theorem State.placeCall_placed {s : State} (h : s.Current) {src : Source} {t : Template} {o : CluOut} {r : CallResult}
    (hd : s.clu.decideCall s.now s.phase src t = (o, r)) (hu : o.clu.Unbarred s.phase) :
    s.placeCall src t = ((s.putClu o).gates, r) ∧ CallPlaced s (s.putClu o).gates := by
  have hg := State.putClu_regate h hu
  refine ⟨?_, fun p hp => ?_, hg ▸ (State.putClu_kept o s).trans (State.regate_kept _)⟩
  · unfold State.placeCall
    rw [hd]
    dsimp only
    rw [hg]
  · cases p <;> simp_all [Part.same]

section
variable {s : State} {src : Source} {t : Template} (h : s.Current) (hq : QueueOk s.clu) (hok : templateOk t = true)
  (hp : ¬ (s.phase = .evacuate ∧ isShowOrHouse t.cls = true)) (hz : playZones s.phase t.cls t.zones ≠ 0)
include h hq hok hp hz

/-- A call that merges with no entry is admitted where its source's reservation or the pool has room (R156). -/
theorem State.placeCall_admits (hm : ∀ e ∈ s.clu.entries, ¬ e.Same t (playZones s.phase t.cls t.zones)) {pool : Bool}
    (ha : s.clu.accounting src t.cls = some pool) :
    ∃ u e, s.placeCall src t = (u, .admitted e.id false (playZones s.phase t.cls t.zones)) ∧ CallPlaced s u ∧
      e ∈ u.clu.entries ∧
      e = { s.clu.numbered.entryFor src t (playZones s.phase t.cls t.zones) pool with state := e.state } := by
  obtain ⟨hr, hne⟩ := Clu.newId_spec hq
  let e₀ := s.clu.numbered.entryFor src t (playZones s.phase t.cls t.zones) pool
  let c₀ := (s.clu.addEntry src t (playZones s.phase t.cls t.zones) pool).1
  have hents : c₀.entries = s.clu.numbered.entries ++ [e₀] := rfl
  have hmem : e₀ ∈ c₀.entries := by rw [hents]; simp
  have hids : (c₀.entries.map (·.id)).Nodup := by
    rw [hents, List.map_append, Clu.numbered_ids]
    refine List.Nodup.append hq.ids (List.nodup_singleton _) ?_
    intro i hi hj
    obtain ⟨f, hf, hfi⟩ := List.mem_map.1 hi
    exact hne f hf (hfi.trans (List.mem_singleton.1 hj))
  have hunb : c₀.Unbarred s.phase := by
    intro hr f hf
    rw [hents, List.mem_append] at hf
    rcases hf with hf | hf
    · exact (h.unbarred hq).numbered hr f hf
    · rw [List.mem_singleton.1 hf]
      exact fun _ _ hz => nomatch hz
  have hd := Clu.decideCall_admitted (now := s.now) hok hp hz (Clu.mergeTarget_none hm) ha
  obtain ⟨hpl, hk⟩ := State.placeCall_placed h hd (hunb.arrived hids s.now t.cls)
  obtain ⟨f, hf, hfe⟩ := Clu.arrived_holds (now := s.now) (phase := s.phase) (cls := t.cls) hids (Clu.holds_of_mem hmem)
    (fun g hg hid => by
      have hge : g = e₀ := (List.inj_on_of_nodup_map hids hmem (List.mem_of_find?_eq_some hg) hid).symm
      rw [hge]
      rfl)
    (by
      show playZones s.phase t.cls (playZones s.phase t.cls t.zones) ≠ 0
      rwa [playZones_idem])
  have hid : f.id = s.clu.numbered.freshId := by rw [hfe]; rfl
  refine ⟨_, f, ?_, hk, hf, hfe⟩
  rw [hpl, hid]

/-- A call that merges takes the entry's place in nothing but repeats and gap (R155). -/
theorem State.placeCall_merges {e : CallEntry}
    (hm : s.clu.mergeTarget t (playZones s.phase t.cls t.zones) = some e) :
    ∃ u f, s.placeCall src t = (u, .admitted e.id true (playZones s.phase t.cls t.zones)) ∧ CallPlaced s u ∧
      f ∈ u.clu.entries ∧ f = { e with repeats := largerRepeats e.repeats t.repeats, gap := t.gap, state := f.state } ∧
      u.clu.nextId = s.clu.nextId ∧ u.clu.nextArrival = s.clu.nextArrival := by
  have he : e ∈ s.clu.entries := List.mem_of_find?_eq_some hm
  have hs : e.Same t (playZones s.phase t.cls t.zones) := by
    simpa [CallEntry.Same, and_assoc] using List.find?_some hm
  obtain ⟨hslot, hzones, hcls⟩ := hs
  let g₀ : CallEntry → CallEntry := fun f => { f with repeats := largerRepeats f.repeats t.repeats, gap := t.gap }
  let c₀ := s.clu.modify e.id g₀
  have hmem : g₀ e ∈ c₀.entries := by
    refine List.mem_map.2 ⟨e, he, ?_⟩
    rw [if_pos rfl]
  have hids : (c₀.entries.map (·.id)).Nodup := by
    rw [Clu.ids_modify (c := s.clu) e.id (f := g₀) fun _ => rfl]
    exact hq.ids
  have hunb : c₀.Unbarred s.phase := Clu.Unbarred.modify (h.unbarred hq) _ fun hr f hf _ => h.unbarred hq hr f hf
  have hd := Clu.decideCall_merged (now := s.now) (src := src) hok hp hz hm
  obtain ⟨hpl, hk⟩ := State.placeCall_placed h hd (hunb.arrived hids s.now t.cls)
  obtain ⟨f, hf, hfe⟩ := Clu.arrived_holds (now := s.now) (phase := s.phase) (cls := t.cls) hids (Clu.holds_of_mem hmem)
    (fun g hg hid => by
      have hge : g = g₀ e := (List.inj_on_of_nodup_map hids hmem (List.mem_of_find?_eq_some hg) hid).symm
      rw [hge]
      exact congrArg isShowOrHouse hcls)
    (by
      show playZones s.phase e.cls e.zones ≠ 0
      rwa [hcls, hzones, playZones_idem])
  obtain ⟨h1, h2⟩ := Clu.arrived_next s.now s.phase t.cls c₀
  refine ⟨_, f, ?_, hk, hf, hfe, h1, h2⟩
  rw [hpl, hzones]

end

end Sys2Proof.Machine
end

section
/-!
CURTAIN-RAISE as CTC decides it, and the issue of one step.
-/

namespace Sys2Proof.Machine

open Sys2Proof.Safety

/-! ## A raise (R51, R52, R54) -/

/-- UP entered below H − 100 with ENCODER not latched: the curtain creeps (R54). -/
theorem Ctc.enterUp_creeps {e : CtcEnv} {c : Ctc} (h : c.descent = none) (hp : c.position e.params + 100 < e.params.travel)
    (hf : c.faults.contains .encoder = false) : c.enterUp e =
    { ctc := { c with state := .held, faults := addFault .creep c.faults, raiseDeadline := none, warnDeadline := none },
      notes := [.curtainState .up none (c.position e.params) e.params.release,
        .curtainFault .creep .up none (c.position e.params),
        .curtainState .held none (c.position e.params) e.params.release],
      reports := [.fault .creep] } := by
  let v : Ctc := { c with state := .up, raiseDeadline := none, warnDeadline := none }
  have hv : v.position e.params = c.position e.params := rfl
  have hx : (v.arise e .creep).andThen (Ctc.enter e .held) = _ := Ctc.faultHeld_atRest (c := v) h .creep
  rw [Ctc.enterUp, Ctc.enter_atRest h, CtcOut.andThen_mk]
  have hc : v.position e.params + 100 < e.params.travel ∧ v.faults.contains .encoder = false := ⟨hp, hf⟩
  rw [if_pos hc, hx]
  rfl

/-- CTC at the entry to RAISING. -/
def Ctc.raised (e : CtcEnv) (c : Ctc) : Ctc :=
  { c with state := .raising, raiseDeadline := some (e.now + e.params.raiseLimit * 1000), warnDeadline := none }

theorem Ctc.startRaise_eq {e : CtcEnv} {c : Ctc} (h : c.descent = none) : c.startRaise e =
    { ctc := c.raised e, notes := [.curtainState .raising none (c.position e.params) e.params.release], reports := [] } := by
  rw [Ctc.startRaise, Ctc.enter_atRest h]
  rfl

theorem Ctc.releaseDemand_of_state {c : Ctc} (h : c.state = .raising ∨ c.state = .up ∨ c.state = .held) :
    c.releaseDemand = true := by
  rcases h with h | h | h <;> simp [Ctc.releaseDemand, h]

/-- A raise was accepted in `s`, and `bs` is what was notified after its start. -/
structure Raises (s : State) (bs : List NoticeBody) (u : State) : Prop where
  only    : Only [.curtain, .gates, .link] s u
  lp      : u.lp = (s.notifyAll (.curtainState .raising none (pos s) s.settings.curtain.release :: bs)).lp
  release : u.ilu.release.line = true
  rising  : s.ctc.top = false → pos s + 20 < s.settings.curtain.travel → bs = [] ∧ u.ilu.hoist.line = true ∧
    u.ctc = { s.ctc with state := .raising, raiseDeadline := some (s.now + s.settings.curtain.raiseLimit * 1000) }
  atTop   : s.ctc.top = true ∨ s.settings.curtain.travel ≤ pos s + 20 →
    u.ilu.hoist.line = false ∧ u.ilu.hoist.lastChange = s.now ∧
    (s.settings.curtain.travel ≤ pos s + 100 → u.ctc = { s.ctc with state := .up } ∧
      bs = [.curtainState .up none (pos s) s.settings.curtain.release]) ∧
    (pos s + 100 < s.settings.curtain.travel → u.ctc.brake = true ∧
      u.ctc = { s.ctc with state := .held, faults := addFault .creep s.ctc.faults })

theorem Ctc.atTop_iff {e : CtcEnv} {c : Ctc} (hf : c.faults.contains .encoder = false) :
    c.atTop e = true ↔ c.top = true ∨ e.params.travel ≤ c.position e.params + 20 := by
  rw [Ctc.atTop, hf]
  simp

/-- HOIST goes off at the moment at which it went on, where the top is reached at the start. -/
theorem State.hoist_lastChange {s : State} (h : s.Current) (hr : s.ilu.hoist.line = true) {c : Ctc} (hc : c.state ≠ .raising)
    (bs : List NoticeBody) : (s.curtainSet c bs).ilu.hoist.line = false ∧
      (s.curtainSet c bs).ilu.hoist.lastChange = s.now := by
  rw [State.curtainSet_ilu h]
  have hd : c.hoistDemand = false := Ctc.hoistDemand_of_state hc
  simp [Gate.next, hd, hr]

theorem State.startRaise_raises {s : State} (h : s.Current) (ho : CurtainOk s.ctc)
    (hs : s.ctc.state = .down ∨ s.ctc.state = .held) (hm : movePhase s.phase = true) (hff : s.fireFull = false)
    (hr : raiseReady s) : ∃ bs, Raises s bs s.startRaise := by
  obtain ⟨hn1, hn2, hn3⟩ := (movePhase_iff _).1 hm
  have hd := ho.descent_none (by rcases hs with hs | hs <;> simp [hs])
  have hrd := ho.raise_none (by rcases hs with hs | hs <;> simp [hs])
  have hw := ho.warn_none (by rcases hs with hs | hs <;> simp [hs])
  have hforced : s.forced = false := by simp [State.forced, hff, hn3]
  have hhoist : hoistForced s = false := by simp [hoistForced, hff, hn2, hn3, hr.1]
  let v := s.curtainSet (s.ctc.raised s.ctcEnv) [.curtainState .raising none (pos s) s.settings.curtain.release]
  have hv : s.move Ctc.startRaise = v := State.move_eq h (Ctc.startRaise_eq hd)
  have hvc : v.Current := State.curtainSet_current h _ _
  have hvd : v.ctc.descent = none := hd
  have hvp : v.ctc.position v.ctcEnv.params = pos s := by
    show Ctc.position _ (s.ctc.raised s.ctcEnv) = pos s
    rw [Ctc.position_of_none (c := s.ctc.raised s.ctcEnv) hd, pos, Ctc.position_of_none hd]
    rfl
  have hvf : v.ctc.faults.contains .encoder = false := hr.2.1
  have hvh : v.ilu.hoist.line = true := by
    rw [State.curtainSet_hoist h, hhoist]
    rfl
  have hvr : v.ilu.release.line = true := by
    rw [State.curtainSet_release h, hforced]
    rfl
  have htop : v.ctc.atTop v.ctcEnv = true ↔ s.ctc.top = true ∨ s.settings.curtain.travel ≤ pos s + 20 := by
    rw [Ctc.atTop_iff hvf, hvp]
    rfl
  have hst : s.startRaise = if v.ctc.atTop v.ctcEnv then v.move Ctc.enterUp else v := by
    rw [State.startRaise, hv]
  rw [hst]
  by_cases ht : v.ctc.atTop v.ctcEnv = true
  · rw [if_pos ht]
    have hc := htop.1 ht
    have no : s.ctc.top = false → pos s + 20 < s.settings.curtain.travel → False := fun h1 h2 => by
      rcases hc with hc | hc
      · exact absurd (h1.symm.trans hc) (by decide)
      · omega
    have hvrel : ∀ c : Ctc, c.state = .up ∨ c.state = .held → ∀ bs, (v.curtainSet c bs).ilu.release.line = true := by
      intro c hc bs
      rw [State.curtainSet_release hvc, Ctc.releaseDemand_of_state (.inr hc)]
      simp [v, hforced]
    by_cases hp : s.settings.curtain.travel ≤ pos s + 100
    · have hu := State.move_eq hvc (Ctc.enterUp_top hvd (.inl (by rw [hvp]; exact hp)))
      rw [List.foldl_nil, hvp] at hu
      rw [hu]
      obtain ⟨hl1, hl2⟩ := State.hoist_lastChange hvc hvh (c := { v.ctc with state := .up, raiseDeadline := none, warnDeadline := none })
        (by simp) [.curtainState .up none (pos s) v.ctcEnv.params.release]
      refine ⟨[.curtainState .up none (pos s) s.settings.curtain.release],
        ((State.curtainSet_only _ _ s).trans (State.curtainSet_only _ _ v)), rfl, hvrel _ (.inl rfl) _,
        fun h1 h2 => (no h1 h2).elim, fun _ => ⟨hl1, hl2, fun _ => ⟨?_, rfl⟩, fun hn => by omega⟩⟩
      simp only [State.curtainSet_ctc, v, Ctc.raised, hrd, hw]
    · have hu := State.move_eq hvc (Ctc.enterUp_creeps hvd (by rw [hvp]; exact Nat.lt_of_not_le hp) hvf)
      rw [hvp] at hu
      rw [hu]
      obtain ⟨hl1, hl2⟩ := State.hoist_lastChange hvc hvh
        (c := { v.ctc with state := .held, faults := addFault .creep v.ctc.faults, raiseDeadline := none, warnDeadline := none })
        (by simp) [.curtainState .up none (pos s) v.ctcEnv.params.release, .curtainFault .creep .up none (pos s),
          .curtainState .held none (pos s) v.ctcEnv.params.release]
      refine ⟨[.curtainState .up none (pos s) s.settings.curtain.release, .curtainFault .creep .up none (pos s),
          .curtainState .held none (pos s) s.settings.curtain.release],
        ((State.curtainSet_only _ _ s).trans (State.curtainSet_only _ _ v)), rfl, hvrel _ (.inr rfl) _,
        fun h1 h2 => (no h1 h2).elim, fun _ => ⟨hl1, hl2, fun hn => absurd hn hp, fun _ => ⟨rfl, ?_⟩⟩⟩
      simp only [List.foldl_cons, List.foldl_nil, State.takeArrival, State.curtainSet_ctc, v, Ctc.raised, hrd, hw]
  · rw [if_neg ht]
    have hn := (not_congr htop).1 ht
    rw [not_or] at hn
    refine ⟨[], State.curtainSet_only _ _ s, rfl, hvr, fun _ _ => ⟨rfl, hvh, ?_⟩, fun hc => ?_⟩
    · simp only [v, State.curtainSet_ctc, Ctc.raised, hw]
      rfl
    · exact absurd hc (by rw [not_or]; exact hn)

end Sys2Proof.Machine
end

section
/-!
The issue of steps: one step due alone, all steps due, and the steps of an ended instance.
-/

namespace Sys2Proof.Machine

open Sys2Proof.Safety

/-! ## A step that falls due alone (R38) -/

/-- Step `i` has been decided: its entry leaves PENDING, and the STEP notice joins. -/
def State.stepTaken (i : Nat) (a : StepAction) (o : StepOutcome) (u : State) : State :=
  State.finish ({ u with pfu := (u.pfu.setEntry i o.status).refresh }.notify (.stepIssued i a o))

theorem Pfu.isDue_of_dueSteps {f : Pfu} {i : Nat} (h : i ∈ f.dueSteps) : f.isDue i = true := (List.mem_filter.1 h).2

theorem State.issueStep_eq {s u : State} {i : Nat} {st : Machine.Step} {o : StepOutcome} (hd : s.pfu.isDue i = true)
    (hp : s.pfu.pendingStep i = some st) (ha : s.issueAction i st.action = (u, o)) :
    s.issueStep i = { u with pfu := (u.pfu.setEntry i o.status).refresh }.notify (.stepIssued i st.action o) := by
  have hr : s.pfu.perf.reached st = true := by simpa only [Pfu.isDue, hp] using hd
  unfold State.issueStep
  rw [hp]
  dsimp only
  rw [if_pos hr, ha]

section
variable {s u : State} {i : Nat} {st : Machine.Step} {o : StepOutcome}

theorem stepDue_eq (hh : s.held = none) (hd : s.pfu.dueSteps = [i]) (hp : s.pfu.pendingStep i = some st)
    (ha : s.issueAction i st.action = (u, o)) : exec .stepDue s = .next (u.stepTaken i st.action o) := by
  have hdue : s.pfu.isDue i = true := Pfu.isDue_of_dueSteps (by rw [hd]; exact List.mem_singleton_self i)
  have he : s.issueDue = s.issueStep i := by
    rw [State.issueDue, hd]
    rfl
  refine congrArg Host.Outcome.next ?_
  rw [State.event_eq hh (by simp [hd]), he, State.issueStep_eq hdue hp ha]
  rfl

theorem State.stepTaken_issued {b : Bool} {bs : List NoticeBody} {a : StepAction}
    (hu : u.pfu = { s.pfu with perf := { s.pfu.perf with proven := b } }) (hl : u.lp = (s.notifyAll bs).lp)
    (hnow : u.now = s.now) : StepIssued s i a o b bs (u.stepTaken i a o) where
  runner := by
    have ht : (u.stepTaken i a o).pfu = (u.pfu.setEntry i o.status).refresh := rfl
    rw [ht, hu]
    cases o <;> rfl
  sent := State.finish_sends (by
    rw [← State.notifyAll_append]
    simp only [State.notify, State.notifyAll, List.foldl_cons, List.foldl_nil, hl, hnow])

theorem State.notifyAll_only (bs : List NoticeBody) (s : State) : Only [.link] s (s.notifyAll bs) := by
  intro p hp
  cases p <;> simp_all [Part.same]

theorem State.setHlu_only (s : State) (h : Hlu) : Only [.lights] s { s with hlu := h } := by
  intro p hp
  cases p <;> simp_all [Part.same]

theorem State.stepTaken_only {ps : List Part} (h : Only ps s u) (a : StepAction) :
    Only (.performance :: .link :: .lines :: .draws :: ps) s (u.stepTaken i a o) := by
  intro p hp
  have hk := h p fun hc => hp (by simp [hc])
  cases p <;> simp_all [Part.same, State.stepTaken]

/-- A step whose target refuses it, and is left as it was. -/
theorem stepDue_refused {r : Reason} (hh : s.held = none) (hd : s.pfu.dueSteps = [i]) (hp : s.pfu.pendingStep i = some st)
    (ha : s.issueAction i st.action = (s, .refused r)) : StepRefused s i st.action r :=
  ⟨_, stepDue_eq hh hd hp ha, (State.stepTaken_only (ps := []) (fun _ _ => by cases ‹Part› <;> rfl) _).mono (by decide),
    State.stepTaken_issued rfl rfl rfl⟩

end

/-! ## All steps due (R38) -/

/-- Whether a step is due rests on its entry, the running copy, the clocks and the interval's length. -/
theorem Pfu.isDue_congr {f g : Pfu} {i : Nat} (ht : g.table[i]? = f.table[i]?) (hc : g.runningCopy = f.runningCopy)
    (hr : RecordIs f.perf g.perf) : g.isDue i = f.isDue i := by
  have hp : g.pendingStep i = f.pendingStep i := by simp only [Pfu.pendingStep, Pfu.steps, ht, hc]
  have hu : ∀ st, g.perf.reached st = f.perf.reached st := fun st => by
    rw [hr.1]
    rfl
  simp only [Pfu.isDue, hp, hu]

theorem State.placeCall_pfu (src : Source) (t : Template) (s : State) : (s.placeCall src t).1.pfu = s.pfu := by
  unfold State.placeCall
  rw [State.regate_pfu, State.putClu_pfu]

theorem State.takeArrivals_table (rs : List CtcReport) (s : State) :
    (rs.foldl (fun s r => s.takeArrival r) s).pfu.table = s.pfu.table := by
  induction rs generalizing s with
  | nil => rfl
  | cons r rs ih =>
    refine (ih _).trans ?_
    show (s.takeArrival r).pfu.table = s.pfu.table
    unfold State.takeArrival
    split
    · split <;> rfl
    · rfl

theorem State.move_table (f : CtcEnv → Ctc → CtcOut) (s : State) : (s.move f).pfu.table = s.pfu.table := by
  refine (State.takeArrivals_table _ _).trans ?_
  rw [State.moveCurtain]
  dsimp only
  rw [State.regate_pfu]
  rfl

theorem State.unlessRefused_table {f : State → State} (hf : ∀ s, (f s).pfu.table = s.pfu.table) (r : Option Reason)
    (s : State) : (s.unlessRefused r f).1.pfu.table = s.pfu.table := by
  unfold State.unlessRefused
  split
  · rfl
  · exact hf s

theorem State.startRaise_table (s : State) : s.startRaise.pfu.table = s.pfu.table := by
  rw [State.startRaise]
  split
  · rw [State.move_table, State.move_table]
  · rw [State.move_table]

/-- A step's target leaves the step status table alone. -/
theorem State.issueAction_table (i : Nat) (a : StepAction) (s : State) :
    (s.issueAction i a).1.pfu.table = s.pfu.table := by
  cases a with
  | call n => exact congrArg Pfu.table (s.placeCall_pfu _ _)
  | bell p z => exact congrArg Pfu.table (s.placeCall_pfu _ _)
  | lights p t =>
    show (s.decideGo p t).1.pfu.table = _
    unfold State.decideGo
    split
    · rfl
    · split <;> rfl
  | curtainLower => exact State.unlessRefused_table (State.move_table _) _ s
  | curtainRaise => exact State.unlessRefused_table State.startRaise_table _ s
  | curtainTest => exact State.unlessRefused_table (State.move_table _) _ s
  | note c => rfl

theorem StepOutcome.status_ne (o : StepOutcome) : o.status ≠ .pending := by cases o <;> simp [StepOutcome.status]

theorem Pfu.isDue_settled {f : Pfu} {i : Nat} (h : f.table[i]? ≠ some .pending) : f.isDue i = false := by
  simp [Pfu.isDue, Pfu.pendingStep, h]

/-- The issue of a step touches no other entry, and leaves its own not due. -/
theorem State.issueStep_table (i : Nat) (s : State) :
    (∀ j, j ≠ i → (s.issueStep i).pfu.table[j]? = s.pfu.table[j]?) ∧ (s.issueStep i).pfu.isDue i = false := by
  by_cases hd : s.pfu.isDue i = true
  · cases hp : s.pfu.pendingStep i with
    | none => simp [Pfu.isDue, hp] at hd
    | some st =>
      have ht := State.issueAction_table i st.action s
      have hi := State.issueStep_eq hd hp (Prod.mk.eta (p := s.issueAction i st.action)).symm
      generalize s.issueAction i st.action = r at ht hi
      have hset : (s.issueStep i).pfu.table = s.pfu.table.set i r.2.status := by
        rw [hi, ← ht]
        rfl
      refine ⟨fun j hj => ?_, Pfu.isDue_settled ?_⟩
      · rw [hset, List.getElem?_set_ne (Ne.symm hj)]
      · rw [hset, List.getElem?_set_self']
        cases s.pfu.table[i]? <;> simp [StepOutcome.status_ne]
  · have he : s.issueStep i = s := by
      unfold State.issueStep
      cases hp : s.pfu.pendingStep i with
      | none => rfl
      | some st =>
        dsimp only
        rw [if_neg (by simpa only [Pfu.isDue, hp] using hd)]
    rw [he]
    exact ⟨fun _ _ => rfl, by simpa using hd⟩

theorem State.issueSteps_table (is : List Nat) (s : State) :
    (∀ j, j ∉ is → (s.issueSteps is).pfu.table[j]? = s.pfu.table[j]?) ∧
      ∀ j ∈ is, (s.issueSteps is).pfu.isDue j = false := by
  induction is generalizing s with
  | nil => exact ⟨fun _ _ => rfl, fun _ h => nomatch h⟩
  | cons i is ih =>
    obtain ⟨h1, h2⟩ := ih (s.issueStep i)
    obtain ⟨k1, k2⟩ := s.issueStep_table i
    have hk := State.issueSteps_kept is (s.issueStep i)
    refine ⟨fun j hj => ?_, fun j hj => ?_⟩
    · rw [List.mem_cons, not_or] at hj
      exact (h1 j hj.2).trans (k1 j hj.1)
    · by_cases hi : j ∈ is
      · exact h2 j hi
      · have hji : j = i := (List.mem_cons.1 hj).resolve_right hi
        subst hji
        exact (Pfu.isDue_congr (h1 j hi) hk.runningCopy hk.record).trans k2

theorem State.issueDue_issued (s : State) :
    s.issueDue.pfu.dueSteps = [] ∧ ∀ i, s.pfu.isDue i = false → s.issueDue.pfu.table[i]? = s.pfu.table[i]? := by
  obtain ⟨h1, h2⟩ := s.issueSteps_table s.pfu.dueSteps
  have hk := State.issueSteps_kept s.pfu.dueSteps s
  have hout : ∀ i, s.pfu.isDue i = false → i ∉ s.pfu.dueSteps := fun i hi hm => by
    rw [Pfu.isDue_of_dueSteps hm] at hi
    cases hi
  refine ⟨List.filter_eq_nil_iff.2 fun i _ => ?_, fun i hi => h1 i (hout i hi)⟩
  rw [Bool.not_eq_true]
  by_cases hi : i ∈ s.pfu.dueSteps
  · exact h2 i hi
  · by_cases hd : s.pfu.isDue i = true
    · exfalso
      refine hi (List.mem_filter.2 ⟨List.mem_range.2 ?_, hd⟩)
      by_contra hlt
      have hn : s.pfu.table[i]? ≠ some .pending := by
        rw [List.getElem?_eq_none (Nat.le_of_not_lt hlt)]
        simp
      rw [Pfu.isDue_settled hn] at hd
      cases hd
    · exact (Pfu.isDue_congr (h1 i hi) hk.runningCopy hk.record).trans (by simpa using hd)

/-! ## The steps of an ended instance (R41) -/

theorem Pfu.skips_eq (f : Pfu) (cond : Machine.Step → Bool) (i : Nat) :
    f.skips cond i = (decide (f.table[i]? = some .pending) && (f.steps[i]?.map cond).getD false) := by
  unfold Pfu.skips Pfu.pendingStep
  by_cases h : f.table[i]? = some .pending
  · rw [if_pos h]
    cases f.steps[i]? <;> simp [h]
  · simp [h]

theorem Pfu.skip_table (f : Pfu) (cond : Machine.Step → Bool) {i : Nat} {e : StepStatus} (he : f.table[i]? = some e) :
    (f.skip cond).1.table[i]? = some (if f.skips cond i = true then .skipped else e) := by
  simp [Pfu.skip, he]

/-- A number of steps skipped, and the one notice that counts them. -/
theorem skipNote_nil {n : Nat} {cause : SkipCause} : skipNote n cause = [] ↔ n = 0 := by
  unfold skipNote
  split <;> simp_all

theorem Pfu.skip_none_iff (f : Pfu) (cond : Machine.Step → Bool) : (f.skip cond).2 = 0 ↔ (f.skip cond).1.table = f.table := by
  have hlen : (f.skip cond).2 = 0 ↔ ∀ i < f.table.length, f.skips cond i = false := by
    simp [Pfu.skip, List.length_eq_zero_iff, List.filter_eq_nil_iff]
  rw [hlen]
  constructor
  · intro h
    refine List.ext_getElem? fun i => ?_
    cases he : f.table[i]? with
    | some e =>
      have hi : i < f.table.length := (List.getElem?_eq_some_iff.1 he).1
      rw [Pfu.skip_table f cond he, h i hi]
      rfl
    | none =>
      rw [List.getElem?_eq_none_iff] at he ⊢
      simpa [Pfu.skip] using he
  · intro h i hi
    obtain ⟨e, he⟩ : ∃ e, f.table[i]? = some e := ⟨_, List.getElem?_eq_getElem hi⟩
    by_contra hs
    rw [Bool.not_eq_false] at hs
    have hk := Pfu.skip_table f cond he
    rw [h, he, if_pos hs] at hk
    rw [Pfu.skips_eq, he] at hs
    cases hk
    simp at hs

end Sys2Proof.Machine
end

section
/-!
Steps issued to each of their targets, and the steps skipped.
-/

namespace Sys2Proof.Machine

open Sys2Proof.Safety

/-! ## Steps due, whichever they are (R37, R38) -/

theorem stepDue_any {s : State} (hh : s.held = none) (hd : s.pfu.dueSteps ≠ []) :
    ∃ t, exec .stepDue s = .next t ∧ Untouched s t ∧ RecordIs s.pfu.perf t.pfu.perf ∧ TableFollows s.pfu t.pfu ∧
      t.pfu.runningCopy = s.pfu.runningCopy ∧ t.pfu.dueSteps = [] ∧
      (∀ i, s.pfu.isDue i = false → t.pfu.table[i]? = s.pfu.table[i]?) ∧ ∃ bs, Sends s bs t := by
  have k := s.issueDue_kept
  obtain ⟨h1, h2⟩ := s.issueDue_issued
  obtain ⟨bs, hbs⟩ := k.notices
  obtain ⟨now, held, settings, store, lmu, dsu, pending, fire, supply, demand⟩ := k.untouched
  exact ⟨s.issueDue.finish, congrArg Host.Outcome.next (State.event_eq hh (by simpa using hd) _),
    ⟨now, held, settings, store, lmu, dsu, pending, fire, supply, demand⟩, k.record, k.table, k.runningCopy, h1, h2, bs,
    State.finish_sends hbs⟩

/-! ## CALL and BELL steps (R151, R153 to R156) -/

theorem templateOk_iff (t : Template) : templateOk t = true ↔ t.zones ≠ 0 ∧ t.bell ≤ 7 ∧
    ¬ (t.repeats = 0 ∧ (t.cls = .showClass ∨ t.cls = .houseClass)) ∧ ¬ (t.slot = none ∧ t.bell = 0) := by
  rw [← isShowOrHouse_iff]
  cases hs : t.slot <;> simp [templateOk, hs, and_assoc, imp_iff_not_or]

theorem playZones_eq (p : Phase) (cls : CallClass) (z : ZoneSet) : playZones p cls z =
    if p = .running ∧ (cls = .showClass ∨ cls = .houseClass) then withoutAudience z else z := by
  simp only [playZones, isShowOrHouse_iff]

/-- The room that PLAN's reservation or the pool leaves to a call (R156). -/
theorem Clu.accounting_plan (cls : CallClass) (c : Clu) : c.accounting .plan cls =
    if c.reservedInUse .plan < 5 ∨ (c.poolInUse < 8 ∧ (cls = .houseClass → c.poolInUse < 6)) then
      some (!decide (c.reservedInUse .plan < 5)) else none := by
  unfold Clu.accounting reservation
  by_cases h : c.reservedInUse .plan < 5
  · simp [h]
  · have hp : (c.poolInUse < 8 ∧ ¬ (cls = .houseClass ∧ ((Source.plan : Source) = .link ∨ (Source.plan : Source) = .plan) ∧
        8 - c.poolInUse ≤ 2)) ↔ (c.poolInUse < 8 ∧ (cls = .houseClass → c.poolInUse < 6)) := by
      constructor
      · rintro ⟨h1, h2⟩
        exact ⟨h1, fun hc => by by_contra hn; exact h2 ⟨hc, .inr rfl, by omega⟩⟩
      · rintro ⟨h1, h2⟩
        exact ⟨h1, fun ⟨hc, _, hn⟩ => by have := h2 hc; omega⟩
    rw [if_neg h, if_congr hp rfl rfl]
    simp [h]

section
variable {i : Nat} {st : Machine.Step} {T : Template} {s : State} (hh : s.held = none) (hd : s.pfu.dueSteps = [i])
  (hp : s.pfu.pendingStep i = some st)
  (ha : s.issueAction i st.action = ((s.placeCall .plan T).1, (s.placeCall .plan T).2.stepOutcome))
include hh hd hp ha

theorem callStep_placed {u : State} {id : Nat} {m : Bool} {z : ZoneSet} (hu : s.placeCall .plan T = (u, .admitted id m z))
    (k : CallPlaced s u) : ∃ t bs, exec .stepDue s = .next t ∧
      Only [.performance, .fire, .calls, .gates, .link, .lines, .draws] s t ∧ Untouched s t ∧
      StepIssued s i st.action (.doneCall id m) s.pfu.perf.proven bs t ∧ t.clu = u.clu := by
  rw [hu] at ha
  obtain ⟨bs, hbs⟩ := k.kept.notices
  obtain ⟨now, held, settings, store, lmu, dsu, pending, fire, supply, demand⟩ := k.kept.untouched
  exact ⟨_, bs, stepDue_eq hh hd hp ha, (State.stepTaken_only k.only _).mono (by decide),
    ⟨now, held, settings, store, lmu, dsu, pending, fire, supply, demand⟩,
    State.stepTaken_issued (k.only .performance (by decide)) hbs now, rfl⟩

theorem callStep_refused (h : s.Current) {r : Reason}
    (hc : s.clu.decideCall s.now s.phase .plan T = (CluOut.of s.clu, .refused r)) :
    StepRefused s i st.action r := by
  rw [State.placeCall_refused h hc] at ha
  exact stepDue_refused hh hd hp ha

end

/-- A CALL or a BELL step, by the call it makes. -/
theorem stepIssued_call (i : Nat) (st : Machine.Step) (T : Template) (s : State) (hh : s.held = none)
    (hd : s.pfu.dueSteps = [i]) (hp : s.pfu.pendingStep i = some st) (hg : GatesCurrent s) (hq : QueueOk s.clu)
    (ha : s.issueAction i st.action = ((s.placeCall .plan T).1, (s.placeCall .plan T).2.stepOutcome)) :
    let aside : Prop := T.cls = .showClass ∨ T.cls = .houseClass
    let z := if s.phase = .running ∧ aside then withoutAudience T.zones else T.zones
    let same (e : CallEntry) : Prop := e.slot = T.slot ∧ e.zones = z ∧ e.cls = T.cls
    let room : Prop := s.clu.reservedInUse .plan < 5 ∨
      (s.clu.poolInUse < 8 ∧ (T.cls = .houseClass → s.clu.poolInUse < 6))
    let next := if s.clu.nextArrival ≤ 4294967295 then s.clu.nextArrival else s.clu.entries.length + 1
    (T.zones = 0 ∨ 7 < T.bell ∨ (T.repeats = 0 ∧ aside) ∨ (T.slot = none ∧ T.bell = 0) →
      StepRefused s i st.action .badField) ∧
    (T.zones ≠ 0 → T.bell ≤ 7 → ¬ (T.repeats = 0 ∧ aside) → ¬ (T.slot = none ∧ T.bell = 0) →
      (s.phase = .evacuate → aside → StepRefused s i st.action .wrongPhase) ∧
      (s.phase ≠ .evacuate ∨ ¬ aside →
        (z = 0 → StepRefused s i st.action .zonesBarred) ∧
        (z ≠ 0 → (∀ e ∈ s.clu.entries, ¬ same e) → ¬ room → StepRefused s i st.action .queueFull) ∧
        (z ≠ 0 → (∀ e ∈ s.clu.entries, ¬ same e) → room →
          ∃ t e bs, exec .stepDue s = .next t ∧
            Only [.performance, .fire, .calls, .gates, .link, .lines, .draws] s t ∧ Untouched s t ∧
            StepIssued s i st.action (.doneCall e.id false) s.pfu.perf.proven bs t ∧ e ∈ t.clu.entries ∧
            1 ≤ e.id ∧ e.id ≤ 255 ∧ (∀ f ∈ s.clu.entries, f.id ≠ e.id) ∧ e.source = .plan ∧ e.cls = T.cls ∧
            e.slot = T.slot ∧ e.zones = z ∧ e.bell = T.bell ∧ e.repeats = T.repeats ∧ e.gap = T.gap ∧ e.plays = 0 ∧
            e.arrival = next ∧ e.pool = !decide (s.clu.reservedInUse .plan < 5)) ∧
        (z ≠ 0 → ∀ before e after, s.clu.entries = before ++ e :: after → (∀ f ∈ before, ¬ same f) → same e →
          ∃ t f bs, exec .stepDue s = .next t ∧
            Only [.performance, .fire, .calls, .gates, .link, .lines, .draws] s t ∧ Untouched s t ∧
            StepIssued s i st.action (.doneCall e.id true) s.pfu.perf.proven bs t ∧ f ∈ t.clu.entries ∧
            f.id = e.id ∧ f.repeats = (if e.repeats = 0 ∨ T.repeats = 0 then 0 else max e.repeats T.repeats) ∧
            f.gap = T.gap ∧ f.bell = e.bell ∧ f.source = e.source ∧ f.arrival = e.arrival ∧ f.plays = e.plays ∧
            f.pool = e.pool ∧ t.clu.nextId = s.clu.nextId ∧ t.clu.nextArrival = s.clu.nextArrival))) := by
  intro aside z same room next
  have h : s.Current := hg hh
  have hz : z = playZones s.phase T.cls T.zones := (playZones_eq s.phase T.cls T.zones).symm
  have hside : aside ↔ isShowOrHouse T.cls = true := (isShowOrHouse_iff T.cls).symm
  refine ⟨fun hbad => ?_, fun h1 h2 h3 h4 => ?_⟩
  · refine callStep_refused hh hd hp ha h (Clu.decideCall_badField ?_)
    rw [← Bool.not_eq_true, templateOk_iff]
    rintro ⟨h1, h2, h3, h4⟩
    rcases hbad with hb | hb | hb | hb
    · exact h1 hb
    · omega
    · exact h3 hb
    · exact h4 hb
  have hok : templateOk T = true := (templateOk_iff T).2 ⟨h1, h2, h3, h4⟩
  refine ⟨fun he hs => callStep_refused hh hd hp ha h (Clu.decideCall_wrongPhase hok he (hside.1 hs)), fun hev => ?_⟩
  have hev' : ¬ (s.phase = .evacuate ∧ isShowOrHouse T.cls = true) := by
    rw [← hside]
    tauto
  have hsame : ∀ e, same e ↔ e.Same T (playZones s.phase T.cls T.zones) := fun e => by
    simp only [same, CallEntry.Same, hz]
  have hacc := Clu.accounting_plan T.cls s.clu
  refine ⟨fun h0 => ?_, fun h0 hne hr => ?_, fun h0 hne hr => ?_, fun h0 before e after hl hb he => ?_⟩
  · exact callStep_refused hh hd hp ha h (Clu.decideCall_barred hok hev' (hz.symm.trans h0))
  · rw [if_neg hr] at hacc
    exact callStep_refused hh hd hp ha h (Clu.decideCall_full hok hev' (hz ▸ h0)
      (Clu.mergeTarget_none fun e hm => (not_congr (hsame e)).1 (hne e hm)) hacc (by decide))
  · rw [if_pos hr] at hacc
    obtain ⟨u, e, hu, k, hmem, hee⟩ := State.placeCall_admits h hq hok hev' (hz ▸ h0)
      (fun e hm => (not_congr (hsame e)).1 (hne e hm)) hacc
    obtain ⟨t, bs, hx, ho, hun, hi, hc⟩ := callStep_placed hh hd hp ha hu k
    obtain ⟨⟨hr1, hr2⟩, hfresh⟩ := Clu.newId_spec hq
    refine ⟨t, e, bs, hx, ho, hun, hi, hc ▸ hmem, ?_⟩
    rw [hee]
    exact ⟨hr1, hr2, hfresh, rfl, rfl, rfl, hz.symm, rfl, rfl, rfl, rfl, s.clu.numbered_arrival, rfl⟩
  · have hm := Clu.mergeTarget_first hl (fun f hf => (not_congr (hsame f)).1 (hb f hf)) ((hsame e).1 he)
    obtain ⟨u, f, hu, k, hmem, hfe, hn1, hn2⟩ := State.placeCall_merges (src := .plan) h hq hok hev' (hz ▸ h0) hm
    obtain ⟨t, bs, hx, ho, hun, hi, hc⟩ := callStep_placed hh hd hp ha hu k
    refine ⟨t, f, bs, hx, ho, hun, hi, hc ▸ hmem, ?_⟩
    rw [hc]
    rw [hfe]
    exact ⟨rfl, rfl, rfl, rfl, rfl, rfl, rfl, rfl, hn1, hn2⟩

/-! ## LIGHTS steps (R92, R94, R95) -/

theorem State.decideGo_badField {preset fade : Nat} (h : 15 < preset) (s : State) :
    s.decideGo preset fade = (s, .refused .badField .none) := if_pos h

theorem State.decideGo_overridden {preset : Nat} {s : State} (h : preset ≤ 15) (hr : s.ilu.relay.line = false) (fade : Nat) :
    s.decideGo preset fade = (s, .refused .overridden .none) := by
  unfold State.decideGo
  rw [if_neg (Nat.not_lt.2 h), if_pos (by simp [State.override, hr])]

theorem State.decideGo_eq {preset : Nat} {s : State} (h : preset ≤ 15) (hr : s.ilu.relay.line = true) (fade : Nat) :
    s.decideGo preset fade = ({ s with hlu := s.hlu.go s.now s.settings preset (min 6000 fade) },
      .done (.lightsGo preset (min 6000 fade))) := by
  unfold State.decideGo
  rw [if_neg (Nat.not_lt.2 h), if_neg (by simp [State.override, hr])]

/-- A channel after a start toward a preset (R94, R95). -/
theorem Hlu.go_channels (now preset time : Nat) (c : Settings) {u : Hlu} {k : Nat} {r : ChannelRun}
    (hr : u.channels[k]? = some r) :
    (u.go now c preset time).channels[k]? = some
      (if time = 0 then { active := c.presetLevel preset k, fade := none }
       else { r with fade := some { start := r.active, target := c.presetLevel preset k, started := now,
                                    duration := time * 100, origin := .go, evals := 0 } }) := by
  simp [Hlu.go, Hlu.start, hr, ChannelRun.start]

/-- A state that shows what a start of a descent came to. -/
theorem Descended.starts {cause : DescentCause} {s u t : State} {bs : List NoticeBody} (k : Descended cause s bs u)
    (ho : CurtainOk s.ctc) (hs : s.ctc.state = .up ∨ s.ctc.state = .held) (he : s.ctc.edge = false) (hc : t.ctc = u.ctc)
    (hi : t.ilu = u.ilu) (hb : t.lines.brake = u.ctc.brake) (hw : t.lines.warning = u.ctc.warning) :
    DescentStarts cause s bs t := by
  have hn := ho.descent_none (by rcases hs with hs | hs <;> simp [hs])
  have hfl : u.ctc.faults = s.ctc.faults := by
    cases hf : s.ctc.floor
    · rw [(k.onWay hf).2]
    · rw [k.arrived hf]
  refine ⟨by rw [hi, k.release], hb.trans (k.brake he), by rw [hc, hfl],
    fun hf => ⟨(k.onWay hf).1, hw.trans (k.warning hf), _, hc.trans (k.onWay hf).2, ?_⟩, fun hf => ?_⟩
  · exact ⟨Ctc.opened_startCause _ _ _, Ctc.opened_cause _ _ _,
      (Ctc.opened_startPos _ _ _).trans (Ctc.position_of_none hn _).symm, Ctc.opened_faults _ _ _, Ctc.opened_params _ _ _,
      Ctc.opened_u _ _ _, Ctc.opened_hold _ _ _ (by simp [he]), Ctc.opened_clock _ _ _, Ctc.opened_windowNo _ _ _⟩
  · obtain ⟨-, h2, h3, h4, -, -, h7⟩ := Ctc.opened_arrived_facts s.ctcEnv cause s.ctc hn
    rw [hc, k.arrived hf]
    exact ⟨rfl, hn, _, rfl, h2, h3, h4, h7⟩

section
variable {i : Nat} {st : Machine.Step} {s : State} (hh : s.held = none) (hd : s.pfu.dueSteps = [i])
  (hp : s.pfu.pendingStep i = some st)
include hh hd hp

theorem stepIssued_lights {preset fade : Nat} (ha : st.action = .lights preset fade) :
    (15 < preset → StepRefused s i st.action .badField) ∧
    (preset ≤ 15 → s.ilu.relay.line = false → StepRefused s i st.action .overridden) ∧
    (preset ≤ 15 → s.ilu.relay.line = true → ∃ t, exec .stepDue s = .next t ∧
      Only [.performance, .lights, .link, .lines, .draws] s t ∧
      StepIssued s i st.action .done s.pfu.perf.proven [] t ∧ t.hlu = { s.hlu with channels := t.hlu.channels } ∧
      t.hlu.channels.length = s.hlu.channels.length ∧
      ∀ (k : Nat) (r : ChannelRun), s.hlu.channels[k]? = some r → t.hlu.channels[k]? = some
        (if fade = 0 then { active := s.settings.presetLevel preset k, fade := none }
         else { r with fade := some { start := r.active, target := s.settings.presetLevel preset k, started := s.now,
                                      duration := min 6000 fade * 100, origin := .go, evals := 0 } })) := by
  have hi : ∀ {u d}, s.decideGo preset fade = (u, d) → s.issueAction i st.action = (u, d.stepOutcome) := fun h => by
    rw [ha]
    show ((s.decideGo preset fade).1, (s.decideGo preset fade).2.stepOutcome) = _
    rw [h]
  refine ⟨fun h => ?_, fun h hr => ?_, fun h hr => ?_⟩
  · exact stepDue_refused hh hd hp (hi (State.decideGo_badField h s))
  · exact stepDue_refused hh hd hp (hi (State.decideGo_overridden h hr fade))
  · refine ⟨_, stepDue_eq hh hd hp (hi (State.decideGo_eq h hr fade)), ?_, State.stepTaken_issued rfl rfl rfl, rfl, ?_,
      fun k r hk => ?_⟩
    · refine (State.stepTaken_only (s.setHlu_only _) _).mono (by decide)
    · exact List.length_mapIdx
    · have hz : min 6000 fade = 0 ↔ fade = 0 := by omega
      refine (Hlu.go_channels s.now preset (min 6000 fade) s.settings hk).trans ?_
      rw [if_congr hz rfl rfl]

/-! ## Steps of the curtain (R51, R55, R56, R57) -/

/-- A step whose owner decides it as it decides a request. -/
theorem stepDecided_refused {d : State → State × Decision} {r : Reason}
    (ha : s.issueAction i st.action = ((d s).1, (d s).2.stepOutcome)) (hr : d s = (s, .refused r .none)) :
    StepRefused s i st.action r := by
  rw [hr] at ha
  exact stepDue_refused hh hd hp ha

theorem stepDecided_done {d : State → State × Decision} {u : State}
    (ha : s.issueAction i st.action = ((d s).1, (d s).2.stepOutcome)) (hr : d s = (u, .done .empty)) :
    exec .stepDue s = .next (u.stepTaken i st.action .done) := by
  rw [hr] at ha
  exact stepDue_eq hh hd hp ha

theorem stepIssued_lower (ha : st.action = .curtainLower) :
    let barred : Prop := s.phase = .running ∨ s.phase = .stopped ∨ s.phase = .evacuate
    (barred → StepRefused s i st.action .wrongPhase) ∧
    (¬ barred → s.ctc.state ≠ .up → s.ctc.state ≠ .held → StepRefused s i st.action .wrongState) ∧
    (¬ barred → s.ctc.state = .up ∨ s.ctc.state = .held →
      (s.ctc.edge = true → StepRefused s i st.action .notReady) ∧
      (s.ctc.edge = false → GatesCurrent s → CurtainOk s.ctc → ∃ t bs, exec .stepDue s = .next t ∧
        Only [.performance, .curtain, .gates, .link, .lines, .draws] s t ∧ DescentStarts .request s bs t ∧
        StepIssued s i st.action .done s.pfu.perf.proven
          (.curtainState .descending (some .request) (pos s) s.settings.curtain.release :: bs) t)) := by
  intro barred
  have hi : s.issueAction i st.action = (s.decideLower.1, s.decideLower.2.stepOutcome) := by rw [ha]; rfl
  have hm : ¬ barred → movePhase s.phase = true := fun hb => (movePhase_iff _).2 (by simpa [barred, not_or] using hb)
  refine ⟨fun hb => ?_, fun hb h1 h2 => ?_, fun hb hs => ⟨fun he => ?_, fun he hg ho => ?_⟩⟩
  · exact stepDecided_refused hh hd hp hi (State.unlessRefused_some (State.lowerRefusal_phase (movePhase_barred hb)) _)
  · exact stepDecided_refused hh hd hp hi (State.unlessRefused_some (State.lowerRefusal_state (hm hb) h1 h2) _)
  · exact stepDecided_refused hh hd hp hi (State.unlessRefused_some (State.lowerRefusal_edge (hm hb) hs he) _)
  · obtain ⟨bs, k⟩ := State.startDescent_descends .request (hg hh) ho hs he
    have hx := stepDecided_done hh hd hp hi (State.unlessRefused_none (State.lowerRefusal_none (hm hb) hs he) _)
    exact ⟨_, bs, hx, (State.stepTaken_only k.onlyCurtain _).mono (by decide), k.starts ho hs he rfl rfl rfl rfl,
      State.stepTaken_issued (k.onlyCurtain .performance (by decide)) k.lp (k.only .uptime (by decide))⟩

theorem stepIssued_raise (ha : st.action = .curtainRaise) :
    let barred : Prop := s.phase = .running ∨ s.phase = .stopped ∨ s.phase = .evacuate
    let ready : Prop := s.lmu.limitState 0 ≠ .high ∧ s.ctc.faults.contains .encoder = false ∧ s.ctc.overtravel = false
    (barred → StepRefused s i st.action .wrongPhase) ∧
    (¬ barred → s.fireFull = true → StepRefused s i st.action .alarmActive) ∧
    (¬ barred → s.fireFull = false → ¬ ready → StepRefused s i st.action .notReady) ∧
    (¬ barred → s.fireFull = false → ready → s.ctc.state ≠ .down → s.ctc.state ≠ .held →
      StepRefused s i st.action .wrongState) ∧
    (¬ barred → s.fireFull = false → ready → s.ctc.state = .down ∨ s.ctc.state = .held → GatesCurrent s →
      CurtainOk s.ctc → ∃ t bs, exec .stepDue s = .next t ∧
        Only [.performance, .curtain, .gates, .link, .lines, .draws] s t ∧
        StepIssued s i st.action .done s.pfu.perf.proven
          (.curtainState .raising none (pos s) s.settings.curtain.release :: bs) t ∧ t.ilu.release.line = true ∧
        (s.ctc.top = false → pos s + 20 < s.settings.curtain.travel → bs = [] ∧ t.ilu.hoist.line = true ∧
          t.lines.brake = false ∧ t.lines.warning = false ∧ t.ctc = { s.ctc with
            state := .raising, raiseDeadline := some (s.now + s.settings.curtain.raiseLimit * 1000) }) ∧
        (s.ctc.top = true ∨ s.settings.curtain.travel ≤ pos s + 20 → t.ilu.hoist.line = false ∧
          (s.settings.curtain.travel ≤ pos s + 100 → t.ctc = { s.ctc with state := .up } ∧
            bs = [.curtainState .up none (pos s) s.settings.curtain.release]) ∧
          (pos s + 100 < s.settings.curtain.travel → t.lines.brake = true ∧
            t.ctc = { s.ctc with state := .held, faults := addFault .creep s.ctc.faults }))) := by
  intro barred ready
  have hi : s.issueAction i st.action = (s.decideRaise.1, s.decideRaise.2.stepOutcome) := by rw [ha]; rfl
  have hm : ¬ barred → movePhase s.phase = true := fun hb => (movePhase_iff _).2 (by simpa [barred, not_or] using hb)
  refine ⟨fun hb => ?_, fun hb hf => ?_, fun hb hf hr => ?_, fun hb hf hr h1 h2 => ?_, fun hb hf hr hs hg ho => ?_⟩
  · exact stepDecided_refused hh hd hp hi (State.unlessRefused_some (State.raiseRefusal_phase (movePhase_barred hb)) _)
  · exact stepDecided_refused hh hd hp hi (State.unlessRefused_some (State.raiseRefusal_alarm (hm hb) hf) _)
  · exact stepDecided_refused hh hd hp hi (State.unlessRefused_some (State.raiseRefusal_notReady (hm hb) hf hr) _)
  · exact stepDecided_refused hh hd hp hi (State.unlessRefused_some (State.raiseRefusal_state (hm hb) hf hr h1 h2) _)
  · obtain ⟨bs, k⟩ := State.startRaise_raises (hg hh) ho hs (hm hb) hf hr
    have hx := stepDecided_done hh hd hp hi (State.unlessRefused_none (State.raiseRefusal_none (hm hb) hf hr hs) _)
    have hnow : s.startRaise.now = s.now := k.only .uptime (by decide)
    refine ⟨_, bs, hx, (State.stepTaken_only k.only _).mono (by decide),
      State.stepTaken_issued (k.only .performance (by decide)) k.lp hnow, k.release, fun h1 h2 => ?_, fun h1 => ?_⟩
    · obtain ⟨hb, hl, hc⟩ := k.rising h1 h2
      refine ⟨hb, hl, ?_, ?_, hc⟩
      · show s.startRaise.ctc.brake = false
        rw [hc]
        rfl
      · show s.startRaise.ctc.warning = false
        rw [hc]
        rfl
    · obtain ⟨hl, -, hup, hcr⟩ := k.atTop h1
      exact ⟨hl, hup, hcr⟩

theorem stepIssued_test (ha : st.action = .curtainTest) :
    let barred : Prop := s.phase = .running ∨ s.phase = .stopped ∨ s.phase = .evacuate
    let ready : Prop := s.lmu.limitState 1 ≠ .low ∧ s.ctc.faults.contains .encoder = false
    (barred ∨ s.phase = .resuming ∨ s.phase = .closed → StepRefused s i st.action .wrongPhase) ∧
    (s.phase = .dark ∨ s.phase = .prepare ∨ s.phase = .houseOpen ∨ s.phase = .interval →
      (¬ ready → StepRefused s i st.action .notReady) ∧
      (ready → s.ctc.state ≠ .up → StepRefused s i st.action .wrongState) ∧
      (ready → s.ctc.state = .up → s.ctc.edge = true → StepRefused s i st.action .notReady) ∧
      (ready → s.ctc.state = .up → s.ctc.edge = false → GatesCurrent s → CurtainOk s.ctc →
        ∃ t bs, exec .stepDue s = .next t ∧ Only [.performance, .curtain, .gates, .link, .lines, .draws] s t ∧
          DescentStarts .test s bs t ∧
          StepIssued s i st.action .done (s.pfu.perf.proven || (s.ctc.floor && decide (s.phase ≠ .dark)))
            (.curtainState .descending (some .test) (pos s) s.settings.curtain.release :: bs) t)) := by
  intro barred ready
  have hi : s.issueAction i st.action = (s.decideTest.1, s.decideTest.2.stepOutcome) := by rw [ha]; rfl
  refine ⟨fun hb => ?_, fun hph => ?_⟩
  · refine stepDecided_refused hh hd hp hi (State.unlessRefused_some (State.testRefusal_phase (testPhase_barred ?_)) _)
    tauto
  have hm := testPhase_taken hph
  refine ⟨fun hr => ?_, fun hr hs => ?_, fun hr hs he => ?_, fun hr hs he hg ho => ?_⟩
  · exact stepDecided_refused hh hd hp hi (State.unlessRefused_some (State.testRefusal_notReady hm hr) _)
  · exact stepDecided_refused hh hd hp hi (State.unlessRefused_some (State.testRefusal_state hm hr hs) _)
  · exact stepDecided_refused hh hd hp hi (State.unlessRefused_some (State.testRefusal_edge hm hr hs he) _)
  · obtain ⟨bs, k⟩ := State.startDescent_descends .test (hg hh) ho (.inl hs) he
    have hx := stepDecided_done hh hd hp hi (State.unlessRefused_none (State.testRefusal_none hm hr hs he) _)
    have hpr : proves s.phase .test [] = decide (s.phase ≠ .dark) := by simp [proves]
    refine ⟨_, bs, hx, (State.stepTaken_only k.only _).mono (by decide), k.starts ho (.inl hs) he rfl rfl rfl rfl,
      State.stepTaken_issued ?_ k.lp (k.only .uptime (by decide))⟩
    rw [k.pfu, hpr]
    rfl

end

/-! ## Steps skipped (R41) -/

/-- One of the two skips that a condition on the clock decides: its entries, its number and its notice. -/
theorem Pfu.skips_of {f : Pfu} {cond : Machine.Step → Bool} {P : Nat → Prop} [DecidablePred P]
    (h : ∀ i, (f.steps[i]?.map cond).getD false = decide (P i)) (i : Nat) :
    f.skips cond i = (decide (f.table[i]? = some .pending) && decide (P i)) := by
  rw [Pfu.skips_eq, h]

theorem Pfu.skip_entry {f : Pfu} {cond : Machine.Step → Bool} {P : Nat → Prop} [DecidablePred P]
    (h : ∀ i, (f.steps[i]?.map cond).getD false = decide (P i)) {i : Nat} {e : StepStatus} (he : f.table[i]? = some e) :
    (f.skip cond).1.table[i]? = some (if e = .pending ∧ P i then .skipped else e) := by
  rw [Pfu.skip_table f cond he, Pfu.skips_of h, he]
  simp

theorem Pfu.skip_count {f : Pfu} {cond : Machine.Step → Bool} {P : Nat → Prop} [DecidablePred P]
    (h : ∀ i, (f.steps[i]?.map cond).getD false = decide (P i)) :
    (f.skip cond).2 = ((List.range f.table.length).filter fun i =>
      decide (f.table[i]? = some .pending) && decide (P i)).length := by
  have hs : f.skips cond = fun i => decide (f.table[i]? = some .pending) && decide (P i) := funext (Pfu.skips_of h)
  simp only [Pfu.skip, hs]

theorem stepsSkipped (c : ClockId) (f : Pfu) :
    (∀ (i : Nat) (e : StepStatus), f.table[i]? = some e → (f.skipInstance c).1.table[i]? = some
      (if e = .pending ∧ (f.steps[i]?.map (·.anchor.clock)) = some c then .skipped else e)) ∧
    (let n := ((List.range f.table.length).filter fun i =>
        decide (f.table[i]? = some .pending) && decide ((f.steps[i]?.map (·.anchor.clock)) = some c)).length
     (f.skipInstance c).2 = if n = 0 then [] else [.stepsSkipped n (.instanceEnded c)]) ∧
    ((f.skipInstance c).2 = [] ↔ (f.skipInstance c).1.table = f.table) ∧
    (∀ (i : Nat) (e : StepStatus), f.table[i]? = some e → f.skipNeverReached.1.table[i]? = some
      (if e = .pending ∧ (f.steps[i]?.map fun st => (f.perf.clocks.get st.anchor.clock).run) = some .notStarted then .skipped
       else e)) ∧
    (let n := ((List.range f.table.length).filter fun i => decide (f.table[i]? = some .pending) &&
        decide ((f.steps[i]?.map fun st => (f.perf.clocks.get st.anchor.clock).run) = some .notStarted)).length
     f.skipNeverReached.2 = if n = 0 then [] else [.stepsSkipped n .neverReached]) ∧
    (f.skipInstance c).1 = { f with table := (f.skipInstance c).1.table } ∧
    f.skipNeverReached.1 = { f with table := f.skipNeverReached.1.table } ∧
    f.skipAll.1 = { f with table := f.skipAll.1.table } ∧
    (f.skipAll.1.table = f.table.map fun e => if e = .pending then .skipped else e) ∧
    (f.skipAll.2 = if f.table.count .pending = 0 then [] else [.stepsSkipped (f.table.count .pending) .evacuated]) := by
  have hi : ∀ i : Nat, (f.steps[i]?.map fun st => decide (st.anchor.clock = c)).getD false =
      decide ((f.steps[i]?.map (·.anchor.clock)) = some c) := fun i => by cases f.steps[i]? <;> simp
  have hn : ∀ i : Nat, (f.steps[i]?.map fun st => decide ((f.perf.clocks.get st.anchor.clock).run = .notStarted)).getD false =
      decide ((f.steps[i]?.map fun st => (f.perf.clocks.get st.anchor.clock).run) = some .notStarted) := fun i => by
    cases f.steps[i]? <;> simp
  refine ⟨fun i e he => Pfu.skip_entry hi he, congrArg (skipNote · _) (Pfu.skip_count hi),
    skipNote_nil.trans (Pfu.skip_none_iff _ _), fun i e he => Pfu.skip_entry hn he,
    congrArg (skipNote · _) (Pfu.skip_count hn), rfl, rfl, rfl, rfl, ?_⟩
  have hcount : f.table.count .pending = (f.table.filter (· = .pending)).length := by
    rw [List.count_eq_length_filter]
    congr 1
  rw [hcount]
  rfl

/-- Settles O25: due steps are issued, each decided by its owner, and the steps of an ended instance are SKIPPED. -/
theorem stepsAreIssuedAndSkipped : Obligations.StepsAreIssuedAndSkipped := by
  refine ⟨fun s hh hd => ⟨stepDue_any hh hd, fun i st code hi hp ha => ?_⟩, fun i st T s hh hd hp hg hq hT => ?_,
    fun i st s hh hd hp => ?_, fun c f => stepsSkipped c f⟩
  · have hx : s.issueAction i st.action = (s.notify (.note code i), .done) := by rw [ha]; rfl
    refine ⟨_, stepDue_eq hh hi hp hx, ?_, rfl, rfl, ?_⟩
    · refine (State.stepTaken_only (s.notifyAll_only _) _).mono (by decide)
    · rw [ha]
      exact (State.stepTaken_issued (u := s.notify (.note code i)) (b := s.pfu.perf.proven) (bs := [.note code i])
        rfl rfl rfl).sent
  · refine stepIssued_call i st T s hh hd hp hg hq ?_
    rcases hT with ⟨n, ha, rfl⟩ | ⟨p, z, ha, rfl⟩ <;> rw [ha] <;> rfl
  · exact ⟨fun preset fade ha => stepIssued_lights hh hd hp ha, fun ha => stepIssued_lower hh hd hp ha,
      fun ha => stepIssued_raise hh hd hp ha, fun ha => stepIssued_test hh hd hp ha⟩

end Sys2Proof.Machine
end

section
/-!
The entry to FULL, whatever its cause.
-/

namespace Sys2Proof.Machine

open Sys2Proof.Safety

/-! ## What the entry to FULL leaves of the plan runner -/

theorem State.cancelKept_pfu (id : Option Nat) (s : State) : (s.cancelKept id).1.pfu = s.pfu := by
  unfold State.cancelKept
  split
  · rfl
  · split
    · show (State.regate _).pfu = s.pfu
      rw [State.regate_pfu, State.putClu_pfu]
    · rfl

theorem State.announce_pfu (n : Nat) (f : Template → Template) (s : State) : (s.announce n f).1.pfu = s.pfu := by
  unfold State.announce
  split
  · rfl
  · exact s.placeCall_pfu _ _

theorem State.fullCalls_pfu (s : State) : s.fullCalls.1.pfu = s.pfu :=
  (State.announce_pfu _ _ _).trans (s.cancelKept_pfu _)

theorem Ctc.changeCause_stops (e : CtcEnv) (cause : DescentCause) (c : Ctc) : c.Stops (c.changeCause e cause) :=
  ⟨rfl, fun _ h => h, fun _ h => nomatch h⟩

/-- What CTC does when a RELEASE forcing condition comes into force proves nothing. -/
theorem Ctc.onForced_stops (e : CtcEnv) (c : Ctc) : c.Stops (c.onForced e) := by
  unfold Ctc.onForced
  split
  · exact Ctc.stops_of c
  · exact Ctc.raiseDenied_stops e c
  · exact Ctc.startDescent_stops e (by decide) c
  · exact Ctc.startDescent_stops e (by decide) c
  · exact Ctc.startDescent_stops e (by decide) c
  · split
    · exact Ctc.changeCause_stops e _ c
    · exact Ctc.changeCause_stops e _ c
    · exact Ctc.changeCause_stops e _ c
    · exact Ctc.stops_of c

theorem State.takeForcing_pfu (b : Bool) (s : State) : (s.takeForcing b).pfu = s.pfu := by
  unfold State.takeForcing
  split
  · exact State.regate_pfu s
  · have hr : (s.moveCurtain fun e c => c.onForced e).2 = (s.ctc.onForced s.ctcEnv).reports := rfl
    rw [State.move, State.takeArrivals_not_test (hr ▸ (Ctc.onForced_stops s.ctcEnv s.ctc).reports), State.moveCurtain]
    dsimp only
    rw [State.regate_pfu]
    rfl

/-! ## The entry to FULL (R16, R64, R103, R141, R167) -/

/-- What an entry to FULL begins with: the fire record, and the entry to EVACUATE where the phase turns into it. -/
def State.fullBase (cause : FullCause) (s : State) : State :=
  if evacuablePhase s.phase then (s.fullRecord cause).evacuateRecord else s.fullRecord cause

section
variable (cause : FullCause) (s : State)

theorem State.fullBase_cases {P : State → Prop} (h : P (s.fullRecord cause).evacuateRecord) (k : P (s.fullRecord cause)) :
    P (s.fullBase cause) := by
  unfold State.fullBase
  split
  · exact h
  · exact k

theorem State.fullBase_frame : Only [.performance, .fire, .link] s (s.fullBase cause) := by
  refine State.fullBase_cases cause s (fun p hp => ?_) (fun p hp => ?_) <;>
    cases p <;> simp_all [Part.same, State.evacuateRecord, State.fullRecord, State.putFdu]

theorem State.fullBase_fire : (s.fullBase cause).fdu.fire = s.fdu.fire.enterFull s.now cause ∧
    (s.fullBase cause).fdu.isolation = List.replicate 16 none ∧ (s.fullBase cause).fdu.devices = s.fdu.devices :=
  State.fullBase_cases cause s (P := fun u => u.fdu.fire = _ ∧ u.fdu.isolation = _ ∧ u.fdu.devices = _) ⟨rfl, rfl, rfl⟩
    ⟨rfl, rfl, rfl⟩

theorem State.fullBase_forced : (s.fullBase cause).forced = true := by
  have hf : (s.fullBase cause).fireFull = true := decide_eq_true (congrArg FireRecord.state (s.fullBase_fire cause).1)
  rw [State.forced, hf, Bool.true_or]

theorem State.fullBase_pfu : (s.fullBase cause).pfu =
    if evacuablePhase s.phase then (s.pfu.skipAll.1.setPerf (s.pfu.perf.evacuate s.now)).refresh else s.pfu := by
  unfold State.fullBase
  split <;> rfl

end

/-- The entry to FULL from what it begins with: the calls, the curtain and the gates follow. -/
theorem State.enterFull_met (cause : FullCause) {s : State} (ho : CurtainOk s.ctc) (hf : s.forced = true → s.ctc.Falls) :
    ForcingMet (s.fullBase cause) (s.enterFull cause) ∧
      (evacuablePhase s.phase = true → (s.enterFull cause).clu.Cleared) ∧
      (evacuablePhase s.phase = false → (s.enterFull cause).pfu = s.pfu) := by
  have hc : (s.fullBase cause).ctc = s.ctc := s.fullBase_frame cause .curtain (by decide)
  have met : ∀ n, Kept (s.fullBase cause) n → n.ctc = (s.fullBase cause).ctc →
      ForcingMet (s.fullBase cause) (n.takeForcing s.forced) :=
    fun n hk hn => State.takeForcing_met hk hn (hc ▸ ho) (s.fullBase_forced cause) (hc ▸ hf)
  cases h : evacuablePhase s.phase
  · have hb : s.fullBase cause = s.fullRecord cause := if_neg (by simp [h])
    have e : s.enterFull cause = ((s.fullRecord cause).fullCalls.1.notify
        ((s.fullRecord cause).fullCalls.1.fdu.fire.note s.fdu.fire.state (s.fullRecord cause).fullCalls.2.1
          (s.fullRecord cause).fullCalls.2.2)).takeForcing s.forced := by
      unfold State.enterFull
      simp only [h, Bool.false_eq_true, if_false]
    rw [hb] at met ⊢
    rw [e]
    refine ⟨met _ ((State.fullCalls_kept _).trans (State.notify_kept _ _)) (State.fullCalls_ctc _),
      fun hn => absurd hn (by decide), fun _ => ?_⟩
    rw [State.takeForcing_pfu]
    exact State.fullCalls_pfu _
  · have hb : s.fullBase cause = (s.fullRecord cause).evacuateRecord := if_pos h
    have e : ∃ bs, s.enterFull cause =
        ((s.fullRecord cause).evacuateRecord.callsAndFlush.1.notifyAll bs).takeForcing s.forced := by
      let r := (s.fullRecord cause).evacuateRecord.callsAndFlush
      refine ⟨[r.1.fdu.fire.note s.fdu.fire.state r.2.1 r.2.2, r.1.pfu.perf.phaseNote .fireFull none], ?_⟩
      unfold State.enterFull
      simp only [h, if_true]
      rfl
    obtain ⟨bs, e⟩ := e
    rw [hb] at met ⊢
    rw [e]
    refine ⟨met _ ((State.callsAndFlush_kept _).trans (State.notifyAll_kept _ _)) (State.callsAndFlush_ctc _),
      fun _ => State.takeForcing_cleared _ (State.callsAndFlush_cleared _), fun hn => absurd hn (by decide)⟩

theorem State.enterFull_enters (cause : FullCause) {s : State} (hh : s.held = none) (ho : CurtainOk s.ctc)
    (hf : CurtainFalls s) : EntersFull s cause (s.enterFull cause).finish := by
  obtain ⟨m, hq, hp⟩ := State.enterFull_met cause ho (hf hh)
  have hb := s.fullBase_frame cause
  obtain ⟨hfire, hiso, hdev⟩ := s.fullBase_fire cause
  have hpfu := s.fullBase_pfu cause
  generalize s.enterFull cause = u at m hq hp
  obtain ⟨kept, ⟨hh', hr, hl⟩, falls⟩ := m
  have hu := kept.untouched
  have hfd := hu.fire
  rw [hfire] at hfd
  have hstate : u.fdu.fire.state = .full := by rw [hfd]; rfl
  have hsil : u.fdu.fire.silenced = false := by rw [hfd]; rfl
  refine ⟨hu.now.trans (hb .uptime (by decide)), hu.held.trans (hb .reset (by decide)),
    hu.settings.trans (hb .settings (by decide)), hu.store.trans (hb .store (by decide)),
    hu.lmu.trans (hb .monitor (by decide)), hu.dsu.trans (hb .desk (by decide)), hu.pending.trans (hb .queue (by decide)),
    decide_eq_true hstate, ?_, hsil, ?_, ?_, ?_, ?_, ?_, ?_, hh', hr, hl, fun _ _ => falls, fun h1 h2 h3 => ?_, fun hs => ?_⟩
  · show u.fdu.fire.cause = _
    rw [hfd]
    rfl
  · show u.fdu.fire.timer = _
    rw [hfd]
    rfl
  · show u.fdu.fire.entry = _
    rw [hfd]
    rfl
  · show u.fdu.fire.walk = _
    rw [hfd]
    rfl
  · show u.fdu.devices = _
    rw [hfd]
    exact hdev
  · show u.fdu.isolation = _
    rw [hfd]
    exact hiso
  · show List.replicate 4 u.fdu.fire.sounding = _
    rw [FireRecord.sounding, hstate, hsil]
    rfl
  · have he : evacuablePhase s.phase = true := (evacuablePhase_iff _).2 ⟨h1, h2, h3⟩
    rw [if_pos he] at hpfu
    have hrec := kept.record
    have htab := kept.table
    rw [hpfu] at hrec htab
    have hperf := hrec.1
    refine ⟨hrec.phase, ?_, ?_, ?_, ?_, fun e hm => isShowOrHouse_false (hq he e hm)⟩
    · show u.pfu.perf.resume = _
      rw [hperf]
      rfl
    · show u.pfu.perf.stopCause = _
      rw [hperf]
      rfl
    · show u.pfu.perf.entry = _
      rw [hperf]
      rfl
    · have hk := table_eq_of_settled htab fun e he => skipAll_settled s.pfu e he
      exact hk
  · refine hp ?_
    rcases hs with hs | hs | hs <;> rw [hs] <;> rfl

end Sys2Proof.Machine
end

section
/-!
The firing of a key: the state in which its request is decided, and what the outcome of the request comes to.
-/

namespace Sys2Proof.Machine

open Sys2Proof.Safety

/-! ## The firing (R185, R187) -/

/-- DSU stands at `u` and has sent `first`. -/
def State.keyed (u : Dsu) (first : List NoticeBody) (s : State) : State := State.notifyAll first { s with dsu := u }

/-- DSU with the key that fires held. -/
def State.firing (k : Nat) (s : State) : Dsu := { s.dsu with key := .held k none }

/-- The notice of a firing in BOTH (R187). -/
def firstNotes (mode : DeskMode) (k : Nat) (b : KeyBinding) : List NoticeBody := if mode = .both then [.key k b .both] else []

/-- An event at which key `k` fires: its debounce time, or its long time, has run. -/
def Firing (c : Instr) (k x : Nat) (b : KeyBinding) (s : State) : Prop :=
  (c = .longTimerExpiry ∧ s.dsu.key = .held k (some x)) ∨
    (c = .debounceExpiry ∧ s.dsu.key = .pressDebounce x ∧ s.dsu.down = [k] ∧ b.long = false)

section
variable {c : Instr} {k x : Nat} {b : KeyBinding} {s : State} (hh : s.held = none) (hx : x ≤ s.now)
  (hb : s.settings.key k = b) (hc : Firing c k x b s)
include hh hx hb hc

theorem firing_exec : exec c s = .next (State.fireKey k { s with dsu := s.firing k }).finish := by
  rcases hc with ⟨rfl, hk⟩ | ⟨rfl, hk, hdown, hl⟩
  · refine congrArg Host.Outcome.next ((State.event_eq hh ?_ _).trans ?_)
    · simp [hk, KeyState.longTimer, dueAt, hx]
    · simp only [Dsu.longEnd, hk]
      rfl
  · refine congrArg Host.Outcome.next ((State.event_eq hh ?_ _).trans ?_)
    · simp [hk, KeyState.debounceTimer, dueAt, hx]
    · have hd : s.dsu.debounceEnd s.now s.settings = { dsu := s.firing k, notes := [], fires := some k } := by
        simp [Dsu.debounceEnd, State.firing, hk, hdown, hb, hl]
      rw [hd]
      rfl

theorem firing_report (hm : s.settings.desk.mode = .report) :
    exec c s = .next (s.keyed (s.firing k) [.key k b .report]).finish := by
  rw [firing_exec hh hx hb hc]
  simp only [State.fireKey, hm, hb]
  rfl

theorem firing_issues (hm : s.settings.desk.mode ≠ .report) : exec c s =
    .next (State.issueKey k b.action (s.keyed (s.firing k) (firstNotes s.settings.desk.mode k b))).finish := by
  rw [firing_exec hh hx hb hc]
  unfold State.fireKey
  dsimp only
  rw [hb]
  cases hmode : s.settings.desk.mode
  case report => exact absurd hmode hm
  case act => rfl
  case both => rfl

end

/-! ## What the request of a key comes to (R188) -/

section
variable {k : Nat} {a : KeyAction} {v w : State}

theorem State.issueKey_done {d : DoneBody} (h : v.deskRequest a = (w, .done d)) (ha : a ≠ .none) : v.issueKey k a = w := by
  obtain ⟨kind, hk⟩ : ∃ kind, keyRequest a = some kind := by
    cases a with
    | phase p => cases p <;> exact ⟨_, rfl⟩
    | none => exact absurd rfl ha
    | _ => exact ⟨_, rfl⟩
  unfold State.issueKey
  rw [hk]
  dsimp only
  rw [h]

theorem State.issueKey_refused {kind : RequestKind} {r : Reason} {det : Detail} (hk : keyRequest a = some kind)
    (h : v.deskRequest a = (v, .refused r det)) : v.issueKey k a = v.deskRefused k kind r := by
  unfold State.issueKey
  rw [hk]
  dsimp only
  rw [h]

end

section
variable (u : Dsu) (first : List NoticeBody) (s : State)

theorem State.keyed_told (bs : List NoticeBody) : ((s.keyed u first).notifyAll bs).lp = (s.notifyAll (first ++ bs)).lp := by
  rw [State.keyed, State.notifyAll_append]
  rfl

theorem State.keyed_only : Only [.desk, .link] s (s.keyed u first) := by
  intro p hp
  cases p <;> simp_all [Part.same, State.keyed]

variable {u first s}

theorem State.keyed_sends {w : State} {bs : List NoticeBody} (h : w.lp = ((s.keyed u first).notifyAll bs).lp) :
    Sends s (first ++ bs) w.finish := State.finish_sends (h.trans (State.keyed_told u first s bs))

theorem State.keyed_finish {w : State} {ps : List Part} (h : Only ps (s.keyed u first) w) :
    Only (.desk :: .link :: .lines :: .draws :: ps) s w.finish := by
  intro p hp
  have hk := (State.keyed_only u first s).mono (qs := .desk :: .link :: .lines :: .draws :: ps) (by simp) |>.trans
    ((h.finish).mono (List.subset_cons_self _ _))
  exact hk p hp

theorem State.keyed_untouched {w : State} (h : Untouched (s.keyed u first) w) : Untouched { s with dsu := u } w.finish := by
  obtain ⟨now, held, settings, store, lmu, dsu, pending, fire, supply, demand⟩ := h
  exact ⟨now, held, settings, store, lmu, dsu, pending, fire, supply, demand⟩

/-- A request refused: the indication is lit and the refusal told. -/
theorem State.keyed_refused (k : Nat) (kind : RequestKind) (r : Reason) :
    Only [.desk, .link, .lines, .draws] s ((s.keyed u first).deskRefused k kind r).finish ∧
      ((s.keyed u first).deskRefused k kind r).finish.dsu = { u with refusedUntil := some (s.now + 1000) } ∧
      Sends s (first ++ [.keyRefused k kind r]) ((s.keyed u first).deskRefused k kind r).finish := by
  refine ⟨?_, rfl, State.keyed_sends rfl⟩
  refine (State.keyed_finish (u := u) (first := first) (ps := [.desk, .link]) ?_).mono (by decide)
  intro p hp
  cases p <;> simp_all [Part.same, State.deskRefused]

/-- A phase request that a key issued was accepted. -/
theorem State.keyed_changePhase {kind : RequestKind} {change : Pfu → Pfu × List NoticeBody} :
    KeyMovedPhase s u kind (change s.pfu).1 first (change s.pfu).2
      ((s.keyed u first).changePhase (.request kind .desk) change).finish := by
  have k := State.changePhase_kept_record (.request kind .desk) change (s.keyed u first)
  obtain ⟨cs, hn⟩ := k.notices
  refine ⟨State.keyed_untouched ((State.phaseRecord_untouched _ _ _).trans k.untouched), k.record,
    ⟨k.table.length, k.table.settled⟩, k.runningCopy, k.expirySent, cs, State.keyed_sends (u := u) ?_⟩
  rw [hn, State.phaseRecord, State.notifyAll_append]
  simp only [List.append_assoc, List.singleton_append]
  rfl

end

end Sys2Proof.Machine
end

section
/-!
The desk's timers, and the requests that its keys fire.
-/

namespace Sys2Proof.Machine

open Sys2Proof.Safety

/-! ## A key that fires -/

/-- Key `k`, bound to `b`, fires in `s` by the event `c`. -/
structure KeyFires (c : Instr) (k x : Nat) (b : KeyBinding) (s : State) : Prop where
  released : s.held = none
  current  : s.Current
  due      : x ≤ s.now
  bound    : s.settings.key k = b
  fires    : Firing c k x b s

/-- The state in which the request of a firing is decided. -/
def State.keyBase (k : Nat) (b : KeyBinding) (s : State) : State :=
  s.keyed (s.firing k) (firstNotes s.settings.desk.mode k b)

section
variable {c : Instr} {k x : Nat} {b : KeyBinding} {s w : State} {a : KeyAction}

theorem KeyFires.done (f : KeyFires c k x b s) (hm : s.settings.desk.mode ≠ .report) (hb : b.action = a) (hn : a ≠ .none)
    {d : DoneBody} (hd : (s.keyBase k b).deskRequest a = (w, .done d)) : exec c s = .next w.finish := by
  have he := firing_issues f.released f.due f.bound f.fires hm
  rw [hb] at he
  exact he.trans (congrArg (fun u => Host.Outcome.next (State.finish u)) (State.issueKey_done hd hn))

theorem KeyFires.refused (f : KeyFires c k x b s) (hm : s.settings.desk.mode ≠ .report) (hb : b.action = a)
    {kind : RequestKind} {r : Reason} {det : Detail} (hk : keyRequest a = some kind)
    (hd : (s.keyBase k b).deskRequest a = (s.keyBase k b, .refused r det)) :
    ∃ t, exec c s = .next t ∧ Only [.desk, .link, .lines, .draws] s t ∧
      t.dsu = { s.firing k with refusedUntil := some (s.now + 1000) } ∧
      Sends s (firstNotes s.settings.desk.mode k b ++ [.keyRefused k kind r]) t := by
  have he := firing_issues f.released f.due f.bound f.fires hm
  rw [hb] at he
  have hr : (s.keyBase k b).issueKey k a = (s.keyBase k b).deskRefused k kind r := State.issueKey_refused hk hd
  exact ⟨_, he.trans (congrArg (fun u => Host.Outcome.next (State.finish u)) hr), State.keyed_refused k kind r⟩

theorem KeyFires.moves (f : KeyFires c k x b s) (hm : s.settings.desk.mode ≠ .report) (hb : b.action = a) (hn : a ≠ .none)
    {kind : RequestKind} {change : Pfu → Pfu × List NoticeBody} {d : DoneBody}
    (hd : (s.keyBase k b).deskRequest a = ((s.keyBase k b).changePhase (.request kind .desk) change, .done d)) :
    ∃ t, exec c s = .next t ∧ KeyMovedPhase s (s.firing k) kind (change s.pfu).1 (firstNotes s.settings.desk.mode k b)
      (change s.pfu).2 t :=
  ⟨_, f.done hm hb hn hd, State.keyed_changePhase⟩

end

/-! ## Requests of keys that are refused -/

theorem State.beginRefusal_phase {s : State} (h1 : s.phase ≠ .houseOpen) (h2 : s.phase ≠ .interval)
    (h3 : s.phase ≠ .resuming) : s.beginRefusal = some .wrongPhase := by
  have hp : beginPhase s.phase = false := by
    rw [← Bool.not_eq_true, beginPhase_iff]
    tauto
  exact if_pos hp

theorem State.beginRefusal_state {s : State} (h : s.phase = .houseOpen ∨ s.phase = .interval ∨ s.phase = .resuming)
    (hs : s.ctc.state ≠ .up) : s.beginRefusal = some .wrongState := by
  have hp : beginPhase s.phase = true := (beginPhase_iff _).2 h
  unfold State.beginRefusal
  rw [if_neg (by simp [hp]), if_pos hs]

theorem State.decideCallTemplate_badField {s : State} (h : s.Current) {n : Nat} (hn : n ≤ 15)
    (hz : (s.settings.template n).zones = 0) (src : Source) :
    s.decideCallTemplate src n = (s, .refused .badField .none) := by
  have hok : templateOk (s.settings.template n) = false := by
    rw [← Bool.not_eq_true, templateOk_iff]
    exact fun hc => hc.1 hz
  have hp := State.placeCall_refused h (src := src) (Clu.decideCall_badField hok)
  unfold State.decideCallTemplate
  rw [if_neg (Nat.not_lt.2 hn), hp]
  rfl

theorem State.decideHouseFull_refused {s : State} (hr : s.ilu.relay.line = false) :
    s.decideHouseFull = (s, .refused .overridden .none) := if_pos (by simp [State.override, hr])

theorem State.decideHouseFull_eq {s : State} (hr : s.ilu.relay.line = true) :
    s.decideHouseFull = ({ s with hlu := s.hlu.toFull s.now s.settings.lightTimes.houseFull .houseFull },
      .done (.fadeTime s.settings.lightTimes.houseFull)) := if_neg (by simp [State.override, hr])

theorem State.decideFireAck_refused {s : State} (h : s.fdu.fire.state ≠ .staffAlert .awaitingAck) :
    s.decideFireAck = (s, .refused .wrongState .none) := if_neg h

theorem State.decideFireSilence_refused {s : State} (h : s.fireFull = false ∨ s.fdu.fire.silenced = true) :
    s.decideFireSilence = (s, .refused .wrongState .none) := by
  refine if_neg fun hc => ?_
  rcases h with h | h
  · exact absurd hc.1 (of_decide_eq_false h)
  · rw [hc.2] at h
    cases h

theorem State.decideFireFull_refused {s : State} (h : s.fireFull = true) (hs : s.fdu.fire.silenced = false) :
    s.decideFireFull = (s, .refused .wrongState .none) := by
  have hf : s.fdu.fire.state = .full := of_decide_eq_true h
  unfold State.decideFireFull
  rw [hf]
  dsimp only
  rw [if_neg (by simp [hs])]

theorem State.decideHalt_moveless {s : State} (h1 : s.ctc.state ≠ .raising) (h2 : s.ctc.state ≠ .descending) :
    s.decideHalt = (s, .refused .wrongState .none) := by
  unfold State.decideHalt
  cases h : s.ctc.state <;> simp_all

/-- A key's request that its owner refuses, by the conditions of the owner's rule. -/
def RefusedRequest (a : KeyAction) (s : State) (kind : RequestKind) (r : Reason) : Prop :=
  (a = .phase .openHouse ∧ s.phase ≠ .prepare ∧ kind = .openHouse ∧ r = .wrongPhase) ∨
  (a = .phase .begin ∧ s.phase ≠ .houseOpen ∧ s.phase ≠ .interval ∧ s.phase ≠ .resuming ∧ kind = .begin ∧
    r = .wrongPhase) ∨
  (a = .phase .begin ∧ (s.phase = .houseOpen ∨ s.phase = .interval ∨ s.phase = .resuming) ∧
    s.ctc.state ≠ .up ∧ kind = .begin ∧ r = .wrongState) ∨
  (a = .phase .interval ∧ (s.phase ≠ .running ∨ s.pfu.perf.acts ≤ s.pfu.perf.act) ∧ kind = .interval ∧
    r = .wrongPhase) ∨
  (a = .phase .endShow ∧ s.phase ≠ .stopped ∧ (s.phase ≠ .running ∨ s.pfu.perf.act ≠ s.pfu.perf.acts) ∧
    kind = .endShow ∧ r = .wrongPhase) ∨
  (a = .phase .resume ∧ s.phase ≠ .stopped ∧ kind = .resume ∧ r = .wrongPhase) ∨
  (a = .phase .resume ∧ s.phase = .stopped ∧ s.fireQuiet = false ∧ kind = .resume ∧ r = .alarmActive) ∨
  (a = .showStop ∧ (s.phase = .dark ∨ s.phase = .prepare ∨ s.phase = .stopped ∨ s.phase = .evacuate ∨
    s.phase = .closed) ∧ kind = .showStop ∧ r = .wrongPhase) ∨
  (a = .evacuate ∧ (s.phase = .dark ∨ s.phase = .evacuate ∨ s.phase = .closed) ∧ kind = .evacuate ∧
    r = .wrongPhase) ∨
  (a = .fireFull ∧ s.fireFull = true ∧ s.fdu.fire.silenced = false ∧ kind = .fireFull ∧ r = .wrongState) ∨
  (∃ n, a = .call n ∧ n ≤ 15 ∧ (s.settings.template n).zones = 0 ∧ kind = .callTemplate ∧ r = .badField) ∨
  (a = .curtainLower ∧ (s.phase = .running ∨ s.phase = .stopped ∨ s.phase = .evacuate) ∧
    kind = .curtainLower ∧ r = .wrongPhase) ∨
  (a = .curtainRaise ∧ (s.phase = .running ∨ s.phase = .stopped ∨ s.phase = .evacuate) ∧
    kind = .curtainRaise ∧ r = .wrongPhase) ∨
  (a = .curtainHalt ∧ s.ctc.state ≠ .raising ∧ s.ctc.state ≠ .descending ∧ kind = .curtainHalt ∧
    r = .wrongState) ∨
  (∃ p, a = .lightsGo p ∧ p ≤ 15 ∧ s.ilu.relay.line = false ∧ kind = .lightsGo ∧ r = .overridden) ∨
  (a = .houseFull ∧ s.ilu.relay.line = false ∧ kind = .houseFull ∧ r = .overridden) ∨
  (a = .fireAck ∧ s.fdu.fire.state ≠ .staffAlert .awaitingAck ∧ kind = .fireAck ∧ r = .wrongState) ∨
  (a = .fireSilence ∧ (s.fireFull = false ∨ s.fdu.fire.silenced = true) ∧ kind = .fireSilence ∧ r = .wrongState)

theorem State.deskRequest_refused {a : KeyAction} {s : State} {kind : RequestKind} {r : Reason} (h : s.Current)
    (hr : RefusedRequest a s kind r) : keyRequest a = some kind ∧ s.deskRequest a = (s, .refused r .none) := by
  rcases hr with ⟨rfl, h1, rfl, rfl⟩ | ⟨rfl, h1, h2, h3, rfl, rfl⟩ | ⟨rfl, h1, h2, rfl, rfl⟩ | ⟨rfl, h1, rfl, rfl⟩ |
    ⟨rfl, h1, h2, rfl, rfl⟩ | ⟨rfl, h1, rfl, rfl⟩ | ⟨rfl, h1, h2, rfl, rfl⟩ | ⟨rfl, h1, rfl, rfl⟩ | ⟨rfl, h1, rfl, rfl⟩ |
    ⟨rfl, h1, h2, rfl, rfl⟩ | ⟨n, rfl, h1, h2, rfl, rfl⟩ | ⟨rfl, h1, rfl, rfl⟩ | ⟨rfl, h1, rfl, rfl⟩ |
    ⟨rfl, h1, h2, rfl, rfl⟩ | ⟨p, rfl, h1, h2, rfl, rfl⟩ | ⟨rfl, h1, rfl, rfl⟩ | ⟨rfl, h1, rfl, rfl⟩ | ⟨rfl, h1, rfl, rfl⟩
  · exact ⟨rfl, State.decideOpenHouse_refused .desk h1⟩
  · exact ⟨rfl, State.decideBegin_refused .desk (State.beginRefusal_phase h1 h2 h3)⟩
  · exact ⟨rfl, State.decideBegin_refused .desk (State.beginRefusal_state h1 h2)⟩
  · exact ⟨rfl, State.decideInterval_refused .desk h1⟩
  · exact ⟨rfl, State.decideEnd_refused .desk h1 h2⟩
  · exact ⟨rfl, State.decideResume_wrongPhase .desk h1⟩
  · exact ⟨rfl, State.decideResume_alarm .desk h1 h2⟩
  · refine ⟨rfl, State.decideShowStop_refused .desk ?_⟩
    rcases h1 with h1 | h1 | h1 | h1 | h1 <;> rw [h1] <;> rfl
  · refine ⟨rfl, State.decideEvacuate_refused .desk ?_⟩
    rcases h1 with h1 | h1 | h1 <;> rw [h1] <;> rfl
  · exact ⟨rfl, State.decideFireFull_refused h1 h2⟩
  · exact ⟨rfl, State.decideCallTemplate_badField h h1 h2 .desk⟩
  · exact ⟨rfl, State.unlessRefused_some (State.lowerRefusal_phase (movePhase_barred h1)) _⟩
  · exact ⟨rfl, State.unlessRefused_some (State.raiseRefusal_phase (movePhase_barred h1)) _⟩
  · exact ⟨rfl, State.decideHalt_moveless h1 h2⟩
  · exact ⟨rfl, State.decideGo_overridden h1 h2 _⟩
  · exact ⟨rfl, State.decideHouseFull_refused h1⟩
  · exact ⟨rfl, State.decideFireAck_refused h1⟩
  · exact ⟨rfl, State.decideFireSilence_refused h1⟩

/-! ## Requests of the fire state machine that are accepted (R137, R142) -/

theorem State.decideFireSilence_eq {s : State} (hf : s.fireFull = true) (hs : s.fdu.fire.silenced = false) :
    s.decideFireSilence =
      (let c := State.cancelKept s.fdu.fire.evacCall { s with fdu := s.fdu.setFire { s.fdu.fire with silenced := true } }
       (c.1.notify (c.1.fdu.fire.note .full c.2 .absent), .done .empty)) := if_pos ⟨of_decide_eq_true hf, hs⟩

/-- The relay stands under current gates, whatever CLU does. -/
theorem State.regate_hlu {s : State} (h : RelayCurrent s) : s.regate.hlu = s.hlu := by
  have hd : s.gates.takeDrop s.ilu.relay.line = s.gates := State.takeDrop_eq_self (s.gates_relay.trans h.symm).symm
  rw [State.regate, hd]
  unfold State.takeCuts
  split <;> rfl

theorem State.setFdu_only (s : State) (g : Fdu) : Only [.fire] s { s with fdu := g } := by
  intro p hp
  cases p <;> simp_all [Part.same]

theorem State.cancelKept_only {s : State} (h : RelayCurrent s) (id : Option Nat) :
    Only [.fire, .calls, .gates, .link] s (s.cancelKept id).1 := by
  unfold State.cancelKept
  split
  · exact fun p _ => by cases p <;> rfl
  · split
    · intro p hp
      have hl : (s.putClu (s.clu.cancel s.now ‹_›)).regate.hlu = s.hlu := State.regate_hlu h
      cases p <;> simp_all [Part.same, State.withClu]
    · exact fun p _ => by cases p <;> rfl

/-! ## Requests of keys that are accepted -/

section
variable {c : Instr} {k x : Nat} {b : KeyBinding} {s : State} (f : KeyFires c k x b s)
  (hm : s.settings.desk.mode ≠ .report)
include f hm

theorem KeyFires.silences (ha : b.action = .fireSilence) (hf : s.fireFull = true) (hs : s.fdu.fire.silenced = false) :
    ∃ t bs, exec c s = .next t ∧ Only [.desk, .fire, .calls, .gates, .link, .lines, .draws] s t ∧ t.dsu = s.firing k ∧
      t.fireFull = true ∧ t.fdu.fire.silenced = true ∧ t.lines.sounders = List.replicate 4 false ∧
      (s.fdu.fire.evacCall = none → t.clu = s.clu) ∧ Sends s (firstNotes s.settings.desk.mode k b ++ bs) t := by
  have hd : (s.keyBase k b).deskRequest .fireSilence = _ := State.decideFireSilence_eq (s := s.keyBase k b) hf hs
  have he := f.done hm ha (by decide) hd
  let v : State := { s.keyBase k b with fdu := s.fdu.setFire { s.fdu.fire with silenced := true } }
  have hcl : s.fdu.fire.evacCall = none → (v.cancelKept s.fdu.fire.evacCall).1.clu = s.clu := fun hn => by
    rw [hn]
    rfl
  have ho := State.cancelKept_only (s := v) f.current.relayCurrent s.fdu.fire.evacCall
  have hk := State.cancelKept_kept s.fdu.fire.evacCall v
  generalize hw : v.cancelKept s.fdu.fire.evacCall = w at hcl ho hk
  have he' : exec c s = .next (w.1.notify (w.1.fdu.fire.note .full w.2 .absent)).finish := by
    rw [he, ← hw]
    rfl
  have hfd := hk.untouched.fire
  have hstate : w.1.fdu.fire.state = .full := by
    rw [hfd]
    exact of_decide_eq_true hf
  have hsil : w.1.fdu.fire.silenced = true := by
    rw [hfd]
    rfl
  obtain ⟨bs, hbs⟩ := hk.notices
  refine ⟨_, bs ++ [w.1.fdu.fire.note .full w.2 .absent], he', ?_, ho .desk (by decide), decide_eq_true hstate, hsil, ?_,
    hcl, State.keyed_sends (u := s.firing k) ?_⟩
  · refine (State.keyed_finish (u := s.firing k) (first := firstNotes s.settings.desk.mode k b)
      (ps := [.fire, .calls, .gates, .link]) ?_).mono (by decide)
    exact (((State.setFdu_only _ _).mono (by decide)).trans ho).trans ((State.notifyAll_only [_] w.1).mono (by decide))
  · show List.replicate 4 w.1.fdu.fire.sounding = _
    rw [FireRecord.sounding, hsil, Bool.not_true, Bool.and_false]
  · rw [← State.notifyAll_append]
    have hnow : w.1.now = s.now := ho .uptime (by decide)
    simp only [State.notify, State.notifyAll, List.foldl_cons, List.foldl_nil, hbs, hnow]
    rfl

theorem KeyFires.acks (ha : b.action = .fireAck) (hf : s.fdu.fire.state = .staffAlert .awaitingAck) :
    ∃ t n, exec c s = .next t ∧ Only [.desk, .fire, .link, .lines, .draws] s t ∧ t.dsu = s.firing k ∧
      t.fdu = { s.fdu with fire := { s.fdu.fire with
        state := .staffAlert .investigating, entry := s.now,
        timer := some (s.now + s.settings.fireTimes.investigation * 1000) } } ∧
      Sends s (firstNotes s.settings.desk.mode k b ++ [n]) t ∧ n.cls = .alarm := by
  have hd : (s.keyBase k b).deskRequest .fireAck = _ := if_pos (show (s.keyBase k b).fdu.fire.state = _ from hf)
  refine ⟨_, _, f.done hm ha (by decide) hd, ?_, rfl, rfl, State.keyed_sends (u := s.firing k) rfl, rfl⟩
  refine (State.keyed_finish (u := s.firing k) (first := firstNotes s.settings.desk.mode k b) (ps := [.fire, .link]) ?_).mono
    (by decide)
  exact ((State.setFdu_only _ _).mono (by decide)).trans ((State.notifyAll_only [_] _).mono (by decide))

/-- LIGHTS-GO with the desk fade time, and HOUSE-FULL. -/
theorem KeyFires.lights {p fade : Nat} {target : Nat → Nat} {origin : FadeOrigin}
    (ha : (b.action = .lightsGo p ∧ p ≤ 15 ∧ fade = min 6000 s.settings.deskFade ∧ target = s.settings.presetLevel p ∧
        origin = .go) ∨
      (b.action = .houseFull ∧ fade = s.settings.lightTimes.houseFull ∧ target = (fun _ => 1000) ∧ origin = .houseFull))
    (hr : s.ilu.relay.line = true) :
    ∃ t, exec c s = .next t ∧ Only [.desk, .lights, .link, .lines, .draws] s t ∧ t.dsu = s.firing k ∧
      Sends s (firstNotes s.settings.desk.mode k b) t ∧ t.hlu = { s.hlu with channels := t.hlu.channels } ∧
      ∀ (i : Nat) (r : ChannelRun), s.hlu.channels[i]? = some r → t.hlu.channels[i]? = some
        (if fade = 0 then { active := target i, fade := none }
         else { r with fade := some { start := r.active, target := target i, started := s.now,
                                      duration := fade * 100, origin, evals := 0 } }) := by
  have he : exec c s = .next
      (State.finish { s.keyBase k b with hlu := s.hlu.start s.now (fun _ => true) target fade origin }) := by
    rcases ha with ⟨ha, hp, rfl, rfl, rfl⟩ | ⟨ha, rfl, rfl, rfl⟩
    · exact f.done hm ha (by simp) (State.decideGo_eq (s := s.keyBase k b) hp hr _)
    · exact f.done hm ha (by decide) (State.decideHouseFull_eq (s := s.keyBase k b) hr)
  have hs : Sends s (firstNotes s.settings.desk.mode k b ++ []) _ :=
    State.keyed_sends (u := s.firing k) (w := { s.keyBase k b with hlu := _ }) rfl
  rw [List.append_nil] at hs
  refine ⟨_, he, (State.keyed_finish (u := s.firing k) (first := firstNotes s.settings.desk.mode k b) (ps := [.lights])
    fun p hp => ?_).mono (by decide), rfl, hs, rfl, fun i r hi => ?_⟩
  · cases p <;> simp_all [Part.same, State.keyBase]
  · show (s.hlu.start s.now (fun _ => true) target fade origin).channels[i]? = _
    simp [Hlu.start, hi, ChannelRun.start]

theorem KeyFires.calls {n : Nat} (ha : b.action = .call n) (hn : n ≤ 15) (hq : QueueOk s.clu)
    (hres : s.clu.reservedInUse .desk < 3) (hok : templateOk (s.settings.template n) = true)
    (hev : ¬ (s.phase = .evacuate ∧ isShowOrHouse (s.settings.template n).cls = true))
    (hz : playZones s.phase (s.settings.template n).cls (s.settings.template n).zones ≠ 0)
    (hne : ∀ e ∈ s.clu.entries, ¬ e.Same (s.settings.template n)
      (playZones s.phase (s.settings.template n).cls (s.settings.template n).zones)) :
    ∃ t e bs, exec c s = .next t ∧ Only [.desk, .fire, .calls, .gates, .link, .lines, .draws] s t ∧ t.dsu = s.firing k ∧
      Sends s (firstNotes s.settings.desk.mode k b ++ bs) t ∧ e ∈ t.clu.entries ∧ (∀ f ∈ s.clu.entries, f.id ≠ e.id) ∧
      e = { s.clu.numbered.entryFor .desk (s.settings.template n)
        (playZones s.phase (s.settings.template n).cls (s.settings.template n).zones) false with state := e.state } := by
  have hacc : s.clu.accounting .desk (s.settings.template n).cls = some false := if_pos hres
  obtain ⟨u, e, hu, hk, hmem, he⟩ := State.placeCall_admits (s := s.keyBase k b) (src := .desk) f.current hq hok hev hz hne hacc
  have hd : (s.keyBase k b).deskRequest (.call n) =
      (u, .done (.call e.id false (playZones s.phase (s.settings.template n).cls (s.settings.template n).zones))) := by
    show (s.keyBase k b).decideCallTemplate .desk n = _
    unfold State.decideCallTemplate
    rw [if_neg (Nat.not_lt.2 hn)]
    exact congrArg (fun r : State × CallResult => (r.1, r.2.decision)) hu
  obtain ⟨bs, hbs⟩ := hk.kept.notices
  refine ⟨_, e, bs, f.done hm ha (by simp) hd, (State.keyed_finish hk.only).mono (by decide), hk.only .desk (by decide),
    State.keyed_sends (u := s.firing k) hbs, hmem, ?_, he⟩
  have hid : e.id = s.clu.numbered.freshId := by
    rw [he]
    rfl
  rw [hid]
  exact (Clu.newId_spec hq).2

theorem KeyFires.halts (ha : b.action = .curtainHalt) (ho : CurtainOk s.ctc) (hs : s.ctc.state = .raising) :
    ∃ t, exec c s = .next t ∧ Only [.desk, .curtain, .gates, .link, .lines, .draws] s t ∧ t.dsu = s.firing k ∧
      t.ctc = { s.ctc with state := .held, raiseDeadline := none } ∧ t.lines.brake = true ∧ t.ilu.hoist.line = false ∧
      Sends s (firstNotes s.settings.desk.mode k b ++ [.curtainState .held none (pos s) s.settings.curtain.release]) t := by
  have hd : (s.keyBase k b).deskRequest .curtainHalt = _ := State.decideHalt_raising (s := s.keyBase k b) f.current ho hs
  exact ⟨_, f.done hm ha (by decide) hd, (State.keyed_finish (State.curtainSet_only _ _ _)).mono (by decide), rfl, rfl, rfl,
    State.curtainSet_hoist (s := s.keyBase k b) f.current _ _, State.keyed_sends (u := s.firing k) rfl⟩

theorem KeyFires.lowers (ha : b.action = .curtainLower) (hp : movePhase s.phase = true) (ho : CurtainOk s.ctc)
    (hs : s.ctc.state = .up ∨ s.ctc.state = .held) (he : s.ctc.edge = false) :
    ∃ w bs, exec c s = .next w.finish ∧ Descended .request (s.keyBase k b) bs w := by
  obtain ⟨bs, hk⟩ := State.startDescent_descends (s := s.keyBase k b) .request f.current ho hs he
  exact ⟨_, bs, f.done hm ha (by decide) (State.unlessRefused_none (State.lowerRefusal_none hp hs he) _), hk⟩

theorem KeyFires.raises (ha : b.action = .curtainRaise) (hp : movePhase s.phase = true) (ho : CurtainOk s.ctc)
    (hf : s.fireFull = false) (hr : raiseReady s) (hs : s.ctc.state = .down ∨ s.ctc.state = .held) :
    ∃ w bs, exec c s = .next w.finish ∧ Raises (s.keyBase k b) bs w := by
  obtain ⟨bs, hk⟩ := State.startRaise_raises (s := s.keyBase k b) f.current ho hs hp hf hr
  exact ⟨_, bs, f.done hm ha (by decide) (State.unlessRefused_none (State.raiseRefusal_none hp hf hr hs) _), hk⟩

theorem KeyFires.begins (ha : b.action = .phase .begin)
    (hp : s.phase = .houseOpen ∨ s.phase = .interval ∨ s.phase = .resuming) (hs : s.ctc.state = .up)
    (hpr : s.pfu.perf.proven = true) (hf : s.fireQuiet = true) (hl : s.lmu.limitState 6 = .normal) :
    ∃ t, exec c s = .next t ∧ KeyMovedPhase s (s.firing k) .begin (s.pfu.begin s.now).1
      (firstNotes s.settings.desk.mode k b) (s.pfu.begin s.now).2 t :=
  f.moves hm ha (by decide) (State.decideBegin_eq (s := s.keyBase k b) .desk
    (State.beginRefusal_none.2 ⟨(beginPhase_iff _).2 hp, hs, hpr, hf, hl⟩))

theorem KeyFires.evacuates (ha : b.action = .evacuate) (ho : CurtainOk s.ctc) (hf : CurtainFalls s)
    (hp : evacuablePhase s.phase = true) :
    ∃ w, exec c s = .next w.finish ∧ Evacuates .desk (s.keyBase k b) w :=
  ⟨_, f.done hm ha (by decide) (State.decideEvacuate_eq (s := s.keyBase k b) .desk hp),
    State.enterEvacuate_evacuates .desk ho (hf f.released)⟩

theorem KeyFires.alarms (ha : b.action = .fireFull) (ho : CurtainOk s.ctc) (hf : CurtainFalls s) (hn : s.fireFull = false) :
    ∃ t, exec c s = .next t ∧ EntersFull { s with dsu := s.firing k } .manual t := by
  have hd : (s.keyBase k b).deskRequest .fireFull = ((s.keyBase k b).enterFull .manual, .done .empty) := by
    have hne : s.fdu.fire.state ≠ .full := of_decide_eq_false hn
    show (s.keyBase k b).decideFireFull = _
    unfold State.decideFireFull
    show (match s.fdu.fire.state with
      | .quiet | .staffAlert _ => _
      | .full => _) = _
    cases h : s.fdu.fire.state <;> simp_all
  have he := State.enterFull_enters .manual (s := s.keyBase k b) f.released ho hf
  exact ⟨_, f.done hm ha (by decide) hd, ⟨he.now, he.held, he.settings, he.store, he.lmu, he.dsu, he.pending, he.full,
    he.cause, he.loud, he.timer, he.entry, he.noWalk, he.devices, he.isolation, he.sounders, he.hoist, he.release, he.relay,
    he.curtain, he.evacuates, he.stays⟩⟩

theorem KeyFires.stops (ha : b.action = .showStop) (hp : s.phase = .running) :
    ∃ t, exec c s = .next t ∧ t.phase = .stopped ∧ t.pfu.perf.stopCause = .desk ∧ t.pfu.perf.resume = some .resuming ∧
      t.dsu = s.firing k ∧ Untouched { s with dsu := t.dsu } t := by
  have hst : stopPhase (s.keyBase k b).phase = true := congrArg stopPhase hp
  have hd := State.decideShowStop_eq (s := s.keyBase k b) .desk hst
  have he := State.enterStopped_enters .desk (s := s.keyBase k b) f.current hst
  have hx := f.done hm ha (by decide) hd
  have hr : ((s.keyBase k b).pfu.perf.showStop .desk (s.keyBase k b).now).resume = some .resuming := by
    have hp' : (s.keyBase k b).pfu.perf.phase = .running := hp
    simp only [Perf.showStop, hp']
  generalize (s.keyBase k b).enterStopped .desk = u at he hx
  have hdsu : u.dsu = s.firing k := he.untouched.dsu
  refine ⟨_, hx, ?_, ?_, ?_, hdsu, ?_⟩
  · show u.pfu.perf.phase = _
    rw [he.pfu]
    rfl
  · show u.pfu.perf.stopCause = _
    rw [he.pfu]
    rfl
  · show u.pfu.perf.resume = _
    rw [he.pfu]
    exact hr
  · show Untouched { s with dsu := u.dsu } _
    rw [hdsu]
    exact State.keyed_untouched he.untouched

end

/-! ## The desk's timers (R184, R185, R187, R188, R189) -/

/-- A change of DSU alone, with what it sends. -/
theorem desk_only (u : Dsu) (bs : List NoticeBody) (s : State) :
    Only [.desk, .link, .lines, .draws] s (s.keyed u bs).finish :=
  ((State.keyed_only u bs s).finish).mono (by decide)

theorem desk_sends (u : Dsu) (bs : List NoticeBody) (s : State) : Sends s bs (s.keyed u bs).finish :=
  State.finish_sends rfl

theorem debounceExpiry_eq {x : Nat} {s : State} (hh : s.held = none) (hx : x ≤ s.now)
    (hk : s.dsu.key.debounceTimer = some x) {u : Dsu} {bs : List NoticeBody}
    (hd : s.dsu.debounceEnd s.now s.settings = { dsu := u, notes := bs, fires := none }) :
    exec .debounceExpiry s = .next (s.keyed u bs).finish := by
  refine congrArg Host.Outcome.next ((State.event_eq hh (by simp [hk, dueAt, hx]) _).trans ?_)
  rw [hd]
  rfl

theorem debounce_ends (x : Nat) (s : State) (hh : s.held = none) (hx : x ≤ s.now) :
    (∀ k, s.dsu.key = .pressDebounce x → s.dsu.down = [k] → (s.settings.key k).long = true →
      ∃ t, exec .debounceExpiry s = .next t ∧ Only [.desk, .link, .lines, .draws] s t ∧
        t.dsu = { s.dsu with key := .held k (some (s.now + 1000)) } ∧ Sends s [] t) ∧
    (∀ k, s.dsu.key = .pressDebounce x → s.dsu.down = [k] → (s.settings.key k).long = false →
      s.settings.desk.mode = .report →
      ∃ t, exec .debounceExpiry s = .next t ∧ Only [.desk, .link, .lines, .draws] s t ∧
        t.dsu = { s.dsu with key := .held k none } ∧ Sends s [.key k (s.settings.key k) .report] t) ∧
    (∀ j k ks, s.dsu.key = .pressDebounce x → s.dsu.down = j :: k :: ks →
      ∃ t, exec .debounceExpiry s = .next t ∧ Only [.desk, .link, .lines, .draws] s t ∧
        t.dsu = { s.dsu with key := .rollover } ∧ Sends s [.rollover s.dsu.down .pressDebounce] t) ∧
    (s.dsu.key = .releaseDebounce (some x) → ∃ t, exec .debounceExpiry s = .next t ∧
      Only [.desk, .link, .lines, .draws] s t ∧ t.dsu = { s.dsu with key := .idle } ∧ Sends s [] t) := by
  refine ⟨fun k hk hd hl => ?_, fun k hk hd hl hm => ?_, fun j k ks hk hd => ?_, fun hk => ?_⟩
  · have he : s.dsu.debounceEnd s.now s.settings =
        { dsu := { s.dsu with key := .held k (some (s.now + 1000)) }, notes := [], fires := none } := by
      simp [Dsu.debounceEnd, hk, hd, hl, DsuOut.of]
    exact ⟨_, debounceExpiry_eq hh hx (by rw [hk]; rfl) he, desk_only _ _ s, rfl, desk_sends _ _ s⟩
  · exact ⟨_, firing_report hh hx rfl (.inr ⟨rfl, hk, hd, hl⟩) hm, desk_only _ _ s, rfl, desk_sends _ _ s⟩
  · have he : s.dsu.debounceEnd s.now s.settings =
        { dsu := { s.dsu with key := .rollover }, notes := [.rollover s.dsu.down .pressDebounce], fires := none } := by
      simp [Dsu.debounceEnd, hk, hd]
    exact ⟨_, debounceExpiry_eq hh hx (by rw [hk]; rfl) he, desk_only _ _ s, rfl, desk_sends _ _ s⟩
  · have he : s.dsu.debounceEnd s.now s.settings =
        { dsu := { s.dsu with key := .idle }, notes := [], fires := none } := by
      simp [Dsu.debounceEnd, hk, DsuOut.of]
    exact ⟨_, debounceExpiry_eq hh hx (by rw [hk]; rfl) he, desk_only _ _ s, rfl, desk_sends _ _ s⟩

theorem indication_ends (x : Nat) (s : State) (hh : s.held = none) (hx : x ≤ s.now) :
    (s.dsu.refusedUntil = some x → ∃ t, exec .refusedIndicationExpiry s = .next t ∧
      Only [.desk, .link, .lines, .draws] s t ∧ t.dsu = { s.dsu with refusedUntil := none } ∧ Sends s [] t) ∧
    (s.dsu.flashDue ≤ s.now → ∃ t, exec .flashHalfPeriod s = .next t ∧ Only [.desk, .link, .lines, .draws] s t ∧
      t.dsu = { s.dsu with flashLit := !s.dsu.flashLit, flashDue := s.dsu.flashDue + 500 } ∧ Sends s [] t) :=
  ⟨fun hr => ⟨(s.keyed { s.dsu with refusedUntil := none } []).finish,
      congrArg Host.Outcome.next (State.event_eq hh (by simp [hr, dueAt, hx]) _), desk_only _ _ s, rfl, desk_sends _ _ s⟩,
    fun hf => ⟨(s.keyed s.dsu.flash []).finish, congrArg Host.Outcome.next (State.event_eq hh (by simpa using hf) _),
      desk_only _ _ s, rfl, desk_sends _ _ s⟩⟩

/-- Settles O54: the desk's timers, and the firing of a key with the request it makes. -/
theorem deskTimers : Obligations.DeskTimers := by
  refine ⟨debounce_ends, ?_, indication_ends⟩
  intro c k x b s hh hg hx hb hc u first
  have hu : u = s.firing k := rfl
  have hfirst : first = firstNotes s.settings.desk.mode k b := rfl
  clear_value u first
  subst hu hfirst
  have f : KeyFires c k x b s := ⟨hh, hg hh, hx, hb, hc⟩
  refine ⟨fun hm => ⟨_, firing_report hh hx hb hc hm, desk_only _ _ s, rfl, desk_sends _ _ s⟩, fun hm => ?_⟩
  refine ⟨fun ha => ?_, fun kind r hr => ?_, f.stops hm, fun ha hp => ?_, fun ha hs hpr hf hl => ⟨fun hp => ?_, fun hp => ?_,
    fun hp => ?_⟩, fun ha hp hl copy hcp => ?_, fun ha i hi => ?_, fun ha hp hf r hr => ?_,
    fun ha h1 h2 h3 ho hs he => ?_, fun ha h1 h2 h3 ho hf hr1 hr2 hr3 hs => ?_, fun ha ho hf h1 h2 h3 => ?_,
    fun ha ho hf hn => f.alarms hm ha ho hf hn, fun n ha hn hq _ hres hok hev hz hne => ?_,
    fun ha ho hs => f.halts hm ha ho hs, fun p fade target origin ha hr => f.lights hm ha hr, fun ha hf => f.acks hm ha hf,
    fun ha hf hs => f.silences hm ha hf hs⟩
  · have he := firing_issues hh hx hb hc hm
    rw [ha] at he
    exact ⟨_, he, desk_only _ _ s, rfl, desk_sends _ _ s⟩
  · obtain ⟨hk, hd⟩ := State.deskRequest_refused (s := s.keyBase k b) f.current hr
    exact f.refused hm rfl hk hd
  · obtain ⟨t, he, k⟩ := f.moves hm ha (by decide) (State.decideOpenHouse_eq (s := s.keyBase k b) .desk hp)
    obtain ⟨cs, hs⟩ := k.sent
    refine ⟨t, cs, he, k.untouched, k.record.phase, ?_, hs⟩
    rw [k.record.1]
    rfl
  · have hmv := f.begins hm ha (.inl hp) hs hpr hf hl
    rw [Pfu.begin_houseOpen hp] at hmv
    exact hmv
  · have hmv := f.begins hm ha (.inr (.inl hp)) hs hpr hf hl
    rw [Pfu.begin_interval hp] at hmv
    exact hmv
  · have hmv := f.begins hm ha (.inr (.inr hp)) hs hpr hf hl
    rw [Pfu.begin_resuming hp] at hmv
    exact hmv
  · have hmv := f.moves hm ha (by decide) (State.decideInterval_eq (s := s.keyBase k b) .desk hp hl)
    rw [Pfu.interval_eq (f := s.pfu) hcp] at hmv
    exact hmv
  · have hmv := f.moves hm ha (by decide) (State.decideEnd_eq (s := s.keyBase k b) .desk hi)
    rw [Pfu.endShow_eq (f := s.pfu) hi] at hmv
    exact hmv
  · have hmv := f.moves hm ha (by decide) (State.decideResume_eq (s := s.keyBase k b) .desk hp hf)
    have hres := Perf.doResume_eq (p := s.pfu.perf) s.now hr
    obtain ⟨t, he, mv⟩ := hmv
    replace mv : KeyMovedPhase s (s.firing k) .resume (s.pfu.setPerf (s.pfu.perf.doResume s.now)) _ [] t := mv
    rw [hres] at mv
    exact ⟨t, he, mv⟩
  · have hp : movePhase s.phase = true := (movePhase_iff _).2 ⟨h1, h2, h3⟩
    obtain ⟨w, bs, hx, hk⟩ := f.lowers hm ha hp ho hs he
    obtain ⟨hrel, hbr, hfl, hopen, hfloor⟩ := hk.starts (t := w.finish) ho hs he rfl rfl rfl rfl
    refine ⟨_, bs, hx, (State.keyed_finish hk.onlyCurtain).mono (by decide), hk.only .desk (by decide),
      State.keyed_sends (u := s.firing k) hk.lp, hrel, hbr, hfl, fun hfo => ?_, hfloor⟩
    obtain ⟨hb, hl, d, hc, d1, d2, d3, -, d5, d6, d7, d8, -⟩ := hopen hfo
    exact ⟨hb, hl, d, by rw [hc], hc, d1, d2, d3, d5, d6, d7, d8⟩
  · have hp : movePhase s.phase = true := (movePhase_iff _).2 ⟨h1, h2, h3⟩
    obtain ⟨w, bs, hx, hk⟩ := f.raises hm ha hp ho hf ⟨hr1, hr2, hr3⟩ hs
    refine ⟨_, bs, hx, (State.keyed_finish hk.only).mono (by decide), hk.only .desk (by decide),
      State.keyed_sends (u := s.firing k) hk.lp, hk.release, fun h1 h2 => ?_, hk.atTop⟩
    obtain ⟨hb, hl, hc⟩ := hk.rising h1 h2
    refine ⟨hb, hl, ?_, ?_, hc⟩
    · exact (congrArg Ctc.brake hc).trans rfl
    · exact (congrArg Ctc.warning hc).trans rfl
  · have hp : evacuablePhase s.phase = true := (evacuablePhase_iff _).2 ⟨h1, h2, h3⟩
    obtain ⟨w, hx, hk⟩ := f.evacuates hm ha ho hf hp
    obtain ⟨cs, hcs⟩ := hk.told
    exact ⟨_, cs, hx, hk.dsu, hk.record.phase, hk.full, fun _ _ => hk.falls, State.keyed_sends (u := s.firing k) hcs⟩
  · have hev' : ¬ (s.phase = .evacuate ∧ isShowOrHouse (s.settings.template n).cls = true) := by
      rintro ⟨h1, h2⟩
      rcases (isShowOrHouse_iff _).1 h2 with h2 | h2 <;> rcases hev with hev | hev | hev <;> simp_all
    obtain ⟨t, e, bs, hx, ho, hd, hs, hmem, hfresh, hee⟩ := f.calls hm ha hn hq hres hok hev' hz hne
    refine ⟨t, e, bs, hx, ho, hd, hs, hmem, hfresh, ?_⟩
    rw [hee]
    exact ⟨rfl, rfl, rfl, rfl, rfl, rfl, rfl, rfl⟩

end Sys2Proof.Machine
end

section
/-!
The plan store under the operations that do not work on it: each reaction, request and event of the other blocks leaves the
whole store as it is.
-/

namespace Sys2Proof.Machine

open Sys2Proof.Safety

/-! ## The reactions of the blocks to one another -/

theorem foldl_store {α : Type} {f : State → α → State} (hf : ∀ s a, (f s a).store = s.store) (l : List α) (s : State) :
    (l.foldl f s).store = s.store := by
  induction l generalizing s with
  | nil => rfl
  | cons a l ih => rw [List.foldl_cons, ih, hf]

@[simp] theorem State.withClu_store (f : Clu → CluOut) (s : State) : (s.withClu f).store = s.store :=
  (State.withClu_kept f s).untouched.store

@[simp] theorem State.playEvent_store (f : Clu → CluOut) (s : State) : (s.playEvent f).store = s.store := by
  simp [State.playEvent]

@[simp] theorem State.placeCall_store (src : Source) (t : Template) (s : State) : (s.placeCall src t).1.store = s.store :=
  (State.placeCall_kept src t s).untouched.store

@[simp] theorem State.announce_store (n : Nat) (f : Template → Template) (s : State) : (s.announce n f).1.store = s.store :=
  (State.announce_kept n f s).untouched.store

@[simp] theorem State.cancelKept_store (id : Option Nat) (s : State) : (s.cancelKept id).1.store = s.store :=
  (State.cancelKept_kept id s).untouched.store

@[simp] theorem State.changePhase_store (cause : PhaseCause) (change : Pfu → Pfu × List NoticeBody) (s : State) :
    (s.changePhase cause change).store = s.store :=
  (State.changePhase_kept cause change s).untouched.store

@[simp] theorem State.enterStopped_store (src : Source) (s : State) : (s.enterStopped src).store = s.store :=
  (State.enterStopped_untouched src s).store

@[simp] theorem State.decideShowStop_store (src : Source) (s : State) : (s.decideShowStop src).1.store = s.store := by
  unfold State.decideShowStop
  split <;> simp

@[simp] theorem State.takeReport_store (r : CtcReport) (s : State) : (s.takeReport r).store = s.store := by
  unfold State.takeReport
  split
  · exact (State.takeArrival_kept _ s).untouched.store
  case h_5 => rfl
  all_goals split <;> simp

@[simp] theorem State.withCtc_store (f : CtcEnv → Ctc → CtcOut) (s : State) : (s.withCtc f).store = s.store :=
  (foldl_store (fun s r => s.takeReport_store r) _ _).trans (State.moveCurtain_kept f s).untouched.store

/-! ## The entries to FULL, EVACUATE and STAFF-ALERT -/

@[simp] theorem State.fullCalls_store (s : State) : s.fullCalls.1.store = s.store := s.fullCalls_kept.untouched.store

@[simp] theorem State.callsAndFlush_store (s : State) : s.callsAndFlush.1.store = s.store :=
  s.callsAndFlush_kept.untouched.store

@[simp] theorem State.takeForcing_store (b : Bool) (s : State) : (s.takeForcing b).store = s.store :=
  (s.takeForcing_kept b).untouched.store

@[simp] theorem State.fullRecord_store (cause : FullCause) (s : State) : (s.fullRecord cause).store = s.store := rfl

@[simp] theorem State.enterFull_store (cause : FullCause) (s : State) : (s.enterFull cause).store = s.store := by
  unfold State.enterFull
  cases evacuablePhase s.phase <;> simp

@[simp] theorem State.enterEvacuate_store (src : Source) (s : State) : (s.enterEvacuate src).store = s.store := by
  unfold State.enterEvacuate
  by_cases h : s.fdu.fire.state = .full <;> simp [h]

@[simp] theorem State.decideEvacuate_store (src : Source) (s : State) : (s.decideEvacuate src).1.store = s.store := by
  unfold State.decideEvacuate
  split <;> simp

@[simp] theorem State.enterStaffAlert_store (s : State) : s.enterStaffAlert.store = s.store := by
  simp [State.enterStaffAlert]

@[simp] theorem State.resound_store (s : State) : s.resound.store = s.store := by
  unfold State.resound
  cases h : s.fdu.fire.silenced <;> simp

@[simp] theorem State.takeAlarm_store (a : Nat) (s : State) : (s.takeAlarm a).store = s.store := by
  unfold State.takeAlarm
  dsimp only
  split
  · split <;> simp
  · simp
  · simp

@[simp] theorem State.withFdu_store (o : FduOut) (s : State) : (s.withFdu o).store = s.store := by
  unfold State.withFdu
  dsimp only
  split <;> simp

/-! ## The decisions of requests -/

/-- A decision leaves the plan store as it is. -/
def LeavesStore (d : State → State × Decision) : Prop := ∀ s, (d s).1.store = s.store

theorem LeavesStore.read (d : State → Decision) : LeavesStore fun s => (s, d s) := fun _ => rfl

theorem State.decideOpenHouse_store (src : Source) : LeavesStore (State.decideOpenHouse src) := by
  intro s
  unfold State.decideOpenHouse
  split <;> simp

theorem State.decideBegin_store (src : Source) : LeavesStore (State.decideBegin src) := by
  intro s
  unfold State.decideBegin
  split <;> simp

theorem State.decideInterval_store (src : Source) : LeavesStore (State.decideInterval src) := by
  intro s
  unfold State.decideInterval
  split <;> simp

theorem State.decideEnd_store (src : Source) : LeavesStore (State.decideEnd src) := by
  intro s
  unfold State.decideEnd
  split <;> simp

theorem State.decideResume_store (src : Source) : LeavesStore (State.decideResume src) := by
  intro s
  unfold State.decideResume
  split
  · rfl
  · split <;> simp

theorem State.decideClose_store : LeavesStore State.decideClose := by
  intro s
  unfold State.decideClose
  split
  · rfl
  · split <;> simp

theorem State.decideDisarm_store : LeavesStore State.decideDisarm := by
  intro s
  unfold State.decideDisarm
  split <;> simp

theorem State.decideRaise_store : LeavesStore State.decideRaise := fun s => s.decideRaise_kept.untouched.store
theorem State.decideLower_store : LeavesStore State.decideLower := fun s => s.decideLower_kept.untouched.store
theorem State.decideTest_store : LeavesStore State.decideTest := fun s => s.decideTest_kept.untouched.store

theorem State.decideHalt_store : LeavesStore State.decideHalt := by
  intro s
  unfold State.decideHalt
  split
  · simp
  · split <;> simp
  all_goals rfl

theorem State.decideClear_store : LeavesStore State.decideClear := by
  intro s
  unfold State.decideClear
  split
  case h_4 | h_5 | h_6 => rfl
  all_goals simp

theorem State.decideGo_store (p t : Nat) : LeavesStore (State.decideGo p t) := fun s =>
  (State.decideGo_kept p t s).untouched.store

theorem State.decideHouseFull_store : LeavesStore State.decideHouseFull := fun s => s.decideHouseFull_kept.untouched.store

theorem State.decideRestore_store : LeavesStore State.decideRestore := by
  intro s
  unfold State.decideRestore
  split <;> simp

theorem State.decidePresetWrite_store (n : Nat) (l : List Nat) : LeavesStore (State.decidePresetWrite n l) := by
  intro s
  unfold State.decidePresetWrite
  repeat' split
  all_goals rfl

theorem State.decideExtend_store (n : Nat) : LeavesStore (State.decideExtend n) := by
  intro s
  unfold State.decideExtend
  repeat' split
  all_goals rfl

theorem State.decideIsolate_store (z n : Nat) : LeavesStore (State.decideIsolate z n) := by
  intro s
  unfold State.decideIsolate
  repeat' split
  all_goals rfl

theorem State.decideZoneRestore_store (z : Nat) : LeavesStore (State.decideZoneRestore z) := by
  intro s
  unfold State.decideZoneRestore
  repeat' split
  all_goals rfl

theorem State.decideFireAck_store : LeavesStore State.decideFireAck := by
  intro s
  unfold State.decideFireAck
  dsimp only
  split <;> rfl

theorem State.decideFireFull_store : LeavesStore State.decideFireFull := by
  intro s
  unfold State.decideFireFull
  split
  · simp
  · simp
  · split <;> simp

theorem State.decideFireSilence_store : LeavesStore State.decideFireSilence := by
  intro s
  unfold State.decideFireSilence
  dsimp only
  split <;> simp

theorem State.decideFireReset_store : LeavesStore State.decideFireReset := by
  intro s
  unfold State.decideFireReset
  dsimp only
  split
  · rfl
  · split <;> simp [State.resetFire]

theorem State.decideWalkTest_store (z : Nat) : LeavesStore (State.decideWalkTest z) := by
  intro s
  unfold State.decideWalkTest
  repeat' split
  all_goals rfl

theorem State.decideWalkTestEnd_store : LeavesStore State.decideWalkTestEnd := by
  intro s
  unfold State.decideWalkTestEnd
  split <;> rfl

theorem State.decideTemplateWrite_store (n : Nat) (b : CallBody) : LeavesStore (State.decideTemplateWrite n b) := by
  intro s
  unfold State.decideTemplateWrite
  repeat' split
  all_goals rfl

theorem State.decideCallBody_store (b : CallBody) : LeavesStore (State.decideCallBody b) := by
  intro s
  unfold State.decideCallBody
  split <;> simp

theorem State.decideCallTemplate_store (src : Source) (n : Nat) : LeavesStore (State.decideCallTemplate src n) := by
  intro s
  unfold State.decideCallTemplate
  split <;> simp

theorem State.decideAnnouncerReset_store : LeavesStore State.decideAnnouncerReset := by
  intro s
  unfold State.decideAnnouncerReset
  repeat' split
  all_goals rfl

theorem State.decideCancel_store (id : Nat) : LeavesStore (State.decideCancel id) := by
  intro s
  unfold State.decideCancel
  repeat' split
  all_goals simp

theorem State.decideQueueRead_store (first count : Nat) : LeavesStore (State.decideQueueRead first count) := by
  intro s
  unfold State.decideQueueRead
  split <;> rfl

theorem State.decideStepRead_store (first count : Nat) : LeavesStore (State.decideStepRead first count) := by
  intro s
  unfold State.decideStepRead
  repeat' split
  all_goals rfl

theorem State.decidePlanRead_store (l : Option PlanLetter) (x : PlanSelect) : LeavesStore (State.decidePlanRead l x) := by
  intro s
  unfold State.decidePlanRead
  cases x <;> dsimp only <;> repeat' split
  all_goals rfl

theorem State.decideDeviceRead_store (a : Nat) : LeavesStore (State.decideDeviceRead a) := by
  intro s
  unfold State.decideDeviceRead
  split <;> rfl

theorem State.decideDeviceCounts_store (first count : Nat) : LeavesStore (State.decideDeviceCounts first count) := by
  intro s
  unfold State.decideDeviceCounts
  split <;> rfl

theorem State.decideConfigGet_store (i : ConfigItem) : LeavesStore (State.decideConfigGet i) := by
  intro s
  unfold State.decideConfigGet
  split <;> rfl

/-- An accepted CONFIG-SET changes the configuration in force, and not the one stored (R198, R199). -/
theorem State.ownerSet_store {w : ConfigWrite} {s t : State} (h : s.ownerSet w = .accepted t) : t.store = s.store := by
  cases w <;> simp only [State.ownerSet, ownerCheck, ownerValue] at h
  all_goals
    repeat' split at h
    all_goals cases h
    all_goals rfl

theorem State.decideConfigSet_store (w : ConfigWrite) : LeavesStore (State.decideConfigSet w) := by
  intro s
  unfold State.decideConfigSet
  dsimp only
  split
  · rfl
  · split
    · rfl
    · split
      · rfl
      · next h => exact State.ownerSet_store h

/-! ## The events -/

theorem State.deskRequest_store (a : KeyAction) : LeavesStore (State.deskRequest a) := by
  intro s
  cases a with
  | phase r =>
    cases r with
    | openHouse => exact State.decideOpenHouse_store _ s
    | begin => exact State.decideBegin_store _ s
    | interval => exact State.decideInterval_store _ s
    | endShow => exact State.decideEnd_store _ s
    | resume => exact State.decideResume_store _ s
  | showStop => exact s.decideShowStop_store _
  | evacuate => exact s.decideEvacuate_store _
  | fireFull => exact s.decideFireFull_store
  | call n => exact State.decideCallTemplate_store _ _ s
  | curtainLower => exact s.decideLower_store
  | curtainRaise => exact s.decideRaise_store
  | curtainHalt => exact s.decideHalt_store
  | lightsGo p => exact State.decideGo_store _ _ s
  | houseFull => exact s.decideHouseFull_store
  | fireAck => exact s.decideFireAck_store
  | fireSilence => exact s.decideFireSilence_store
  | none => rfl

@[simp] theorem State.issueKey_store (k : Nat) (a : KeyAction) (s : State) : (s.issueKey k a).store = s.store := by
  unfold State.issueKey
  split
  · rfl
  · dsimp only
    split <;> exact s.deskRequest_store a

@[simp] theorem State.fireKey_store (k : Nat) (s : State) : (s.fireKey k).store = s.store := by
  unfold State.fireKey
  dsimp only
  split <;> simp

@[simp] theorem State.withDsu_store (o : DsuOut) (s : State) : (s.withDsu o).store = s.store := by
  unfold State.withDsu
  dsimp only
  split <;> simp

@[simp] theorem State.fireTimerEnd_store (s : State) : s.fireTimerEnd.store = s.store := by
  unfold State.fireTimerEnd
  split <;> simp

@[simp] theorem State.deliver_store (n : Nat) (st : LimitState) (s : State) : (s.deliver n st).store = s.store := by
  unfold State.deliver
  repeat' split
  all_goals simp

@[simp] theorem State.convert_store (code : Nat) (s : State) : (s.convert code).store = s.store := by
  unfold State.convert
  dsimp only
  split <;> simp

@[simp] theorem State.endSlot_store (ra rb : Reception) (s : State) : (s.endSlot ra rb).store = s.store := by
  unfold State.endSlot
  split <;> simp

@[simp] theorem State.issueDue_store (s : State) : s.issueDue.store = s.store := s.issueDue_kept.untouched.store

@[simp] theorem State.frameSent_store (s : State) : s.frameSent.store = s.store := by
  unfold State.frameSent State.replySent
  repeat' split
  all_goals rfl

/-! ## The frames of a command's meaning -/

/-- An event of a block that does not work on the store. -/
theorem State.event_store {f : State → State} {s : State} (hf : (f s).store = s.store) (due : Bool) :
    (s.event due f).store = s.store := by
  unfold State.event
  split
  · rfl
  · exact hf

theorem State.ctcInput_store (same : Bool) (track : Ctc → Ctc) (react : CtcEnv → Ctc → CtcOut) (s : State) :
    (s.ctcInput same track react).store = s.store := by
  unfold State.ctcInput
  repeat' split
  all_goals simp

theorem State.busyInput_store (level : Bool) (f : Clu → CluOut) (s : State) : (s.busyInput level f).store = s.store := by
  unfold State.busyInput
  repeat' split
  all_goals simp

theorem State.encoderInput_store (n : Nat) (s : State) : (s.encoderInput n).store = s.store := by
  unfold State.encoderInput
  dsimp only
  split <;> rw [State.ctcInput_store]
  rfl

/-- What a request's frame leaves of the plan and of the store: LP alone takes it, or both are as the decision leaves them. -/
theorem State.receive_store_cases (kind : ReplyKind) (d : State → State × Decision) (s : State) :
    (s.receive kind d).pfu = s.pfu ∧ (s.receive kind d).store = s.store ∨
      (s.receive kind d).pfu = (d s.hunting).1.pfu ∧ (s.receive kind d).store = (d s.hunting).1.store := by
  unfold State.receive
  split
  · exact .inl ⟨rfl, rfl⟩
  · split
    · exact .inl ⟨rfl, rfl⟩
    · split
      · exact .inl ⟨rfl, rfl⟩
      · exact .inr ⟨rfl, rfl⟩

theorem State.receive_store {d : State → State × Decision} (hd : LeavesStore d) (kind : ReplyKind) (s : State) :
    (s.receive kind d).store = s.store :=
  (s.receive_store_cases kind d).elim (·.2) fun h => h.2.trans (hd s.hunting)

theorem State.answer_store {d : State → State × Decision} (hd : LeavesStore d) (kind : RequestKind) (fits : Bool)
    (s : State) : (s.answer kind fits d).store = s.store := by
  refine State.receive_store (fun s => ?_) _ s
  split
  · exact hd s
  · rfl

end Sys2Proof.Machine
end

section
/-!
The lock of the armed plan's sector (R25): no command begins an operation on it, and none but the release of a reset changes
it.
-/

namespace Sys2Proof.Machine

open Sys2Proof.Safety

/-! ## Sectors -/

theorem Store.sector_setSector_same (t : Store) (l : PlanLetter) (p : PlanSector) : (t.setSector l p).sector l = p := by
  cases l <;> rfl

theorem Store.sector_setSector_ne (t : Store) {l k : PlanLetter} (p : PlanSector) (h : k ≠ l) :
    (t.setSector l p).sector k = t.sector k := by
  cases l <;> cases k <;> simp_all [Store.setSector, Store.sector]

/-- The end of an operation with its verification passed leaves every other sector as it is (R24). -/
theorem Store.complete_sector_ne {op : StoreOp} {k : PlanLetter} (h : opLetter op ≠ some k) (t : Store) :
    (t.complete op).sector k = t.sector k := by
  cases op with
  | storeConfig c => cases k <;> rfl
  | _ l => exact Store.sector_setSector_ne _ _ fun e => h (congrArg some e.symm)

/-- So does its end with the verification failed (R24). -/
theorem Store.fail_sector_ne {op : StoreOp} {k : PlanLetter} (h : opLetter op ≠ some k) (n : Nat) (t : Store) :
    (t.fail op n).sector k = t.sector k := by
  cases op with
  | storeConfig c => cases k <;> rfl
  | _ l => exact Store.sector_setSector_ne _ _ fun e => h (congrArg some e.symm)

@[simp] theorem Store.setSector_inFlight (t : Store) (l : PlanLetter) (p : PlanSector) :
    (t.setSector l p).inFlight = t.inFlight := by
  cases l <;> rfl

@[simp] theorem Store.complete_inFlight (op : StoreOp) (t : Store) : (t.complete op).inFlight = t.inFlight := by
  cases op <;> simp [Store.complete]

@[simp] theorem Store.fail_inFlight (op : StoreOp) (n : Nat) (t : Store) : (t.fail op n).inFlight = t.inFlight := by
  cases op <;> simp [Store.fail]

/-! ## A change that respects the lock -/

/-- A change respects the lock (R25): where no operation works on the armed plan's sector, it leaves that sector as it is, and no
operation works on it afterwards. -/
def LockHeld (s t : State) : Prop :=
  ∀ l, s.pfu.perf.plan = some l → (∀ f, s.store.inFlight = some f → opLetter f.op ≠ some l) →
    t.store.sector l = s.store.sector l ∧ ∀ f, t.store.inFlight = some f → opLetter f.op ≠ some l

theorem LockHeld.of_store {s t : State} (h : t.store = s.store) : LockHeld s t := fun _ _ hf => by
  rw [h]
  exact ⟨rfl, hf⟩

/-- An operation that begins, on another sector than the armed plan's. -/
theorem LockHeld.of_begun {s t : State} {u : Store} {f : InFlight} (ht : t.store = { u with inFlight := some f })
    (hu : ∀ l, s.pfu.perf.plan = some l → u.sector l = s.store.sector l ∧ opLetter f.op ≠ some l) : LockHeld s t := by
  intro l hl _
  obtain ⟨hs, hf⟩ := hu l hl
  rw [ht]
  refine ⟨?_, fun g hg => ?_⟩
  · rw [← hs]
    cases l <;> rfl
  · obtain rfl := Option.some.inj hg
    exact hf

/-- A decision respects the lock. -/
def RespectsLock (d : State → State × Decision) : Prop := ∀ s, LockHeld s (d s).1

theorem State.storeRefusal_eq_none {s : State} {l : PlanLetter} :
    s.storeRefusal l = none ↔ s.store.busy = false ∧ s.pfu.perf.plan ≠ some l := by
  unfold State.storeRefusal Perf.locks
  cases s.store.busy <;> simp

theorem State.startOperation_lock {s : State} {op : StoreOp} {l : PlanLetter} (hop : opLetter op = some l)
    (hr : s.storeRefusal l = none) : LockHeld s (s.startOperation op).1 := by
  refine .of_begun rfl fun k hk => ⟨rfl, fun e => (State.storeRefusal_eq_none.1 hr).2 ?_⟩
  rw [hk, ← hop, e]

theorem State.decidePlanOpen_lock (l : Option PlanLetter) (h : PlanHeader) : RespectsLock (State.decidePlanOpen l h) := by
  intro s
  unfold State.decidePlanOpen
  split
  · exact .of_store rfl
  · exact .of_store rfl
  · split
    · exact .of_store rfl
    · next l _ _ hr =>
      have hne {k : PlanLetter} (hk : s.pfu.perf.plan = some k) : k ≠ l :=
        fun e => (State.storeRefusal_eq_none.1 hr).2 (e ▸ hk)
      exact .of_begun rfl fun k hk => ⟨Store.sector_setSector_ne _ _ (hne hk), fun e => hne hk (Option.some.inj e).symm⟩

theorem State.decidePlanPut_lock (l : Option PlanLetter) (first count : Nat) (rs : List StepRecord) :
    RespectsLock (State.decidePlanPut l first count rs) := by
  intro s
  unfold State.decidePlanPut
  split
  · exact .of_store rfl
  · split
    · exact .of_store rfl
    · split
      · exact .of_store rfl
      · split
        · exact .of_store rfl
        · next hr =>
          split
          · exact .of_store rfl
          · split
            · exact .of_store rfl
            · exact State.startOperation_lock rfl hr

theorem State.decidePlanSeal_lock (l : Option PlanLetter) (count : Nat) : RespectsLock (State.decidePlanSeal l count) := by
  intro s
  unfold State.decidePlanSeal
  split
  · exact .of_store rfl
  · split
    · exact .of_store rfl
    · split
      · exact .of_store rfl
      · next hr =>
        split
        · exact .of_store rfl
        · split
          · exact .of_store rfl
          · exact State.startOperation_lock rfl hr

theorem State.decidePlanErase_lock (l : Option PlanLetter) : RespectsLock (State.decidePlanErase l) := by
  intro s
  unfold State.decidePlanErase
  split
  · exact .of_store rfl
  · split
    · exact .of_store rfl
    · next hr => exact State.startOperation_lock rfl hr

theorem State.decideConfigStore_lock : RespectsLock State.decideConfigStore := by
  intro s
  unfold State.decideConfigStore
  split
  · exact .of_store rfl
  · split
    · exact .of_store rfl
    · exact .of_begun rfl fun l _ => ⟨rfl, fun e => (nomatch e)⟩

/-- The operation that ends is not on the armed plan's sector. -/
theorem State.endOperation_lock (verified : Bool) (s : State) : LockHeld s (s.endOperation verified) := by
  unfold State.endOperation
  split
  · exact .of_store rfl
  · next f hf =>
    intro l _ hl
    have hop := hl f hf
    cases verified
    · refine ⟨(Store.fail_sector_ne hop _ _).trans ?_, by simp⟩
      cases l <;> rfl
    · refine ⟨(Store.complete_sector_ne hop _).trans ?_, by simp⟩
      cases l <;> rfl

theorem State.answer_lock {d : State → State × Decision} (hd : RespectsLock d) (kind : RequestKind) (fits : Bool)
    (s : State) : LockHeld s (s.answer kind fits d) := by
  unfold State.answer
  obtain h | h := State.receive_store_cases (.request kind)
    (fun s => if fits then d s else (s, .refused .badLength .none)) s
  · exact .of_store h.2
  · cases fits
    · exact .of_store h.2
    · intro l hl hf
      rw [h.2]
      exact hd s.hunting l hl hf

theorem State.event_lock {f : State → State} {s : State} (hf : LockHeld s (f s)) (due : Bool) :
    LockHeld s (s.event due f) := by
  unfold State.event
  split
  · exact .of_store rfl
  · exact hf

/-- Every command but ARM and the release of reset respects the lock. -/
theorem exec_lock {c : Instr} {s t : State} (h : exec c s = .next t) (ha : ∀ l, c ≠ .arm l) (hr : c ≠ .resetRelease) :
    LockHeld s t := by
  cases c <;> obtain rfl := next_inj h
  case arm l => exact absurd rfl (ha l)
  case resetRelease => exact absurd rfl hr
  case planOpen => exact s.answer_lock (State.decidePlanOpen_lock _ _) _ _
  case planPut => exact s.answer_lock (State.decidePlanPut_lock _ _ _ _) _ _
  case planSeal => exact s.answer_lock (State.decidePlanSeal_lock _ _) _ _
  case planErase => exact s.answer_lock (State.decidePlanErase_lock _) _ _
  case configStore => exact s.answer_lock State.decideConfigStore_lock _ _
  case storeOperationEnd => exact State.event_lock (s.endOperation_lock _) _
  all_goals refine .of_store ?_
  case resetAssert => split <;> rfl
  case openHouse => exact s.answer_store (State.decideOpenHouse_store _) _ _
  case begin => exact s.answer_store (State.decideBegin_store _) _ _
  case interval => exact s.answer_store (State.decideInterval_store _) _ _
  case endShow => exact s.answer_store (State.decideEnd_store _) _ _
  case showStop => exact s.answer_store (State.decideShowStop_store _) _ _
  case resume => exact s.answer_store (State.decideResume_store _) _ _
  case evacuate => exact s.answer_store (State.decideEvacuate_store _) _ _
  case close => exact s.answer_store State.decideClose_store _ _
  case disarm => exact s.answer_store State.decideDisarm_store _ _
  case performanceRead | curtainRead | interlockRead | sampleRead | deskRead | identify | lightsRead | fireRead | linkCounts
      | status | restart => exact s.answer_store (fun s => rfl) _ _
  case planRead => exact s.answer_store (State.decidePlanRead_store _ _) _ _
  case stepRead => exact s.answer_store (State.decideStepRead_store _ _) _ _
  case extend => exact s.answer_store (State.decideExtend_store _) _ _
  case stepDue => exact State.event_store s.issueDue_store _
  case intervalExpired => exact State.event_store (f := fun s => s.issueDue.sendExpiry) s.issueDue_store _
  case curtainRaise => exact s.answer_store State.decideRaise_store _ _
  case curtainLower => exact s.answer_store State.decideLower_store _ _
  case curtainTest => exact s.answer_store State.decideTest_store _ _
  case curtainHalt => exact s.answer_store State.decideHalt_store _ _
  case curtainClear => exact s.answer_store State.decideClear_store _ _
  case encoderCountChange => exact s.encoderInput_store _
  case topChange | overtravelChange | floorChange | edgeTrip => exact s.ctcInput_store _ _ _
  case obstructionHoldEnd | raiseTimeout | stopWarningEnd | floorTimerExpiry | descentWindow | timeOnlyLate =>
    exact State.event_store (s.withCtc_store _) _
  case presetWrite => exact s.answer_store (State.decidePresetWrite_store _ _) _ _
  case lightsGo => exact s.answer_store (State.decideGo_store _ _) _ _
  case houseFull => exact s.answer_store State.decideHouseFull_store _ _
  case lightsRestore => exact s.answer_store State.decideRestore_store _ _
  case deviceRead => exact s.answer_store (State.decideDeviceRead_store _) _ _
  case deviceCounts => exact s.answer_store (State.decideDeviceCounts_store _ _) _ _
  case zoneIsolate => exact s.answer_store (State.decideIsolate_store _ _) _ _
  case zoneRestore => exact s.answer_store (State.decideZoneRestore_store _) _ _
  case fireAck => exact s.answer_store State.decideFireAck_store _ _
  case fireFull => exact s.answer_store State.decideFireFull_store _ _
  case fireSilence => exact s.answer_store State.decideFireSilence_store _ _
  case fireReset => exact s.answer_store State.decideFireReset_store _ _
  case walkTest => exact s.answer_store (State.decideWalkTest_store _) _ _
  case walkTestEnd => exact s.answer_store State.decideWalkTestEnd_store _ _
  case templateWrite => exact s.answer_store (State.decideTemplateWrite_store _ _) _ _
  case call => exact s.answer_store (State.decideCallBody_store _) _ _
  case callTemplate => exact s.answer_store (State.decideCallTemplate_store _ _) _ _
  case announcerReset => exact s.answer_store State.decideAnnouncerReset_store _ _
  case callCancel => exact s.answer_store (State.decideCancel_store _) _ _
  case queueRead => exact s.answer_store (State.decideQueueRead_store _ _) _ _
  case configSet => exact s.answer_store (State.decideConfigSet_store _) _ _
  case configGet => exact s.answer_store (State.decideConfigGet_store _) _ _
  case fireTimerExpiry => exact State.event_store s.fireTimerEnd_store _
  case pollSlotEnd => exact State.event_store (s.endSlot_store _ _) _
  case lineConversion => exact State.event_store (s.convert_store _) _
  case columnRead | debounceExpiry | longTimerExpiry => exact State.event_store (s.withDsu_store _) _
  case settlingEnd | bellSegmentEnd | noStart | speakingLimitExpiry | stopStrobeEnd | stopTimeout | readyTime =>
    refine State.event_store ?_ _
    exact s.playEvent_store _
  case busyRise | busyFall => exact s.busyInput_store _ _
  case fadeEvaluation | pollSlotStart | continuityDue | continuityResult | walkIndicationExpiry | isolationExpiry
      | refusedIndicationExpiry | flashHalfPeriod | frameTimeout | frameSync | stepDueWithin60S | playStrobeEnd =>
    exact State.event_store rfl _
  case frameRejected =>
    refine State.event_store ?_ _
    unfold State.rejectFrame
    split <;> rfl
  case frameOverrun =>
    refine State.event_store ?_ _
    split <;> rfl
  case unknownKind fault => cases fault <;> exact s.receive_store (.read _) _
  case outboundFrameSent => split <;> simp

/-! ## The plan field -/

theorem RecordMove.plan {p q : Perf} (h : RecordMove p q) : q.plan = p.plan := by
  cases h with
  | begin now _ => unfold Perf.begin; split <;> rfl
  | resume now _ => unfold Perf.doResume; dsimp only; split <;> rfl
  | _ => rfl

theorem Move.plan {v w : Perf × FireState} (h : Move v w) : w.1.plan = v.1.plan := by
  cases h with
  | record _ m => exact m.plan
  | alert _ _ _ => rfl
  | full p _ now => unfold Perf.onFull; split <;> rfl

theorem Follows.plan {s t : State} (h : Follows s t) : t.pfu.perf.plan = s.pfu.perf.plan :=
  h.keeps_view (P := fun v => v.1.plan = s.pfu.perf.plan) (fun m hv => m.plan.trans hv) rfl

/-- Only an accepted ARM names a plan (R6). -/
theorem Does.plan {c : Instr} {s t : State} (h : Does s t c) (ha : ∀ l, c ≠ .arm l) :
    t.pfu.perf.plan = s.pfu.perf.plan ∨ t.pfu.perf.plan = none := by
  cases h with
  | moves h => exact .inl h.plan
  | holds l cause h => subst h; exact .inl rfl
  | arms l h => exact absurd rfl (ha l)
  | disarms h =>
    refine .inr (h.2.plan.trans ?_)
    simp [Perf.disarm]
  | fireResets h =>
    obtain ⟨u, _, hu, _, _, _, h⟩ := h
    exact .inl (h.plan.trans (by rw [hu]))
  | releases h => exact .inr h.plan

/-! ## ARM (R6) -/

/-- ARM names a plan only while no operation is in flight, and outside DARK it leaves the store as it is. -/
theorem State.decideArm_lock (l : Option PlanLetter) (s : State) :
    ((s.decideArm l).1.pfu.perf.plan = s.pfu.perf.plan ∧ (s.decideArm l).1.store.inFlight = s.store.inFlight ∨
      (s.decideArm l).1.store.inFlight = none) ∧
    (s.phase ≠ .dark → (s.decideArm l).1.store = s.store) := by
  unfold State.decideArm
  cases l with
  | none => exact ⟨.inl ⟨rfl, rfl⟩, fun _ => rfl⟩
  | some l =>
    dsimp only
    split
    · exact ⟨.inl ⟨rfl, rfl⟩, fun _ => rfl⟩
    · next hd =>
      refine ⟨?_, fun h => absurd h hd⟩
      split
      · exact .inl ⟨rfl, rfl⟩
      · split
        · exact .inl ⟨rfl, rfl⟩
        · next hb =>
          split
          · exact .inl ⟨rfl, rfl⟩
          · split
            · exact .inl ⟨rfl, rfl⟩
            · exact .inl ⟨rfl, Store.setSector_inFlight _ _ _⟩
            · refine .inr ?_
              simpa [Store.busy] using hb

theorem execArm_lock {l : Option PlanLetter} {s t : State} (h : exec (.arm l) s = .next t) :
    (t.pfu.perf.plan = s.pfu.perf.plan ∧ t.store.inFlight = s.store.inFlight ∨ t.store.inFlight = none) ∧
    (s.phase ≠ .dark → t.store = s.store) := by
  obtain rfl := next_inj h
  obtain ⟨hp, hs⟩ | ⟨hp, hs⟩ := State.receive_store_cases (.request .arm) (State.decideArm l) s
  · exact ⟨.inl ⟨congrArg (·.perf.plan) hp, congrArg (·.inFlight) hs⟩, fun _ => hs⟩
  · have hd := s.hunting.decideArm_lock l
    rw [← hp, ← hs] at hd
    exact hd

/-! ## The law of a step -/

/-- What a step does to the lock and to the armed plan's sector. -/
def SectorStands (s t : State) : Prop :=
  LockOk t ∧ ∀ l, s.held = none → s.pfu.perf.plan = some l → t.store.sector l = s.store.sector l

theorem LockHeld.stands {s t : State} (h : LockHeld s t) (hl : LockOk s)
    (hp : t.pfu.perf.plan = s.pfu.perf.plan ∨ t.pfu.perf.plan = none) : SectorStands s t := by
  refine ⟨fun l f ht hf => ?_, fun l _ hs => (h l hs fun f hf => hl l f hs hf).1⟩
  obtain hp | hp := hp
  · exact (h l (hp ▸ ht) fun f hf => hl l f (hp ▸ ht) hf).2 f hf
  · simp [hp] at ht

theorem exec_stands {c : Instr} {s t : State} (hp : PlanOk s.pfu.perf) (hl : LockOk s) (h : exec c s = .next t) :
    SectorStands s t := by
  by_cases ha : ∃ l, c = .arm l
  · obtain ⟨l, rfl⟩ := ha
    obtain ⟨hlock, hstore⟩ := execArm_lock h
    refine ⟨fun k f ht hf => ?_, fun k _ hk => ?_⟩
    · obtain ⟨hplan, hfly⟩ | hfly := hlock
      · exact hl k f (hplan ▸ ht) (hfly ▸ hf)
      · simp [hfly] at hf
    · rw [hstore fun hd => by simp [hp.2 hd] at hk]
  · have ha : ∀ l, c ≠ .arm l := fun l e => ha ⟨l, e⟩
    have hplan := (exec_does h).plan ha
    by_cases hr : c = .resetRelease
    · subst hr
      cases hh : s.held with
      | none =>
        obtain rfl : s = t := next_inj (by simpa [exec, execResetRelease, hh] using h)
        exact (LockHeld.of_store rfl).stands hl (.inl rfl)
      | some cause =>
        obtain rfl := next_inj ((execResetRelease_eq hh).symm.trans h)
        refine ⟨fun k f ht _ => ?_, fun _ hn => by simp [hh] at hn⟩
        simp [(s.releaseReset_follows cause).plan, State.blocksReset, Pfu.reset, Perf.reset] at ht
    · exact (exec_lock h ha hr).stands hl hplan

theorem State.idle_store (s : State) : s.idle.store = s.store := by
  unfold State.idle
  split
  · rfl
  · split <;> rfl

/-- Settles O8: every command but ARM and the release of reset respects the lock; ARM is taken in DARK only, where no plan is
armed, and with no operation in flight; and the release of reset arms none. -/
theorem armedSectorStands : Obligations.ArmedSectorStands := by
  intro s t hp hl h
  unfold step at h
  split at h
  · next c cs _ => exact exec_stands (s := { s with pending := cs }) hp hl h
  · obtain rfl := next_inj h
    exact (LockHeld.of_store s.idle_store).stands hl (.inl s.idle_follows.plan)

end Sys2Proof.Machine
end

section
/-!
EXTEND, the expiry of the interval and the condition "step due within 60 s" (R42, R43, R44).
-/

namespace Sys2Proof.Machine

open Sys2Proof.Safety

theorem State.setPfu_only (s : State) (f : Pfu) : Only [.performance] s { s with pfu := f } := by
  intro p hp
  cases p <;> simp_all [Part.same]

/-! ## EXTEND (R42) -/

theorem State.decideExtend_field {n : Nat} {s : State} (h : n < 10 ∨ 600 < n) :
    s.decideExtend n = (s, .refused .badField .none) := if_pos h

theorem State.decideExtend_phase {n : Nat} {s : State} (h1 : 10 ≤ n) (h2 : n ≤ 600) (hp : s.phase ≠ .interval) :
    s.decideExtend n = (s, .refused .wrongPhase .none) := by
  unfold State.decideExtend
  rw [if_neg (by omega), if_pos hp]

/-- What the reply to an accepted EXTEND says. -/
def Pfu.extendBody (n : Nat) (f : Pfu) : DoneBody :=
  .extended ((f.extend n).perf.intervalLen - f.perf.intervalLen) (f.extend n).perf.intervalLen (f.extend n).perf.remaining

theorem State.decideExtend_interval {n : Nat} {s : State} (h1 : 10 ≤ n) (h2 : n ≤ 600) (hp : s.phase = .interval) :
    s.decideExtend n = ({ s with pfu := s.pfu.extend n }, .done (s.pfu.extendBody n)) := by
  unfold State.decideExtend
  rw [if_neg (by omega), if_neg (not_not.2 hp)]
  rfl

theorem Pfu.extend_perf (n : Nat) (f : Pfu) :
    (f.extend n).perf = { f.perf with intervalLen := min 3600 (f.perf.intervalLen + n) } := rfl

/-- Only an expiry that still stands keeps its notice as sent (R43). -/
theorem Pfu.extend_expirySent (n : Nat) (f : Pfu) :
    (f.extend n).expirySent = true ↔ f.expirySent = true ∧ (f.extend n).perf.remaining = 0 := by
  simp only [Pfu.extend, Pfu.refresh_expirySent, Pfu.refresh_perf, Bool.and_eq_true, beq_iff_eq]

theorem extend_accepted {n : Nat} {s : State} (ha : Admits s) (h1 : 10 ≤ n) (h2 : n ≤ 600) (hp : s.phase = .interval) :
    ∃ t, exec (.extend n) s = .next t ∧ Only [.performance, .link, .lines, .draws] s t ∧ t.pfu = s.pfu.extend n ∧
      Replies s .extend (.done (s.pfu.extendBody n)) [] t := by
  have hd := State.decideExtend_interval (s := s.hunting) h1 h2 hp
  exact ⟨_, exec_of_decided ha rfl hd, ((State.setPfu_only s.hunting _).replied _ _).mono (by decide), rfl,
    State.replied_replies (s := s) (bs := []) rfl _ _⟩

/-! ## The expiry of the interval (R43) -/

theorem Pfu.expiryDue_of {f : Pfu} (hp : f.perf.phase = .interval) (he : f.expirySent = false)
    (hl : f.perf.intervalLen * 1000 ≤ (f.perf.clocks.get (intervalClock f.perf.intervalNo)).value) :
    f.expiryDue = true := by
  simp [Pfu.expiryDue, hp, he, hl]

theorem intervalExpired_eq {s : State} (hh : s.held = none) (hd : s.pfu.expiryDue = true) :
    exec .intervalExpired s = .next s.issueDue.sendExpiry.finish :=
  congrArg Host.Outcome.next (State.event_eq hh hd fun s => s.issueDue.sendExpiry)

/-- The steps due are issued first, and the notice gives the interval and its length as they stand. -/
theorem intervalExpired_any {s : State} (hh : s.held = none) (hd : s.pfu.expiryDue = true) :
    ∃ t, exec .intervalExpired s = .next t ∧ Untouched s t ∧ RecordIs s.pfu.perf t.pfu.perf ∧ TableFollows s.pfu t.pfu ∧
      t.pfu.expirySent = true ∧
      ∃ bs, Sends s (bs ++ [.intervalExpired s.pfu.perf.intervalNo s.pfu.perf.intervalLen]) t := by
  have k := s.issueDue_kept
  obtain ⟨bs, hbs⟩ := k.notices
  obtain ⟨now, held, settings, store, lmu, dsu, pending, fire, supply, demand⟩ := k.untouched
  have hno : s.issueDue.pfu.perf.intervalNo = s.pfu.perf.intervalNo := k.record.intervalNo
  have hlen : s.issueDue.pfu.perf.intervalLen = s.pfu.perf.intervalLen := by rw [k.record.1]
  refine ⟨_, intervalExpired_eq hh hd, ⟨now, held, settings, store, lmu, dsu, pending, fire, supply, demand⟩, k.record,
    ⟨k.table.length, k.table.settled⟩, rfl, bs, State.finish_sends ?_⟩
  rw [State.sendExpiry, hno, hlen, ← State.notifyAll_append]
  simp only [State.notify, State.notifyAll, hbs, now]

theorem State.issueDue_noneDue {s : State} (h : s.pfu.dueSteps = []) : s.issueDue = s := by
  rw [State.issueDue, h]
  rfl

theorem intervalExpired_noneDue {s : State} (hh : s.held = none) (hd : s.pfu.expiryDue = true) (hs : s.pfu.dueSteps = []) :
    ∃ t, exec .intervalExpired s = .next t ∧ Only [.performance, .link, .lines, .draws] s t ∧
      t.pfu = { s.pfu with expirySent := true } ∧
      Sends s [.intervalExpired s.pfu.perf.intervalNo s.pfu.perf.intervalLen] t := by
  refine ⟨_, intervalExpired_eq hh hd, ?_⟩
  rw [State.issueDue_noneDue hs]
  refine ⟨Only.mono (Only.finish (ps := [.performance, .link]) ?_) (by decide), rfl, State.finish_sends rfl⟩
  intro p hp
  cases p <;> simp_all [Part.same, State.sendExpiry]

/-! ## The condition "step due within 60 s" (R44) -/

theorem Pfu.dueSoon_of_near {f : Pfu} {i : Nat} {st : Step} (hi : f.pendingStep i = some st) (hn : f.perf.near st = true) :
    f.dueSoon = true := by
  have hl : i < f.table.length := (List.getElem?_eq_some_iff.1 (Pfu.pendingStep_pending hi)).1
  exact List.any_eq_true.2 ⟨i, List.mem_range.2 hl, by rw [hi]; exact hn⟩

theorem stepDueSoon_arises {i : Nat} {st : Step} {s : State} (hh : s.held = none) (hi : s.pfu.pendingStep i = some st)
    (hn : s.pfu.perf.near st = true) (hs : s.pfu.stepDueSoon = false) :
    ∃ t, exec .stepDueWithin60S s = .next t ∧ Only [.performance, .link, .lines, .draws] s t ∧
      t.pfu = { s.pfu with stepDueSoon := true } := by
  have hd := Pfu.dueSoon_of_near hi hn
  refine ⟨s.refresh.finish, congrArg Host.Outcome.next (State.event_eq hh (by rw [hd, hs]; rfl) _),
    (State.setPfu_only s _).finish.mono (by decide), ?_⟩
  rw [State.finish_pfu, State.refresh_pfu, Pfu.refresh, hd]

/-- Settles O26: EXTEND by its decision, the expiry by the steps issued before it, and the condition by the step that comes
near. -/
theorem intervalLength : Obligations.IntervalLength := by
  refine ⟨fun n s ha => ⟨fun h => ?_, fun h1 h2 => ⟨fun hp => ?_, fun hp => ?_⟩⟩,
    fun s hh => ⟨fun hp he hl => ?_, fun i st hi hr hd hs => ?_⟩⟩
  · exact refuses_of_decided ha rfl (State.decideExtend_field h)
  · exact refuses_of_decided ha rfl (State.decideExtend_phase h1 h2 hp)
  · obtain ⟨t, ht, ho, hf, hr⟩ := extend_accepted ha h1 h2 hp
    refine ⟨t, ht, ho, ?_⟩
    rw [hf]
    exact ⟨Pfu.extend_perf n _, rfl, rfl, Pfu.extend_expirySent n _, rfl, hr⟩
  · have hd := Pfu.expiryDue_of hp he hl
    exact ⟨intervalExpired_any hh hd, intervalExpired_noneDue hh hd⟩
  · exact stepDueSoon_arises hh hi (by simp [Perf.near, hr, hd]) hs

end Sys2Proof.Machine
end

section
/-!
The end of a store operation, verified and failed (R24, R29, R32, R33, R34, R199).
-/

namespace Sys2Proof.Machine

open Sys2Proof.Safety

/-! ## The slots of a PUT (R32) -/

theorem putSlots_named {first i : Nat} {rs : List StepRecord} {slots : List Slot} (hi : i < rs.length)
    (hs : first + i < slots.length) : (putSlots first rs slots)[first + i]? = rs[i]?.map Slot.written := by
  simp [putSlots, hs, hi]

theorem putSlots_other {first j : Nat} {rs : List StepRecord} {slots : List Slot}
    (hj : j < first ∨ first + rs.length ≤ j) : (putSlots first rs slots)[j]? = slots[j]? := by
  rw [putSlots, List.getElem?_mapIdx]
  by_cases hf : first ≤ j
  · have hn : rs[j - first]? = none := List.getElem?_eq_none (by omega)
    simp [hf, hn]
  · simp [hf]

/-! ## The store with its operation ended -/

theorem Store.sector_inFlight (t : Store) (o : Option InFlight) (l : PlanLetter) :
    { t with inFlight := o }.sector l = t.sector l := by
  cases l <;> rfl

theorem Store.complete_config {op : StoreOp} (h : ∀ c, op ≠ .storeConfig c) (t : Store) :
    (t.complete op).config = t.config := by
  cases op with
  | storeConfig c => exact absurd rfl (h c)
  | _ => exact Store.setSector_config _ _ _

theorem Store.fail_config {op : StoreOp} (h : ∀ c, op ≠ .storeConfig c) (n : Nat) (t : Store) :
    (t.fail op n).config = t.config := by
  cases op with
  | storeConfig c => exact absurd rfl (h c)
  | _ => exact Store.setSector_config _ _ _

/-- A failed verification leaves the operation's sector BAD (R24). -/
theorem Store.fail_bad {op : StoreOp} {l : PlanLetter} (h : opLetter op = some l) (n : Nat) (t : Store) :
    ((t.fail op n).sector l).state = .bad := by
  cases op with
  | storeConfig c => cases h
  | _ =>
    obtain rfl := Option.some.inj h
    exact congrArg PlanSector.state (Store.sector_setSector_same _ _ _)

/-! ## The command -/

/-- No operation in flight (R24). -/
def Store.landed (t : Store) : Store := { t with inFlight := none }

theorem State.endOperation_verified {s : State} {f : InFlight} (hf : s.store.inFlight = some f) :
    s.endOperation true =
      { s with store := s.store.landed.complete f.op, lp := s.lp.settle (.done f.op.doneBody) } := by
  simp [State.endOperation, hf, Store.landed]

theorem State.endOperation_failed {s : State} {f : InFlight} (hf : s.store.inFlight = some f) :
    s.endOperation false =
      { s with
        store := s.store.landed.fail f.op s.free, lp := s.lp.settle (.refused .planBad .none), free := s.free + 1 } := by
  simp [State.endOperation, hf, Store.landed]

theorem storeOperationEnd_eq {s : State} {f : InFlight} (hh : s.held = none) (hf : s.store.inFlight = some f)
    (ht : f.started + f.op.leastTime ≤ s.now) (verified : Bool) :
    exec (.storeOperationEnd verified) s = .next (s.endOperation verified).finish :=
  congrArg Host.Outcome.next (State.event_eq hh (by simp [State.operationCanEnd, hf, ht]) _)

theorem State.endOperation_only (s : State) (verified : Bool) : Only [.store, .link, .draws] s (s.endOperation verified) := by
  intro p hp
  cases hf : s.store.inFlight with
  | none => simp only [State.endOperation, hf]; cases p <;> rfl
  | some f => cases verified <;> cases p <;> simp_all [Part.same, State.endOperation]

/-- Settles O24: the store and the reply as the operation's end, verified or failed, leaves them. -/
theorem storeOperationEnds : Obligations.StoreOperationEnds := by
  intro f s hh hf ht
  have eq := storeOperationEnd_eq hh hf ht
  have only (verified : Bool) : Only [.store, .link, .lines, .draws] s (s.endOperation verified).finish :=
    (s.endOperation_only verified).finish.mono (by decide)
  have landed (l : PlanLetter) : s.store.landed.sector l = s.store.sector l := Store.sector_inFlight _ _ l
  refine ⟨⟨_, Config.doneMoreFrames s.free, eq true, only true, ?_⟩,
    ⟨_, Config.doneMoreFrames (s.free + 1), eq false, only false, ?_⟩⟩
  · rw [State.endOperation_verified hf]
    simp only [State.finish_store]
    refine ⟨Store.complete_inFlight _ _, rfl, fun l hl => (Store.complete_sector_ne hl _).trans (landed l),
      fun l h hop => ?_, fun l first rs hop i => ?_, fun l n k hop => ?_, fun l hop => ?_, fun c hop => ?_,
      fun hop => Store.complete_config hop _⟩
    · rw [hop]
      exact Store.sector_setSector_same _ _ _
    · rw [hop, Store.complete, Store.sector_setSector_same, landed]
      exact ⟨putSlots_named, putSlots_other⟩
    · rw [hop, Store.complete, Store.sector_setSector_same, landed]
    · rw [hop]
      exact Store.sector_setSector_same _ _ _
    · rw [hop]
      rfl
  · rw [State.endOperation_failed hf]
    simp only [State.finish_store]
    refine ⟨Store.fail_inFlight _ _ _, rfl, fun l hl => (Store.fail_sector_ne hl _ _).trans (landed l),
      fun l hl => Store.fail_bad hl _ _, fun ⟨c, hop⟩ => ?_, fun hop => Store.fail_config hop _ _⟩
    rw [hop]
    rfl

end Sys2Proof.Machine
end

section
/-!
The examination of the plan sectors and of sector 4 at the release of reset (R26, R199, R200).
-/

namespace Sys2Proof.Machine

open Sys2Proof.Safety

/-! ## The examination of a sector (R26) -/

theorem PlanSector.examine_eq (p : PlanSector) :
    p.examine = if p.state = .sealed ∧ p.freshCheck p.count ≠ some p.check then { p with state := .bad } else p := by
  simp [PlanSector.examine, PlanSector.checkMatches]

theorem PlanSector.examine_of_not_sealed {p : PlanSector} (h : p.state ≠ .sealed) : p.examine = p :=
  if_neg fun hs => h hs.1

/-! ## A PUT cut short (R26) -/

theorem cutPut_other {first k j : Nat} {rs : List StepRecord} {begun : Bool} {slots : List Slot}
    (hj : j < first ∨ first + rs.length ≤ j) : (cutPut first rs k begun slots)[j]? = slots[j]? := by
  have hn : ¬ (first ≤ j ∧ j < first + rs.length) := by omega
  simp [cutPut, List.getElem?_mapIdx, hn]

/-- A slot that a PUT named: WRITTEN where the PUT had passed it, DAMAGED where it was begun, and as it stood otherwise. -/
theorem cutPut_named {first k i : Nat} {rs : List StepRecord} {begun : Bool} {slots : List Slot} (hi : i < rs.length)
    (hs : first + i < slots.length) : (cutPut first rs k begun slots)[first + i]? =
      if i < k then rs[i]?.map Slot.written else if i = k ∧ begun then some .damaged else slots[first + i]? := by
  simp only [cutPut, List.getElem?_mapIdx, List.getElem?_eq_getElem hs, List.getElem?_eq_getElem hi, Option.map_some,
    Nat.le_add_right, Nat.add_lt_add_iff_left, hi, and_self, if_true, Nat.add_sub_cancel_left]
  split
  · rfl
  · split <;> rfl

/-! ## What a reset leaves of the store -/

theorem Store.examine_idle {t : Store} (h : t.inFlight = none) (n : Nat) (l : PlanLetter) :
    (t.examine n).sector l = (t.sector l).examine := by
  cases l <;> simp [Store.examine, h, Store.sector]

theorem Store.examine_cut {t : Store} {f : InFlight} (h : t.inFlight = some f) (n : Nat) (l : PlanLetter) :
    (t.examine n).sector l = ((t.cutShort f.op n).sector l).examine := by
  cases l <;> simp [Store.examine, h, Store.sector]

theorem Store.cutShort_sector_ne {op : StoreOp} {k : PlanLetter} (h : opLetter op ≠ some k) (n : Nat) (t : Store) :
    (t.cutShort op n).sector k = t.sector k := by
  cases op with
  | storeConfig c => cases k <;> rfl
  | _ l => exact Store.sector_setSector_ne _ _ fun e => h (congrArg some e.symm)

/-- An operation on the whole sector, or a seal, that is cut short leaves the sector BAD. -/
theorem Store.cutShort_bad {op : StoreOp} {l : PlanLetter} (h : opLetter op = some l) (hp : ∀ first rs, op ≠ .put l first rs)
    (n : Nat) (t : Store) : ((t.cutShort op n).sector l).state = .bad := by
  cases op with
  | storeConfig c => cases h
  | put k first rs => exact absurd (by rw [Option.some.inj h]) (hp first rs)
  | _ =>
    obtain rfl := Option.some.inj h
    exact congrArg PlanSector.state (Store.sector_setSector_same _ _ _)

theorem Store.cutShort_put (l : PlanLetter) (first : Nat) (rs : List StepRecord) (n : Nat) (t : Store) :
    (t.cutShort (.put l first rs) n).sector l = { t.sector l with
      slots := cutPut first rs (Config.freeNat n % (rs.length + 1)) (Config.freeBit n) (t.sector l).slots } :=
  Store.sector_setSector_same _ _ _

theorem State.releaseReset_store (cause : ResetCause) (s : State) : (s.releaseReset cause).store = s.store.examine s.free := by
  unfold State.releaseReset
  dsimp only
  rw [State.finish_store, State.withCtc_store]
  split <;> rfl

theorem sector4_of_storing {s : State} {f : InFlight} {c : Settings} (hf : s.store.inFlight = some f)
    (hop : f.op = .storeConfig c) : sector4 s = { s.store.config with mark := false } := by
  obtain ⟨op, started⟩ := f
  subst hop
  simp only [sector4, hf]

theorem sector4_of_not_storing {s : State} (h : ∀ f c, s.store.inFlight = some f → f.op ≠ .storeConfig c) :
    sector4 s = s.store.config := by
  unfold sector4
  split
  · next c _ hf => exact absurd rfl (h _ c hf)
  · rfl

/-- Settles O5: each sector is examined as the operation cut short left it, and sector 4 is as a reset finds it. -/
theorem resetExaminesTheStore : Obligations.ResetExaminesTheStore := by
  intro cause s hh
  refine ⟨_, execResetRelease_eq hh, ?_⟩
  rw [State.releaseReset_store]
  refine ⟨rfl, fun l hl => ?_, fun f l hf hl hp => ?_, fun f l first rs hf hop hst => ?_, fun f c hf hop => ?_, fun h => ?_⟩
  · rw [← PlanSector.examine_eq]
    cases hf : s.store.inFlight with
    | none => exact Store.examine_idle hf _ l
    | some f => rw [Store.examine_cut hf, Store.cutShort_sector_ne (hl f hf)]
  · have hb := Store.cutShort_bad hl hp s.free s.store
    rw [Store.examine_cut hf, PlanSector.examine_of_not_sealed (by simp [hb]), hb]
  · rw [Store.examine_cut hf, hop, Store.cutShort_put, PlanSector.examine_of_not_sealed (by simp [hst])]
    refine ⟨hst, fun i hi => cutPut_other hi, Config.freeNat s.free % (rs.length + 1),
      Nat.lt_succ_iff.1 (Nat.mod_lt _ (Nat.succ_pos _)), fun i hi hs => ?_⟩
    rw [cutPut_named hi hs]
    refine ⟨fun hk => if_pos hk, fun hk => ?_, fun hk => ?_⟩
    · rw [if_neg (by omega)]
      split
      · exact .inl rfl
      · exact .inr rfl
    · rw [if_neg (by omega), if_neg (by omega)]
  · exact (Store.examine_config s).trans (sector4_of_storing hf hop)
  · exact (Store.examine_config s).trans (sector4_of_not_storing h)

end Sys2Proof.Machine
end

section
/-!
The checks of the store requests, each by what it finds: the header, the slot range, the records, the slots of a PUT and of a
SEAL (R27, R29, R31, R32, R33).
-/

namespace Sys2Proof.Machine

open Sys2Proof.Safety

/-! ## The header and the records (R27, R31) -/

theorem headerFirstBad_name {h : PlanHeader} (hh : headerFirstBad h = none) : h.name.length = 12 := by
  have hn := List.find?_eq_none.1 hh .name (by decide)
  simp only [headerFieldOk, Bool.not_eq_true, Bool.not_eq_false', Bool.and_eq_true, beq_iff_eq] at hn
  exact hn.1

theorem firstBadRecord_none {acts : Nat} {rs : List StepRecord} (h : ∀ r ∈ rs, (stepOf acts r).isSome = true) :
    firstBadRecord acts rs = none := by
  simp only [firstBadRecord, List.findIdx?_eq_none_iff]
  intro r hr
  simpa using h r hr

/-- The first record that fails is named by its place. -/
theorem firstBadRecord_append {acts : Nat} {good rest : List StepRecord} {bad : StepRecord}
    (hg : ∀ r ∈ good, (stepOf acts r).isSome = true) (hb : stepOf acts bad = none) :
    firstBadRecord acts (good ++ bad :: rest) = some good.length := by
  have hn := firstBadRecord_none hg
  rw [firstBadRecord] at hn
  simp [firstBadRecord, List.findIdx?_append, hn, List.findIdx?_cons, hb]

theorem PlanSector.acts_of_header {p : PlanSector} {h : PlanHeader} (hp : p.header = some h) : p.acts = h.acts := by
  simp [PlanSector.acts, hp]

/-! ## The slots of a PUT (R32) -/

theorem slotRangeOk_iff {first count : Nat} :
    slotRangeOk first count = true ↔ 1 ≤ count ∧ count ≤ 6 ∧ first + count ≤ 48 := by
  simp only [slotRangeOk, Bool.and_eq_true, decide_eq_true_eq]
  omega

theorem slotRangeOk_eq_false {first count : Nat} (h : 47 < first ∨ count = 0 ∨ 6 < count ∨ 48 < first + count) :
    slotRangeOk first count = false := by
  rw [Bool.eq_false_iff, ne_eq, slotRangeOk_iff]
  omega

theorem PlanSector.firstUsed_none {p : PlanSector} {first n : Nat} (h : ∀ i, i < n → p.slots[first + i]? = some .blank) :
    p.firstUsed first n = none := by
  simp only [PlanSector.firstUsed, List.find?_eq_none, List.mem_map, List.mem_range]
  rintro _ ⟨i, hi, rfl⟩
  simp [h i hi]

theorem PlanSector.firstUsed_some {p : PlanSector} {first n i : Nat} (hi : i < n)
    (hb : ∀ j, j < i → p.slots[first + j]? = some .blank) (hu : p.slots[first + i]? ≠ some .blank) :
    p.firstUsed first n = some (first + i) := by
  have hf : (List.range n).find? ((fun k => decide (p.slots[k]? ≠ some .blank)) ∘ (first + ·)) = some i := by
    rw [List.find?_range_eq_some]
    refine ⟨by simpa using hu, List.mem_range.2 hi, fun j hj => ?_⟩
    simp [hb j hj]
  rw [PlanSector.firstUsed, List.find?_map, hf]
  rfl

/-! ## The slots of a SEAL (R33) -/

/-- A slot breaks the condition of a SEAL of `count` steps. -/
def breaksSeal (count i : Nat) : Option Slot → Bool
  | some (.written _) => count ≤ i
  | some .blank => i < count
  | some .damaged | none => true

theorem PlanSector.sealBreak_eq (p : PlanSector) (count : Nat) :
    p.sealBreak count = (List.range 48).find? fun i => breaksSeal count i p.slots[i]? := rfl

theorem breaksSeal_iff (p : PlanSector) (count i : Nat) :
    breaksSeal count i p.slots[i]? = true ↔ ¬ SealFits p count i := by
  unfold SealFits
  cases p.slots[i]? with
  | none => simp [breaksSeal]
  | some sl => cases sl <;> simp [breaksSeal]

theorem PlanSector.sealBreak_none {p : PlanSector} {count : Nat} (h : ∀ i, i < 48 → SealFits p count i) :
    p.sealBreak count = none := by
  rw [PlanSector.sealBreak_eq, List.find?_eq_none]
  exact fun i hi hb => (breaksSeal_iff p count i).1 hb (h i (List.mem_range.1 hi))

theorem PlanSector.sealBreak_some {p : PlanSector} {count i : Nat} (hi : i < 48) (hf : ∀ j, j < i → SealFits p count j)
    (hb : ¬ SealFits p count i) : p.sealBreak count = some i := by
  rw [PlanSector.sealBreak_eq, List.find?_range_eq_some]
  refine ⟨(breaksSeal_iff p count i).2 hb, List.mem_range.2 hi, fun j hj => ?_⟩
  have hn : ¬ breaksSeal count j p.slots[j]? = true := fun h => (breaksSeal_iff p count j).1 h (hf j hj)
  simpa using hn

/-- The slots of a sector that holds `rs` and nothing else. -/
theorem sealFits_of_slots {p : PlanSector} {rs : List StepRecord}
    (hs : p.slots = rs.map Slot.written ++ List.replicate (48 - rs.length) .blank) {i : Nat} (hi : i < 48) :
    SealFits p rs.length i := by
  refine ⟨fun h => ⟨rs[i], ?_⟩, fun h => ?_⟩
  · rw [hs, List.getElem?_append_left (by simpa using h)]
    simp [h]
  · rw [hs, List.getElem?_append_right (by simpa using h), List.length_map,
      List.getElem?_replicate_of_lt (by omega)]

theorem mapM_of_forall₂ {α β : Type} {f : α → Option β} {l : List α} {rs : List β}
    (h : List.Forall₂ (fun a r => f a = some r) l rs) : l.mapM f = some rs := by
  induction h with
  | nil => rfl
  | cons hr _ ih => simp [List.mapM_cons, hr, ih]

/-- The records that its slots give, and the check value over them (R26). -/
theorem PlanSector.freshCheck_of_slots {p : PlanSector} {h : PlanHeader} {rs : List StepRecord} {bs : List Slot}
    (hp : p.header = some h) (hs : p.slots = rs.map Slot.written ++ bs) :
    p.freshCheck rs.length = some (planCheck h rs) := by
  have hr : p.records rs.length = some rs := by
    refine mapM_of_forall₂ (List.forall₂_iff_get.2 ⟨List.length_range, fun i _ hi => ?_⟩)
    have hi : i < rs.length := hi
    simp [hs, List.getElem?_append_left, hi, slotRecord]
  simp [PlanSector.freshCheck, hp, hr]

end Sys2Proof.Machine
end

section
/-!
The store requests: the operation each starts, and the refusals in their order (R24, R25, R27, R29, R32 to R35, R199).
-/

namespace Sys2Proof.Machine

open Sys2Proof.Safety

/-! ## An operation begun (R24) -/

/-- A store request accepted: its operation is in flight, and its reply is put off. -/
theorem begins_of_decided {c : Instr} {kind : RequestKind} {d : State → State × Decision} {s : State} {op : StoreOp}
    {u : Store} (ha : Admits s) (hc : exec c s = .next (s.answer kind true d))
    (hd : d s.hunting = State.startOperation op { s.hunting with store := u }) :
    ∃ t, exec c s = .next t ∧ Only [.store, .link, .lines, .draws] s t ∧
      t.store = { u with inFlight := some { op, started := s.now } } ∧ Replies s kind .later [] t := by
  have ho : Only [.store] s.hunting (State.startOperation op { s.hunting with store := u }).1 := by
    intro p hp
    cases p <;> simp_all [Part.same, State.startOperation]
  exact ⟨_, exec_of_decided ha hc hd, (ho.replied kind .later).mono (by decide), rfl,
    State.replied_replies (s := s) (bs := []) rfl _ _⟩

/-! ## BUSY and LOCKED (R25) -/

theorem State.storeRefusal_busy {s : State} (h : s.store.busy = true) (l : PlanLetter) : s.storeRefusal l = some .busy :=
  if_pos h

theorem State.storeRefusal_locked {s : State} {l : PlanLetter} (h : s.store.busy = false) (hp : s.pfu.perf.plan = some l) :
    s.storeRefusal l = some .locked := by
  simp [State.storeRefusal, Perf.locks, h, hp]

/-! ## PLAN-OPEN (R27, R29) -/

theorem execPlanOpen_eq {h : PlanHeader} (hn : h.name.length = 12) (l : Option PlanLetter) (s : State) :
    exec (.planOpen l h) s = .next (s.answer .planOpen true (State.decidePlanOpen l h)) := by
  simp [exec, execPlanOpen, hn]

theorem State.decidePlanOpen_field {h : PlanHeader} {f : HeaderField} (hf : headerFirstBad h = some f) (l : PlanLetter)
    (s : State) : s.decidePlanOpen (some l) h = (s, .refused .badField (.headerField f)) := by
  simp [State.decidePlanOpen, hf]

theorem State.decidePlanOpen_refused {h : PlanHeader} {l : PlanLetter} {s : State} {r : Reason} (hh : headerFirstBad h = none)
    (hr : s.storeRefusal l = some r) : s.decidePlanOpen (some l) h = (s, .refused r .none) := by
  simp [State.decidePlanOpen, hh, hr]

theorem State.decidePlanOpen_starts {h : PlanHeader} {l : PlanLetter} {s : State} (hh : headerFirstBad h = none)
    (hr : s.storeRefusal l = none) :
    s.decidePlanOpen (some l) h = State.startOperation (.openPlan l (headerStored h))
      { s with store := s.store.setSector l { PlanSector.erased with state := (s.store.sector l).state } } := by
  simp [State.decidePlanOpen, hh, hr]

/-! ## PLAN-PUT (R32) -/

theorem execPlanPut_eq (l : Option PlanLetter) (first : Nat) (rs : List StepRecord) (s : State) :
    exec (.planPut l first rs.length rs) s = .next (s.answer .planPut true (State.decidePlanPut l first rs.length rs)) := by
  simp [exec, execPlanPut]

theorem State.decidePlanPut_range {first count : Nat} (h : slotRangeOk first count = false) (l : PlanLetter)
    (rs : List StepRecord) (s : State) : s.decidePlanPut (some l) first count rs = (s, .refused .badField .none) := by
  simp [State.decidePlanPut, h]

theorem State.decidePlanPut_record {l : PlanLetter} {first count i : Nat} {rs : List StepRecord} {s : State}
    (h : slotRangeOk first count = true) (hi : firstBadRecord (s.store.sector l).acts rs = some i) :
    s.decidePlanPut (some l) first count rs = (s, .refused .badField (.index (first + i))) := by
  simp [State.decidePlanPut, h, hi]

section
variable {s : State} {l : PlanLetter} {first : Nat} {rs : List StepRecord} (hf : PutFits s l first rs)
include hf

theorem slotRangeOk_of_putFits : slotRangeOk first rs.length = true := by
  obtain ⟨h1, h6, h48, -⟩ := hf
  exact slotRangeOk_iff.2 ⟨h1, h6, h48⟩

theorem firstBadRecord_of_putFits : firstBadRecord (s.store.sector l).acts rs = none := by
  obtain ⟨-, -, -, hrs⟩ := hf
  exact firstBadRecord_none hrs

theorem State.decidePlanPut_refused {r : Reason} (hr : s.storeRefusal l = some r) :
    s.decidePlanPut (some l) first rs.length rs = (s, .refused r .none) := by
  simp [State.decidePlanPut, slotRangeOk_of_putFits hf, firstBadRecord_of_putFits hf, hr]

variable (hr : s.storeRefusal l = none)
include hr

theorem State.decidePlanPut_notOpen (hs : (s.store.sector l).state ≠ .opened) :
    s.decidePlanPut (some l) first rs.length rs = (s, .refused .wrongState .none) := by
  simp [State.decidePlanPut, slotRangeOk_of_putFits hf, firstBadRecord_of_putFits hf, hr, hs]

variable (hs : (s.store.sector l).state = .opened)
include hs

theorem State.decidePlanPut_used {i : Nat} (hi : (s.store.sector l).firstUsed first rs.length = some i) :
    s.decidePlanPut (some l) first rs.length rs = (s, .refused .wrongState (.index i)) := by
  simp [State.decidePlanPut, slotRangeOk_of_putFits hf, firstBadRecord_of_putFits hf, hr, hs, hi]

theorem State.decidePlanPut_starts (hi : (s.store.sector l).firstUsed first rs.length = none) :
    s.decidePlanPut (some l) first rs.length rs = s.startOperation (.put l first (rs.map recordStored)) := by
  simp [State.decidePlanPut, slotRangeOk_of_putFits hf, firstBadRecord_of_putFits hf, hr, hs, hi]

end

/-! ## PLAN-SEAL (R33) -/

theorem State.decidePlanSeal_count {count : Nat} (h : 48 < count) (l : PlanLetter) (s : State) :
    s.decidePlanSeal (some l) count = (s, .refused .badField .none) := by
  simp [State.decidePlanSeal, h]

section
variable {s : State} {l : PlanLetter} {count : Nat} (hc : count ≤ 48)
include hc

theorem State.decidePlanSeal_refused {r : Reason} (hr : s.storeRefusal l = some r) :
    s.decidePlanSeal (some l) count = (s, .refused r .none) := by
  simp [State.decidePlanSeal, not_lt.2 hc, hr]

variable (hr : s.storeRefusal l = none)
include hr

theorem State.decidePlanSeal_notOpen (hs : (s.store.sector l).state ≠ .opened) :
    s.decidePlanSeal (some l) count = (s, .refused .wrongState .none) := by
  simp [State.decidePlanSeal, not_lt.2 hc, hr, hs]

variable (hs : (s.store.sector l).state = .opened)
include hs

theorem State.decidePlanSeal_broken {i : Nat} (hi : (s.store.sector l).sealBreak count = some i) :
    s.decidePlanSeal (some l) count = (s, .refused .wrongState (.index i)) := by
  simp [State.decidePlanSeal, not_lt.2 hc, hr, hs, hi]

theorem State.decidePlanSeal_starts {k : Nat} (hi : (s.store.sector l).sealBreak count = none)
    (hk : (s.store.sector l).freshCheck count = some k) :
    s.decidePlanSeal (some l) count = s.startOperation (.seal l count k) := by
  simp [State.decidePlanSeal, not_lt.2 hc, hr, hs, hi, hk]

end

/-! ## PLAN-ERASE, PLAN-READ and CONFIG-STORE (R34, R35, R199) -/

theorem State.decidePlanErase_refused {s : State} {l : PlanLetter} {r : Reason} (hr : s.storeRefusal l = some r) :
    s.decidePlanErase (some l) = (s, .refused r .none) := by
  simp [State.decidePlanErase, hr]

theorem State.decidePlanErase_starts {s : State} {l : PlanLetter} (hr : s.storeRefusal l = none) :
    s.decidePlanErase (some l) = s.startOperation (.erase l) := by
  simp [State.decidePlanErase, hr]

theorem State.decidePlanRead_range {first count : Nat} (h : slotRangeOk first count = false) (l : PlanLetter) (s : State) :
    s.decidePlanRead (some l) (.slots first count) = (s, .refused .badField .none) := by
  simp [State.decidePlanRead, h]

theorem State.decidePlanRead_busy {select : PlanSelect} (hs : SelectFits select) {s : State} (hb : s.store.busy = true)
    (l : PlanLetter) : s.decidePlanRead (some l) select = (s, .refused .busy .none) := by
  cases select with
  | header => simp [State.decidePlanRead, hb]
  | slots first count => simp [State.decidePlanRead, slotRangeOk_iff.2 hs, hb]

theorem State.decidePlanRead_empty {select : PlanSelect} (hs : SelectFits select) {s : State} {l : PlanLetter}
    (hb : s.store.busy = false) (he : (s.store.sector l).state = .empty) :
    s.decidePlanRead (some l) select = (s, .refused .noPlan .none) := by
  cases select with
  | header => simp [State.decidePlanRead, hb, he]
  | slots first count => simp [State.decidePlanRead, slotRangeOk_iff.2 hs, hb, he]

theorem State.decideConfigStore_busy {s : State} (hb : s.store.busy = true) :
    s.decideConfigStore = (s, .refused .busy .none) := if_pos hb

theorem State.decideConfigStore_phase {s : State} (hb : s.store.busy = false) (hp : s.phase ≠ .dark) :
    s.decideConfigStore = (s, .refused .wrongPhase .none) := by
  simp [State.decideConfigStore, hb, hp]

theorem State.decideConfigStore_starts {s : State} (hb : s.store.busy = false) (hp : s.phase = .dark) :
    s.decideConfigStore = s.startOperation (.storeConfig s.settings) := by
  simp [State.decideConfigStore, hb, hp]

/-! ## The requests that LP can take -/

section
variable {s : State} (ha : Admits s)
include ha

/-- The four requests that work on a plan's sector meet BUSY and LOCKED alike (R25, R29, R32, R33, R34). -/
theorem planWrites_refused {l : PlanLetter} {r : Reason} (hr : s.storeRefusal l = some r) :
    (∀ h, headerFirstBad h = none → Refuses (.planOpen (some l) h) .planOpen r .none s) ∧
    (∀ first rs, PutFits s l first rs → Refuses (.planPut (some l) first rs.length rs) .planPut r .none s) ∧
    (∀ count, count ≤ 48 → Refuses (.planSeal (some l) count) .planSeal r .none s) ∧
    Refuses (.planErase (some l)) .planErase r .none s :=
  ⟨fun _ hh => refuses_of_decided ha (execPlanOpen_eq (headerFirstBad_name hh) _ s)
      (State.decidePlanOpen_refused (s := s.hunting) hh hr),
    fun _ _ hf => refuses_of_decided ha (execPlanPut_eq _ _ _ s) (State.decidePlanPut_refused (s := s.hunting) hf hr),
    fun _ hc => refuses_of_decided ha rfl (State.decidePlanSeal_refused (s := s.hunting) hc hr),
    refuses_of_decided ha rfl (State.decidePlanErase_refused (s := s.hunting) hr)⟩

/-- The slots that stand in the way of a PUT and of a SEAL are named (R32, R33). -/
theorem slots_inTheWay {l : PlanLetter} (hr : s.storeRefusal l = none) (hs : (s.store.sector l).state = .opened) :
    (∀ first rs i, PutFits s l first rs → i < rs.length →
      (∀ j, j < i → (s.store.sector l).slots[first + j]? = some .blank) →
      (s.store.sector l).slots[first + i]? ≠ some .blank →
      Refuses (.planPut (some l) first rs.length rs) .planPut .wrongState (.index (first + i)) s) ∧
    (∀ count i, count ≤ 48 → i < 48 → (∀ j, j < i → SealFits (s.store.sector l) count j) →
      ¬ SealFits (s.store.sector l) count i →
      Refuses (.planSeal (some l) count) .planSeal .wrongState (.index i) s) :=
  ⟨fun _ _ _ hf hi hb hu => refuses_of_decided ha (execPlanPut_eq _ _ _ s)
      (State.decidePlanPut_used (s := s.hunting) hf hr hs (PlanSector.firstUsed_some hi hb hu)),
    fun _ _ hc hi hb hu => refuses_of_decided ha rfl
      (State.decidePlanSeal_broken (s := s.hunting) hc hr hs (PlanSector.sealBreak_some hi hb hu))⟩

/-- The fields that are refused whatever the store holds, but for the headers and the records (R29, R32 to R35). -/
theorem storeFields_refused :
    (∀ l first rs, 47 < first ∨ rs = [] ∨ 6 < rs.length ∨ 48 < first + rs.length →
      Refuses (.planPut (some l) first rs.length rs) .planPut .badField .none s) ∧
    (∀ l first count, 47 < first ∨ count = 0 ∨ 6 < count ∨ 48 < first + count →
      Refuses (.planRead (some l) (.slots first count)) .planRead .badField .none s) ∧
    (∀ l count, 48 < count → Refuses (.planSeal (some l) count) .planSeal .badField .none s) :=
  ⟨fun l _ _ h => refuses_of_decided ha (execPlanPut_eq _ _ _ s)
      (State.decidePlanPut_range (slotRangeOk_eq_false (by rwa [List.length_eq_zero_iff])) l _ _),
    fun l _ _ h => refuses_of_decided ha rfl (State.decidePlanRead_range (slotRangeOk_eq_false h) l _),
    fun l _ h => refuses_of_decided ha rfl (State.decidePlanSeal_count h l _)⟩

/-- The first record that fails its checks is named by its slot number (R31, R32). -/
theorem planPut_badRecord {l : PlanLetter} {first : Nat} {good rest : List StepRecord} {bad : StepRecord} {h : PlanHeader}
    (hh : (s.store.sector l).header = some h) (h48 : first + (good ++ bad :: rest).length ≤ 48)
    (h6 : (good ++ bad :: rest).length ≤ 6) (hg : ∀ r ∈ good, (stepOf h.acts r).isSome = true)
    (hb : stepOf h.acts bad = none) :
    Refuses (.planPut (some l) first (good ++ bad :: rest).length (good ++ bad :: rest)) .planPut .badField
      (.index (first + good.length)) s := by
  have hr : slotRangeOk first (good ++ bad :: rest).length = true :=
    slotRangeOk_iff.2 ⟨by simp; omega, h6, h48⟩
  refine refuses_of_decided ha (execPlanPut_eq _ _ _ s) (State.decidePlanPut_record (s := s.hunting) hr ?_)
  rw [State.hunting_store, PlanSector.acts_of_header hh]
  exact firstBadRecord_append hg hb

/-- The four requests that work on a sector that is neither armed nor worked on (R29, R32, R33, R34). -/
theorem planWrites_start {l : PlanLetter} (hr : s.storeRefusal l = none) :
    (∀ h, headerFirstBad h = none → ∃ t, exec (.planOpen (some l) h) s = .next t ∧
      Only [.store, .link, .lines, .draws] s t ∧
      t.store = { s.store.setSector l { PlanSector.erased with state := (s.store.sector l).state } with
                  inFlight := some { op := .openPlan l (headerStored h), started := s.now } } ∧
      Replies s .planOpen .later [] t) ∧
    (∀ first rs h, (s.store.sector l).state = .opened → (s.store.sector l).header = some h → 1 ≤ rs.length →
      rs.length ≤ 6 → first + rs.length ≤ 48 → (∀ r ∈ rs, (stepOf h.acts r).isSome = true) →
      (∀ i, i < rs.length → (s.store.sector l).slots[first + i]? = some .blank) →
      ∃ t, exec (.planPut (some l) first rs.length rs) s = .next t ∧ Only [.store, .link, .lines, .draws] s t ∧
        t.store = { s.store with inFlight := some { op := .put l first (rs.map recordStored), started := s.now } } ∧
        Replies s .planPut .later [] t) ∧
    (∀ count h rs, (s.store.sector l).state = .opened → (s.store.sector l).header = some h → count ≤ 48 →
      (s.store.sector l).slots = rs.map Slot.written ++ List.replicate (48 - count) .blank → rs.length = count →
      ∃ t, exec (.planSeal (some l) count) s = .next t ∧ Only [.store, .link, .lines, .draws] s t ∧
        t.store = { s.store with inFlight := some { op := .seal l count (planCheck h rs), started := s.now } } ∧
        Replies s .planSeal .later [] t) ∧
    (∃ t, exec (.planErase (some l)) s = .next t ∧ Only [.store, .link, .lines, .draws] s t ∧
      t.store = { s.store with inFlight := some { op := .erase l, started := s.now } } ∧
      Replies s .planErase .later [] t) := by
  refine ⟨fun h hh => ?_, fun first rs h hs hp h1 h6 h48 hrs hb => ?_, fun count h rs hs hp hc hsl hn => ?_, ?_⟩
  · exact begins_of_decided ha (execPlanOpen_eq (headerFirstBad_name hh) _ s)
      (State.decidePlanOpen_starts (s := s.hunting) hh hr)
  · have hf : PutFits s.hunting l first rs :=
      ⟨h1, h6, h48, by rwa [State.hunting_store, PlanSector.acts_of_header hp]⟩
    exact begins_of_decided ha (execPlanPut_eq _ _ _ s)
      (State.decidePlanPut_starts (s := s.hunting) hf hr hs (PlanSector.firstUsed_none hb))
  · subst hn
    exact begins_of_decided ha rfl (State.decidePlanSeal_starts (s := s.hunting) hc hr hs
      (PlanSector.sealBreak_none fun i hi => sealFits_of_slots hsl hi) (PlanSector.freshCheck_of_slots hp hsl))
  · exact begins_of_decided ha rfl (State.decidePlanErase_starts (s := s.hunting) hr)

end

/-- Settles O23: each store request by its decision, and its refusals in the order in which its conditions are tested. -/
theorem storeRequestsStartAnOperation : Obligations.StoreRequestsStartAnOperation := by
  refine ⟨fun l s ha hn => ?_, fun s ha => ?_⟩
  · have hb : s.store.busy = false := by rw [Store.busy, hn]; rfl
    exact ⟨fun hp => planWrites_start ha (State.storeRefusal_eq_none.2 ⟨hb, hp⟩),
      fun hd => begins_of_decided ha rfl (State.decideConfigStore_starts (s := s.hunting) hb hd)⟩
  · obtain ⟨hput, hread, hseal⟩ := storeFields_refused ha
    refine ⟨fun h hn => refuses_of_decided ha (execPlanOpen_eq hn _ s) rfl, refuses_of_decided ha rfl rfl,
      fun l h f hn hf => refuses_of_decided ha (execPlanOpen_eq hn _ s) (State.decidePlanOpen_field hf l _),
      fun l first good bad rest h => planPut_badRecord ha, fun first rs => refuses_of_decided ha (execPlanPut_eq _ _ _ s) rfl,
      fun count => refuses_of_decided ha rfl rfl, fun select => refuses_of_decided ha rfl rfl, hput, hread, hseal,
      fun hb l => ?_, fun hb l => ⟨fun hp => ?_,
        fun hp => ⟨fun hs => ⟨fun first rs hf => ?_, fun count hc => ?_⟩, fun hs => ?_⟩, fun he select hs => ?_⟩, fun hb hp => ?_⟩
    · obtain ⟨ho, hp, hs, he⟩ := planWrites_refused ha (State.storeRefusal_busy hb l)
      exact ⟨ho, hp, hs, he, fun select hf => refuses_of_decided ha rfl (State.decidePlanRead_busy (s := s.hunting) hf hb l),
        refuses_of_decided ha rfl (State.decideConfigStore_busy (s := s.hunting) hb)⟩
    · exact planWrites_refused ha (State.storeRefusal_locked hb hp)
    · exact refuses_of_decided ha (execPlanPut_eq _ _ _ s)
        (State.decidePlanPut_notOpen (s := s.hunting) hf (State.storeRefusal_eq_none.2 ⟨hb, hp⟩) hs)
    · exact refuses_of_decided ha rfl
        (State.decidePlanSeal_notOpen (s := s.hunting) hc (State.storeRefusal_eq_none.2 ⟨hb, hp⟩) hs)
    · exact slots_inTheWay ha (State.storeRefusal_eq_none.2 ⟨hb, hp⟩) hs
    · exact refuses_of_decided ha rfl (State.decidePlanRead_empty (s := s.hunting) hs hb he)
    · exact refuses_of_decided ha rfl (State.decideConfigStore_phase (s := s.hunting) hb hp)

end Sys2Proof.Machine
end

section
/-!
The arithmetic of an evaluated window: the target speed, the overspeed test, the prediction and its run, the command and the
stall test, each said once of the function that gives it and then of the window.
-/

namespace Sys2Proof.Machine

/-! ## The target speed (R76, TABLE XXIX) -/

section
variable {q : CurtainParams} {p : Nat}

theorem targetSpeed_slow (h : p ≤ q.slowZone) : targetSpeed q p = q.slowSpeed := if_pos h

theorem targetSpeed_main (hs : q.slowZone < p) (h : q.slowZone + q.ramp ≤ p) : targetSpeed q p = q.mainSpeed := by
  rw [targetSpeed, if_neg (by omega), if_pos h]

theorem targetSpeed_ramp (hs : q.slowZone < p) (h : p < q.slowZone + q.ramp) (hv : q.slowSpeed ≤ q.mainSpeed) :
    targetSpeed q p = ((q.slowSpeed + (q.mainSpeed - q.slowSpeed) * (p - q.slowZone) / q.ramp : Nat) : Int) := by
  rw [targetSpeed, if_neg (by omega), if_neg (by omega), ← Nat.cast_sub hv, ← Nat.cast_sub hs.le, ← Nat.cast_mul,
    ← Int.ofNat_tdiv, ← Nat.cast_add]

/-- On the ramp the target lies between Vs and Vm: the part of the way run is no more than the way. -/
theorem targetSpeed_ramp_bounds (hs : q.slowZone < p) (h : p < q.slowZone + q.ramp) (hv : q.slowSpeed ≤ q.mainSpeed) :
    (q.slowSpeed : Int) ≤ targetSpeed q p ∧ targetSpeed q p ≤ q.mainSpeed := by
  have hw : (q.mainSpeed - q.slowSpeed) * (p - q.slowZone) / q.ramp ≤ q.mainSpeed - q.slowSpeed :=
    Nat.div_le_of_le_mul ((Nat.mul_le_mul_left _ (by omega)).trans (Nat.mul_comm _ _).le)
  rw [targetSpeed_ramp hs h hv, Nat.cast_le, Nat.cast_le]
  exact ⟨Nat.le_add_right _ _, (Nat.add_le_add_left hw _).trans (Nat.add_sub_of_le hv).le⟩

end

/-- Settles O35: the three pieces of the table, and the target that an evaluated window keeps. -/
theorem targetSpeed_follows_table : Obligations.TargetSpeed := fun _ _ =>
  ⟨targetSpeed_slow, targetSpeed_main, fun hs h hv => ⟨targetSpeed_ramp hs h hv, targetSpeed_ramp_bounds hs h hv⟩,
    fun _ _ => rfl⟩

/-! ## The overspeed test (R78, R79) -/

section
variable {q : CurtainParams} {s : Supervision} {p : Nat} {v : Int}

theorem overspeedTest_forced (h : s.overspeedForce = true) : overspeedTest q s p v =
    { run := s.overspeedRun, force := !decide (v ≤ forcingLimit q p), arose := false,
      ended := decide (v ≤ forcingLimit q p) } := by
  rw [overspeedTest, if_pos h]
  by_cases hv : v ≤ forcingLimit q p
  · simp [hv, not_lt.2 hv]
  · simp [hv, not_le.1 hv]

theorem overspeedTest_within (h : s.overspeedForce = false) (hv : v ≤ overspeedThreshold q p) :
    overspeedTest q s p v = { run := 0, force := false, arose := false, ended := false } := by
  simp [overspeedTest, h, not_lt.2 hv]

theorem overspeedTest_exceeds (h : s.overspeedForce = false) (hv : (overspeedThreshold q p : Int) < v) :
    overspeedTest q s p v =
      { run := if s.overspeedRun = 1 then 0 else s.overspeedRun + 1, force := decide (s.overspeedRun = 1),
        arose := decide (s.overspeedRun = 1), ended := false } := by
  by_cases hr : s.overspeedRun = 1 <;> simp [overspeedTest, h, hv, hr]

theorem overspeedTest_ended :
    (overspeedTest q s p v).ended = (s.overspeedForce && decide (v ≤ forcingLimit q p)) := by
  cases h : s.overspeedForce
  · by_cases hv : v ≤ overspeedThreshold q p
    · rw [overspeedTest_within h hv, Bool.false_and]
    · rw [overspeedTest_exceeds h (not_le.1 hv), Bool.false_and]
  · rw [overspeedTest_forced h, Bool.true_and]

theorem overspeedTest_arose_iff : (overspeedTest q s p v).arose = true ↔
    s.overspeedForce = false ∧ (overspeedThreshold q p : Int) < v ∧ s.overspeedRun = 1 := by
  cases h : s.overspeedForce
  · by_cases hv : v ≤ overspeedThreshold q p
    · simp [overspeedTest_within h hv, hv]
    · simp [overspeedTest_exceeds h (not_le.1 hv), not_le.1 hv]
  · simp [overspeedTest_forced h]

/-- Where no forcing was, it begins with OVERSPEED. -/
theorem overspeedTest_force_of_free (h : s.overspeedForce = false) :
    (overspeedTest q s p v).force = (overspeedTest q s p v).arose := by
  by_cases hv : v ≤ overspeedThreshold q p
  · rw [overspeedTest_within h hv]
  · rw [overspeedTest_exceeds h (not_le.1 hv)]

end

/-! ## The prediction and the law's value (R77, R80) -/

/-- The prediction with floor division: what is divided is not negative. -/
theorem prediction_eq (q : CurtainParams) (p : Nat) (v : Int) (t : Nat) : prediction q p v t =
    if q.slowZone < p then
      t + ((p : Int) - q.slowZone) * 1000 / max v 50 + (q.slowZone : Int) * 1000 / q.slowSpeed
    else t + (p : Int) * 1000 / max v 50 := by
  unfold prediction
  dsimp only
  split
  next hs =>
    have hw : 0 ≤ ((p : Int) - q.slowZone) * 1000 := by omega
    have hz : 0 ≤ (q.slowZone : Int) * 1000 := by omega
    rw [Int.tdiv_eq_ediv_of_nonneg hw, Int.tdiv_eq_ediv_of_nonneg hz]
  next =>
    have hw : 0 ≤ (p : Int) * 1000 := by omega
    rw [Int.tdiv_eq_ediv_of_nonneg hw]

theorem lawValue_cast (q : CurtainParams) (u : Nat) (v target : Int) :
    (lawValue q u v target : Int) = min 1000 (max 0 (u + ((v - target) * q.gain).tdiv 16)) :=
  Int.toNat_of_nonneg (le_min (by decide) (le_max_left _ _))

/-! ## An evaluated window, field by field (R72) -/

namespace Descent

variable (d : Descent) (p : Nat) (v : Int)

theorem evaluate_overspeedForce :
    (d.evaluate p v).1.sup.overspeedForce = (overspeedTest d.params d.sup p v).force := rfl

theorem evaluate_overspeedRun : (d.evaluate p v).1.sup.overspeedRun = (overspeedTest d.params d.sup p v).run := rfl

theorem evaluate_predictionRun : (d.evaluate p v).1.sup.predictionRun =
    if d.sup.lateForce then d.sup.predictionRun
    else predictionRunAfter d.params d.sup (prediction d.params p v d.sup.clock) := rfl

theorem evaluate_lateForce : (d.evaluate p v).1.sup.lateForce =
    (d.sup.lateForce || (!d.sup.lateForce && (d.evaluate p v).1.sup.predictionRun == 3)) := rfl

theorem evaluate_lastPrediction : (d.evaluate p v).1.sup.lastPrediction =
    if d.sup.lateForce then d.sup.lastPrediction else some (prediction d.params p v d.sup.clock) := rfl

theorem evaluate_u : (d.evaluate p v).1.u =
    if (d.evaluate p v).1.sup.overspeedForce then 1000
    else if (d.evaluate p v).1.sup.lateForce then 0
    else lawValue d.params (if (overspeedTest d.params d.sup p v).ended then 1000 else d.u) v (targetSpeed d.params p) := rfl

theorem evaluate_stallRun :
    (d.evaluate p v).1.sup.stallRun = if v < 20 then min 10 (d.sup.stallRun + 1) else 0 := rfl

theorem evaluate_stallTaken : (d.evaluate p v).1.sup.stallTaken =
    (d.sup.stallTaken || ((d.evaluate p v).1.sup.stallRun == 10 && !d.sup.stallTaken)) := rfl

theorem evaluate_notes : (d.evaluate p v).2.2 =
    if (overspeedTest d.params d.sup p v).ended then [.overspeedEnded p v (d.evaluate p v).1.u] else [] := rfl

theorem evaluate_faults : (d.evaluate p v).2.1 =
    (if (overspeedTest d.params d.sup p v).arose then [.overspeed] else []) ++
      (if (!d.sup.lateForce && (d.evaluate p v).1.sup.predictionRun == 3) ∧ d.record.faults.contains .late = false
        then [.late] else []) ++
      (if (d.evaluate p v).1.sup.stallRun == 10 && !d.sup.stallTaken then [.stall] else []) := rfl

/-! ## The faults that arise in a window (R78, R81, R83) -/

theorem evaluate_fault_of_mem : ∀ f ∈ (d.evaluate p v).2.1, f = .overspeed ∨ f = .late ∨ f = .stall := by
  intro f hf
  simp only [evaluate_faults, List.mem_append, List.mem_ite_nil_right, List.mem_singleton] at hf
  exact hf.elim (fun hf => hf.imp And.right fun hf => .inl hf.2) fun hf => .inr (.inr hf.2)

theorem overspeed_mem_evaluate : .overspeed ∈ (d.evaluate p v).2.1 ↔
    d.sup.overspeedForce = false ∧ (overspeedThreshold d.params p : Int) < v ∧ d.sup.overspeedRun = 1 := by
  simp [evaluate_faults, overspeedTest_arose_iff]

theorem late_mem_evaluate : .late ∈ (d.evaluate p v).2.1 ↔ d.sup.lateForce = false ∧
    (d.evaluate p v).1.sup.predictionRun = 3 ∧ d.record.faults.contains .late = false := by
  simp [evaluate_faults, and_assoc]

theorem stall_mem_evaluate : .stall ∈ (d.evaluate p v).2.1 ↔
    (d.evaluate p v).1.sup.stallRun = 10 ∧ d.sup.stallTaken = false := by
  simp [evaluate_faults]

/-! ## The command and the two forcings (R77 to R79, R81, R82) -/

section
variable {d p v}

theorem evaluate_u_overspeed (h : (d.evaluate p v).1.sup.overspeedForce = true) : (d.evaluate p v).1.u = 1000 := by
  rw [evaluate_u, if_pos h]

theorem evaluate_u_late (h : (d.evaluate p v).1.sup.overspeedForce = false)
    (hl : (d.evaluate p v).1.sup.lateForce = true) : (d.evaluate p v).1.u = 0 := by
  rw [evaluate_u, if_neg (by simp [h]), if_pos hl]

theorem evaluate_u_law (h : (d.evaluate p v).1.sup.overspeedForce = false)
    (hl : (d.evaluate p v).1.sup.lateForce = false) :
    ((d.evaluate p v).1.u : Int) = min 1000 (max 0
      ((if d.sup.overspeedForce && decide (v ≤ forcingLimit d.params p) then 1000 else d.u : Int) +
        ((v - targetSpeed d.params p) * d.params.gain).tdiv 16)) := by
  rw [evaluate_u, if_neg (by simp [h]), if_neg (by simp [hl]), lawValue_cast, overspeedTest_ended]
  push_cast
  rfl

theorem evaluate_force_of_forced (h : d.sup.overspeedForce = true) :
    (d.evaluate p v).1.sup.overspeedForce = !(d.sup.overspeedForce && decide (v ≤ forcingLimit d.params p)) := by
  rw [evaluate_overspeedForce, overspeedTest_forced h, h, Bool.true_and]

theorem evaluate_force_of_free (h : d.sup.overspeedForce = false) : (d.evaluate p v).1.sup.overspeedForce = true ↔
    (overspeedThreshold d.params p : Int) < v ∧ d.sup.overspeedRun = 1 := by
  simp [evaluate_overspeedForce, overspeedTest_force_of_free h, overspeedTest_arose_iff, h]

theorem evaluate_lateForce_forced (h : d.sup.lateForce = true) : (d.evaluate p v).1.sup.lateForce = true := by
  rw [evaluate_lateForce, h, Bool.true_or]

theorem evaluate_lateForce_iff (h : d.sup.lateForce = false) :
    (d.evaluate p v).1.sup.lateForce = true ↔ (d.evaluate p v).1.sup.predictionRun = 3 := by
  simp [evaluate_lateForce, h]

/-! ## The prediction's run and the stall test (R81, R83) -/

theorem evaluate_predictionRun_early (h : d.sup.lateForce = false) (ht : d.sup.clock < 2000) :
    (d.evaluate p v).1.sup.predictionRun = d.sup.predictionRun := by
  simp [evaluate_predictionRun, h, predictionRunAfter, ht]

theorem evaluate_predictionRun_above (h : d.sup.lateForce = false) (ht : 2000 ≤ d.sup.clock)
    (hp : (d.params.maxDrop : Int) * 100 < prediction d.params p v d.sup.clock) :
    (d.evaluate p v).1.sup.predictionRun = d.sup.predictionRun + 1 := by
  simp [evaluate_predictionRun, h, predictionRunAfter, not_lt.2 ht, hp]

theorem evaluate_predictionRun_within (h : d.sup.lateForce = false) (ht : 2000 ≤ d.sup.clock)
    (hp : prediction d.params p v d.sup.clock ≤ (d.params.maxDrop : Int) * 100) :
    (d.evaluate p v).1.sup.predictionRun = 0 := by
  simp [evaluate_predictionRun, h, predictionRunAfter, not_lt.2 ht, not_lt.2 hp]

/-- The tenth window in succession below 20 mm/s, or a later one. -/
theorem evaluate_stallRun_full (h : d.sup.stallRun ≤ 10) :
    (d.evaluate p v).1.sup.stallRun = 10 ↔ v < 20 ∧ 9 ≤ d.sup.stallRun := by
  rw [evaluate_stallRun]
  split <;> omega

theorem evaluate_stallTaken_iff (h : d.sup.stallRun ≤ 10) : (d.evaluate p v).1.sup.stallTaken = true ↔
    d.sup.stallTaken = true ∨ (v < 20 ∧ 9 ≤ d.sup.stallRun) := by
  rw [evaluate_stallTaken, ← evaluate_stallRun_full (p := p) (v := v) h]
  cases d.sup.stallTaken <;> simp

end

end Descent

/-- Settles O36: the command, the forcings, the prediction and the faults by the window's fields, and the stall test. -/
theorem windowCommand : Obligations.WindowCommand := by
  refine ⟨fun d p v => ?_, fun d p v h => ?_⟩
  · intro q e faults exceeds ends previous w predicted
    have hpred : prediction d.params p v d.sup.clock = predicted := prediction_eq ..
    have hends : (overspeedTest d.params d.sup p v).ended = ends := overspeedTest_ended
    have hexceeds : exceeds = true ↔ (overspeedThreshold q p : Int) < v := decide_eq_true_iff
    have hwithin : exceeds = false ↔ ¬ (overspeedThreshold q p : Int) < v := decide_eq_false_iff_not
    refine ⟨Descent.evaluate_u_overspeed, Descent.evaluate_u_late, Descent.evaluate_u_law, Descent.evaluate_force_of_forced,
      fun hf => ⟨?_, fun hv => ?_, fun hv => ?_⟩, ?_, ?_, fun hl => ⟨Descent.evaluate_lateForce_forced hl, if_pos hl⟩,
      fun hl => ⟨?_, Descent.evaluate_predictionRun_early hl, fun ht hv => ?_, fun ht hv => ?_,
        Descent.evaluate_lateForce_iff hl⟩, Descent.late_mem_evaluate d p v, Descent.evaluate_fault_of_mem d p v⟩
    · rw [hexceeds]
      exact Descent.evaluate_force_of_free hf
    · exact congrArg OverspeedResult.run (overspeedTest_within hf (not_lt.1 (hwithin.1 hv)))
    · exact congrArg OverspeedResult.run (overspeedTest_exceeds hf (hexceeds.1 hv))
    · rw [hexceeds]
      exact Descent.overspeed_mem_evaluate d p v
    · rw [← hends]
      exact Descent.evaluate_notes d p v
    · rw [← hpred]
      exact if_neg (by simp [hl])
    · exact Descent.evaluate_predictionRun_above hl ht (hpred ▸ hv)
    · exact Descent.evaluate_predictionRun_within hl ht (hpred ▸ hv)
  · intro e
    refine ⟨fun hv => if_neg (not_lt.2 hv), fun hv => if_pos hv, ?_, Descent.evaluate_stallTaken_iff h⟩
    rw [List.contains_iff_mem, Descent.stall_mem_evaluate, Descent.evaluate_stallRun_full h, and_assoc]

end Sys2Proof.Machine
end

section
/-!
The end of a window: the faults that arise in it join those of the part and of the descent in hand, and CTC reads p, latches
ENCODER or evaluates the descent.
-/

namespace Sys2Proof.Machine

open Sys2Proof.Safety

/-! ## Faults that arise in a descent (R66) -/

/-- Several faults join a set of faults. -/
def addFaults (gs fs : List CurtainFault) : List CurtainFault := gs.foldl (fun fs g => addFault g fs) fs

theorem contains_addFault (f g : CurtainFault) (fs : List CurtainFault) :
    (addFault f fs).contains g = (fs.contains g || decide (g = f)) := by
  rw [Bool.eq_iff_iff, addFault_contains, Bool.or_eq_true, decide_eq_true_iff, or_comm]

theorem contains_addFaults (f : CurtainFault) (gs fs : List CurtainFault) :
    (addFaults gs fs).contains f = (fs.contains f || gs.contains f) := by
  induction gs generalizing fs with
  | nil => simp [addFaults]
  | cons g gs ih =>
    have hg : addFaults (g :: gs) fs = addFaults gs (addFault g fs) := rfl
    rw [hg, ih, contains_addFault, List.contains_cons, Bool.or_assoc]
    rfl

/-- Several faults are recorded among the descent's faults. -/
def Descent.gains (gs : List CurtainFault) (d : Descent) : Descent :=
  { d with record := { d.record with faults := addFaults gs d.record.faults } }

theorem Ctc.arise_descending {e : CtcEnv} {c : Ctc} {d : Descent} (hd : c.descent = some d) (f : CurtainFault) :
    c.arise e f =
      { ctc := { c with
          faults := addFault f c.faults,
          descent := some (if f = .encoder then (d.gain f).toTimeOnly else d.gain f) },
        notes := .curtainFault f c.state (some d.record.cause) (c.position e.params) ::
          (if f = .encoder then c.timeOnlyNote else []),
        reports := (reported f).map .fault } := by
  cases f <;> simp [Ctc.arise, Ctc.onDescent, Ctc.cause, Ctc.position, Ctc.paramsUsed, hd, Descent.gain, reported]

/-- The position follows the count and the descent's copy of the parameters alone. -/
theorem Ctc.position_of_params {c : Ctc} {d d' : Descent} (hd : c.descent = some d) (hq : d'.params = d.params)
    (q : CurtainParams) : Ctc.position q { c with descent := some d' } = c.position q := by
  simp only [Ctc.position, Ctc.paramsUsed, hd, hq]

/-- Faults arise one after the other on top of an operation. -/
def CtcOut.arises (e : CtcEnv) (gs : List CurtainFault) (o : CtcOut) : CtcOut :=
  gs.foldl (fun o f => o.andThen (Ctc.arise e f)) o

/-- Faults that are not reported to PFU arise in a descent. -/
theorem CtcOut.arises_descending {e : CtcEnv} {c : Ctc} {d : Descent} (hd : c.descent = some d) {gs : List CurtainFault}
    (hg : ∀ f ∈ gs, reported f = []) (bs : List NoticeBody) :
    CtcOut.arises e gs { ctc := c, notes := bs, reports := [] } =
      { ctc := { c with faults := addFaults gs c.faults, descent := some (d.gains gs) },
        notes := bs ++ gs.map fun f => .curtainFault f c.state (some d.record.cause) (c.position e.params),
        reports := [] } := by
  induction gs generalizing c d bs with
  | nil =>
    rw [List.map_nil, List.append_nil]
    exact congrArg (fun x => CtcOut.mk { c with descent := x } bs []) hd
  | cons g gs ih =>
    have hr : reported g = [] := hg g List.mem_cons_self
    have he : g ≠ .encoder := fun he => by simp [he, reported] at hr
    have hp : Ctc.position e.params { c with faults := addFault g c.faults, descent := some (d.gain g) } =
        c.position e.params := Ctc.position_of_params hd rfl _
    rw [CtcOut.arises, List.foldl_cons, ← CtcOut.arises, CtcOut.andThen_mk, Ctc.arise_descending hd, hr]
    simp only [if_neg he, List.map_nil, List.append_nil]
    rw [ih rfl (fun f hf => hg f (List.mem_cons_of_mem g hf)), hp, List.map_cons, List.append_assoc]
    rfl

/-- Notices that an operation sends last. -/
def CtcOut.noting (bs : List NoticeBody) (o : CtcOut) : CtcOut := { o with notes := o.notes ++ bs }

/-! ## The window as CTC ends it (R72 to R75) -/

/-- A window is counted, and its progress starts again (R72). -/
def Descent.countWindow (d : Descent) : Descent :=
  { d with sup := { d.sup with windowNo := min 65535 (d.sup.windowNo + 1), progress := 0 } }

/-- A window that finds a displacement above 200 mm is counted and read, and evaluated no further (R74). -/
def Descent.jumped (p : Nat) (d : Descent) : Descent := d.countWindow.readOnly p (some (10 * ((d.sup.prevPos : Int) - p)))

section
variable {e : CtcEnv} {c : Ctc} {d : Descent} {p : Nat} (hd : c.descent = some d) (hp : c.position e.params = p)
include hd hp

theorem Ctc.window_timeOnly (ht : d.sup.timeOnly = true) :
    c.window e =
      { ctc := { c with descent := some (d.countWindow.readOnly p none) }, notes := [],
        reports := ([] : List CurtainFault).map .fault } := by
  subst hp
  simp only [Ctc.window, hd, if_pos ht]
  rfl

/-- A displacement above 200 mm (R74). -/
theorem Ctc.window_jump (ht : d.sup.timeOnly = false) (hv : 2000 < (10 * ((d.sup.prevPos : Int) - p)).natAbs) :
    c.window e =
      { ctc := { c with
          faults := addFault .encoder c.faults,
          descent := some ((d.jumped p).gain .encoder).toTimeOnly },
        notes := [.curtainFault .encoder c.state (some d.record.cause) p,
          .timeOnly d.sup.clock (min 65535 (d.sup.windowNo + 1))],
        reports := [.encoder].map .fault } := by
  have hj : 200 < ((d.sup.prevPos : Int) - p).natAbs := by omega
  have hq : Ctc.position e.params { c with descent := some (d.jumped p) } = p := (Ctc.position_of_params hd rfl _).trans hp
  have hn : Ctc.timeOnlyNote { c with descent := some (d.jumped p) } =
      [.timeOnly d.sup.clock (min 65535 (d.sup.windowNo + 1))] :=
    if_neg (Bool.eq_false_iff.1 ht)
  have hw : c.window e = Ctc.arise e .encoder { c with descent := some (d.jumped p) } := by
    simp only [Ctc.window, hd, hp, if_neg (Bool.eq_false_iff.1 ht), if_pos hj]
    rfl
  rw [hw, Ctc.arise_descending rfl, hq, hn]
  rfl

theorem Ctc.window_evaluated (ht : d.sup.timeOnly = false) (hv : (10 * ((d.sup.prevPos : Int) - p)).natAbs ≤ 2000) :
    let r := d.countWindow.evaluate p (10 * ((d.sup.prevPos : Int) - p))
    c.window e =
      { ctc := { c with faults := addFaults r.2.1 c.faults, descent := some (r.1.gains r.2.1) },
        notes := (r.2.1.map fun f => .curtainFault f c.state (some d.record.cause) p) ++ r.2.2,
        reports := ([] : List CurtainFault).map .fault } := by
  intro r
  have hj : ¬ 200 < ((d.sup.prevPos : Int) - p).natAbs := by omega
  have hg : ∀ f ∈ r.2.1, reported f = [] := fun f hf => by
    rcases Descent.evaluate_fault_of_mem _ _ _ f hf with rfl | rfl | rfl <;> rfl
  have hq : Ctc.position e.params { c with descent := some r.1 } = p := (Ctc.position_of_params hd rfl _).trans hp
  have hw : c.window e = ((CtcOut.of { c with descent := some r.1 }).arises e r.2.1).noting r.2.2 := by
    simp only [Ctc.window, hd, hp, if_neg (Bool.eq_false_iff.1 ht), if_neg hj]
    rfl
  rw [hw, CtcOut.of, CtcOut.arises_descending rfl hg, hq]
  rfl

end

/-! ## The command (R72) -/

/-- A window that CTC ends with no report, or where no act runs, is CTC's own affair. -/
theorem descentWindow_moves {s : State} {d : Descent} {c : Ctc} {bs : List NoticeBody} {fs : List CurtainFault}
    (hh : s.held = none) (h : s.Current) (hd : s.ctc.descent = some d) (hn : d.hold = none) (hw : 100 ≤ d.sup.progress)
    (hx : s.ctc.window s.ctcEnv = { ctc := c, notes := bs, reports := fs.map .fault }) (hf : fs = [] ∨ s.phase ≠ .running)
    (hs : c.state = s.ctc.state) :
    ∃ t, exec .descentWindow s = .next t ∧ Only [.curtain, .link, .lines, .draws] s t ∧ CurtainMoved s c t ∧
      Sends s bs t := by
  have m := State.curtainSet_finish h c bs
  have hdue : s.ctc.windowDue = true := by simp [Ctc.windowDue, hd, hn, hw]
  have he : exec .descentWindow s = .next (s.curtainSet c bs).finish := by
    rw [← State.withCtc_moves (f := fun e c => c.window e) h hx hf]
    exact congrArg Host.Outcome.next (State.event_eq hh hdue _)
  exact ⟨_, he, m.still (by rw [Ctc.hoistDemand, hs]; rfl) (by rw [Ctc.releaseDemand, hs]; rfl), m, State.finish_sends rfl⟩

/-- Settles O34: the window is read, finds a jump, or is evaluated, and its faults join without a report. -/
theorem descentWindow : Obligations.DescentWindow := by
  intro d s hh hg ho hd hn hw p counted v
  have h : s.Current := hg hh
  have hp : s.ctc.position s.ctcEnv.params = p := rfl
  have hs := ho.descending hd
  refine ⟨fun ht => ?_, fun ht hv hr => ?_, fun ht hv => ?_⟩
  · obtain ⟨t, he, only, m, sends⟩ := descentWindow_moves hh h hd hn hw (Ctc.window_timeOnly hd hp ht) (.inl rfl) rfl
    exact ⟨t, he, only, m.ctc, sends⟩
  · obtain ⟨t, he, only, m, sends⟩ := descentWindow_moves hh h hd hn hw (Ctc.window_jump hd hp ht hv) (.inr hr) rfl
    rw [hs] at sends
    exact ⟨t, he, only, m.ctc, sends⟩
  · obtain ⟨t, he, only, m, -⟩ := descentWindow_moves hh h hd hn hw (Ctc.window_evaluated hd hp ht hv) (.inl rfl) rfl
    have hf : t.ctc.faults = addFaults (counted.evaluate p v).2.1 s.ctc.faults := congrArg Ctc.faults m.ctc
    exact ⟨t, (counted.evaluate p v).1.gains (counted.evaluate p v).2.1, he, only, by rw [hf]; exact m.ctc,
      rfl, rfl, rfl, rfl, rfl, rfl, m.retarder, fun f => hf ▸ contains_addFaults f _ _,
      fun f => contains_addFaults f _ _⟩

end Sys2Proof.Machine
end

section
/-!
The house lights: the output code of a channel, the requests that write a preset and start fades, LIGHTS-RESTORE, the clearing
LIGHTS-READ, and the evaluation of a fade.
-/

namespace Sys2Proof.Machine

open Sys2Proof.Safety

/-! ## Output codes (R100) -/

theorem trimCeiling_bounds {trim : Nat} (h : trim ≤ 31) : 31 ≤ trimCeiling trim ∧ trimCeiling trim ≤ 1000 := by
  unfold trimCeiling
  omega

theorem trimCeiling_eq_full {trim : Nat} : trimCeiling trim = 1000 ↔ trim = 31 := by
  unfold trimCeiling
  omega

/-- A product of two factors up to 1000 reaches a million with both factors at 1000 only. -/
theorem mul_full {a b : Nat} (ha : a ≤ 1000) (hb : b ≤ 1000) :
    a * b ≤ 1000 * 1000 ∧ (a * b = 1000 * 1000 ↔ a = 1000 ∧ b = 1000) := by
  refine ⟨Nat.mul_le_mul ha hb, fun _ => ?_, fun ⟨h, k⟩ => by rw [h, k]⟩
  have h1 : a * b ≤ a * 1000 := Nat.mul_le_mul_left a hb
  have h2 : a * b ≤ 1000 * b := Nat.mul_le_mul_right b ha
  omega

/-- A level scaled by a ceiling, both up to 1000, stays at 1000 or below, and is 1000 where both are only. -/
theorem scaled_full {level ceiling : Nat} (hl : level ≤ 1000) (hc : ceiling ≤ 1000) :
    level * ceiling / 1000 ≤ 1000 ∧ (level * ceiling / 1000 = 1000 ↔ level = 1000 ∧ ceiling = 1000) := by
  obtain ⟨hle, heq⟩ := mul_full hl hc
  rw [← heq]
  omega

theorem outputCode_linear {c : ChannelConfig} (h : c.curve = .linear) (level : Nat) :
    outputCode c level = level * trimCeiling c.trim / 1000 * 4095 / 1000 := by
  simp only [outputCode, h]

theorem outputCode_square {c : ChannelConfig} (h : c.curve = .square) (level : Nat) :
    outputCode c level =
      level * trimCeiling c.trim / 1000 * (level * trimCeiling c.trim / 1000) * 4095 / 1000000 := by
  simp only [outputCode, h]

/-- Either curve maps the scaled levels into 0 to 4095, and reaches 4095 at the scaled level 1000 only. -/
theorem outputCode_full {c : ChannelConfig} {level : Nat} (h : level * trimCeiling c.trim / 1000 ≤ 1000) :
    outputCode c level ≤ 4095 ∧ (outputCode c level = 4095 ↔ level * trimCeiling c.trim / 1000 = 1000) := by
  cases hc : c.curve with
  | linear =>
    rw [outputCode_linear hc]
    omega
  | square =>
    obtain ⟨hle, heq⟩ := mul_full h h
    rw [outputCode_square hc]
    omega

/-- Settles O39: the ceiling, the scaled level and the curve reach their ends together. -/
theorem outputCode_by_ceiling_and_curve : Obligations.OutputCode := by
  intro c level hl ht ceiling scaled
  obtain ⟨hlow, hhigh⟩ := trimCeiling_bounds ht
  obtain ⟨hs, hfull⟩ := scaled_full hl hhigh
  obtain ⟨hle, heq⟩ := outputCode_full (c := c) hs
  exact ⟨fun h => outputCode_linear h level, fun h => outputCode_square h level, hle,
    by rw [heq, hfull, trimCeiling_eq_full], hlow, hhigh⟩

/-! ## PRESET-WRITE (R91) -/

theorem execPresetWrite_sized {levels : List Nat} (h : levels.length = 12) (n : Nat) (s : State) :
    exec (.presetWrite n levels) s = .next (s.answer .presetWrite true (State.decidePresetWrite n levels)) := by
  show execPresetWrite n levels s = _
  unfold execPresetWrite
  rw [h]
  rfl

theorem State.decidePresetWrite_badField {n : Nat} (h : 15 ≤ n) (levels : List Nat) (s : State) :
    s.decidePresetWrite n levels = (s, .refused .badField .none) := if_pos h

theorem State.decidePresetWrite_wrongPhase {n : Nat} {s : State} (h : n < 15) (hp : s.phase = .evacuate) (levels : List Nat) :
    s.decidePresetWrite n levels = (s, .refused .wrongPhase .none) := by
  unfold State.decidePresetWrite
  rw [if_neg (Nat.not_le.2 h), if_pos hp]

theorem State.decidePresetWrite_eq {n : Nat} {s : State} (h : n < 15) (hp : s.phase ≠ .evacuate) (levels : List Nat) :
    s.decidePresetWrite n levels =
      ({ s with settings := { s.settings with presets := s.settings.presets.set n (levels.map (min 1000)) } },
        .done (.levels (levels.map (min 1000)))) := by
  unfold State.decidePresetWrite
  rw [if_neg (Nat.not_le.2 h), if_neg hp]

theorem State.setSettings_only (s : State) (c : Settings) : Only [.settings] s { s with settings := c } := by
  intro p hp
  cases p <;> simp_all [Part.same]

/-! ## Starts of every channel (R94, R95, R96) -/

theorem Hlu.go_length (now preset time : Nat) (c : Settings) (u : Hlu) :
    (u.go now c preset time).channels.length = u.channels.length := List.length_mapIdx

theorem Hlu.toFull_length (now time : Nat) (origin : FadeOrigin) (u : Hlu) :
    (u.toFull now time origin).channels.length = u.channels.length := List.length_mapIdx

/-- A request that LP can take and that changes HLU alone. -/
theorem exec_setHlu {c : Instr} {kind : RequestKind} {d : State → State × Decision} {s : State} {h : Hlu} {dec : Decision}
    (ha : Admits s) (hc : exec c s = .next (s.answer kind true d))
    (hd : d s.hunting = ({ s.hunting with hlu := h }, dec)) :
    ∃ t, exec c s = .next t ∧ Only [.lights, .link, .lines, .draws] s t ∧ t.hlu = h ∧ Replies s kind dec [] t :=
  ⟨_, exec_of_decided ha hc hd, ((s.hunting.setHlu_only h).replied kind dec).mono (by decide), rfl,
    State.replied_replies (bs := []) rfl kind dec⟩

/-- LIGHTS-GO taken. -/
theorem execLightsGo_taken {preset : Nat} {s : State} (ha : Admits s) (hp : preset ≤ 15) (hr : s.ilu.relay.line = true)
    (fade : Nat) :
    ∃ t, exec (.lightsGo preset fade) s = .next t ∧ Only [.lights, .link, .lines, .draws] s t ∧
      t.hlu = s.hlu.go s.now s.settings preset (min 6000 fade) ∧
      Replies s .lightsGo (.done (.lightsGo preset (min 6000 fade))) [] t :=
  exec_setHlu ha rfl (State.decideGo_eq (s := s.hunting) hp hr fade)

/-- HOUSE-FULL taken. -/
theorem execHouseFull_taken {s : State} (ha : Admits s) (hr : s.ilu.relay.line = true) :
    ∃ t, exec .houseFull s = .next t ∧ Only [.lights, .link, .lines, .draws] s t ∧
      t.hlu = s.hlu.toFull s.now s.settings.lightTimes.houseFull .houseFull ∧
      Replies s .houseFull (.done (.fadeTime s.settings.lightTimes.houseFull)) [] t :=
  exec_setHlu ha rfl (State.decideHouseFull_eq (s := s.hunting) hr)

/-- Settles O37: each request by its decision, and a start by what it does to one channel. -/
theorem presetWriteAndGo : Obligations.PresetWriteAndGo := by
  refine ⟨fun n levels s ha hlen => ⟨fun hn => ?_, fun hn hp => ?_, fun hn hp => ?_⟩,
    fun preset fade s ha => ⟨fun hp => ?_, fun hr => ⟨fun hp => ?_, ?_⟩, fun hr => ⟨fun hp => ?_, ?_⟩⟩⟩
  · exact refuses_of_decided ha (execPresetWrite_sized hlen n s) (State.decidePresetWrite_badField hn levels _)
  · exact refuses_of_decided ha (execPresetWrite_sized hlen n s)
      (State.decidePresetWrite_wrongPhase (s := s.hunting) hn hp levels)
  · have hd := State.decidePresetWrite_eq (s := s.hunting) hn hp levels
    exact ⟨_, exec_of_decided ha (execPresetWrite_sized hlen n s) hd,
      ((s.hunting.setSettings_only _).replied _ _).mono (by decide), rfl, rfl, State.replied_replies (bs := []) rfl _ _⟩
  · exact refuses_of_decided ha rfl (State.decideGo_badField hp _)
  · exact refuses_of_decided ha rfl (State.decideGo_overridden (s := s.hunting) hp hr fade)
  · exact refuses_of_decided ha rfl (State.decideHouseFull_refused (s := s.hunting) hr)
  · obtain ⟨t, he, only, hlu, replies⟩ := execLightsGo_taken ha hp hr fade
    refine ⟨t, he, only, by rw [hlu]; rfl, by rw [hlu, Hlu.go_length], fun i r hi => ?_, replies⟩
    have htime : min 6000 fade = 0 ↔ fade = 0 := by omega
    rw [hlu, Hlu.go_channels _ _ _ _ hi]
    simp only [htime]
  · obtain ⟨t, he, only, hlu, replies⟩ := execHouseFull_taken ha hr
    exact ⟨t, he, only, by rw [hlu]; rfl, by rw [hlu, Hlu.toFull_length],
      fun i r hi => by rw [hlu, Hlu.toFull_channels _ _ _ hi], replies⟩

/-! ## LIGHTS-RESTORE (R102, R105) -/

/-- HLU withdraws the emergency demand. -/
def State.restored (s : State) : State := { s with hlu := { s.hlu with emergencyDemand := false } }

theorem State.forced_iff {s : State} : s.forced = true ↔ s.fireFull = true ∨ s.phase = .evacuate := by
  simp [State.forced]

theorem State.decideRestore_overridden {s : State} (h : s.forced = true) :
    s.decideRestore = (s, .refused .overridden .none) := if_pos h

theorem State.decideRestore_eq {s : State} (h : s.forced = false) :
    s.decideRestore = (s.restored.regate, .done (.restored s.hlu.emergencyDemand)) := if_neg (by simp [h])

theorem State.restored_relay {s : State} (h : s.forced = false) : s.restored.gates.ilu.relay.line = true := by
  rw [State.gates_relay, show s.restored.forced = false from h]
  rfl

/-- The audience relays follow CLU's demands, whatever HLU demands. -/
theorem State.restored_deniedZones (s : State) : s.restored.gates.ilu.deniedZones = s.gates.ilu.deniedZones := rfl

theorem State.takeDrop_energised {s : State} (h : s.ilu.relay.line = true) (b : Bool) : s.takeDrop b = s := by
  unfold State.takeDrop
  rw [if_neg (by simp [h])]

/-- From current gates the withdrawal energises the relay, and reaches no other block. -/
theorem State.restored_regate {s : State} (h : s.Current) (hf : s.forced = false) : s.restored.regate = s.restored.gates := by
  have hd : s.restored.gates.ilu.deniedZones = 0 := by rw [State.restored_deniedZones, h.gates_eq, h.2]
  rw [State.regate, State.takeDrop_energised (State.restored_relay hf), State.takeCuts_eq_self hd]

theorem State.gates_only (s : State) : Only [.gates] s s.gates := by
  intro p hp
  cases p <;> simp_all [Part.same]

theorem execLightsRestore_taken {s : State} (ha : Admits s) (hg : GatesCurrent s) (hf : s.forced = false) :
    ∃ t, exec .lightsRestore s = .next t ∧ Only [.lights, .gates, .link, .lines, .draws] s t ∧
      t.hlu = { s.hlu with emergencyDemand := false } ∧ t.ilu.relay.line = true ∧
      Replies s .lightsRestore (.done (.restored s.hlu.emergencyDemand)) [] t := by
  have hd := State.decideRestore_eq (s := s.hunting) hf
  rw [State.restored_regate (s := s.hunting) (hg ha.released) hf] at hd
  have only : Only [.lights, .gates] s.hunting s.hunting.restored.gates :=
    ((s.hunting.setHlu_only _).mono (by decide)).trans ((State.gates_only _).mono (by decide))
  exact ⟨_, exec_of_decided ha rfl hd, (only.replied _ _).mono (by decide), rfl, State.restored_relay (s := s.hunting) hf,
    State.replied_replies (bs := []) rfl _ _⟩

/-! ## The clearing LIGHTS-READ (R106, R107) -/

theorem State.decideLightsRead_clear (s : State) :
    s.decideLightsRead true =
      ({ s with hlu := { s.hlu with supplyFault := s.hlu.supplyFault && !decide (s.lmu.limitState 6 = .normal) } },
        .done (.lights s.readLights)) := by
  simp only [State.decideLightsRead, Bool.true_and]

/-! ## The evaluation of a fade (R92, R93) -/

/-- A part `e` of `d` of a way of `n`, truncated, is no more than the way. -/
theorem part_le_way {e d : Nat} (h : e ≤ d) (n : Nat) : n * e / d ≤ n :=
  Nat.div_le_of_le_mul (by rw [Nat.mul_comm d]; exact Nat.mul_le_mul_left n h)

theorem Fade.levelAt_end {f : Fade} {e : Nat} (h : f.duration ≤ e) : f.levelAt e = f.target := if_neg (Nat.not_lt.2 h)

theorem Fade.levelAt_rising {f : Fade} {e : Nat} (h : f.start ≤ f.target) (he : e < f.duration) :
    f.levelAt e = f.start + (f.target - f.start) * e / f.duration := by
  have hway : ((f.target : Int) - f.start) * e = (((f.target - f.start) * e : Nat) : Int) := by
    rw [Int.natCast_mul, Int.ofNat_sub h]
  rw [Fade.levelAt, if_pos he, hway, ← Int.ofNat_tdiv, ← Int.natCast_add, Int.toNat_natCast]

theorem Fade.levelAt_rising_le {f : Fade} {e : Nat} (h : f.start ≤ f.target) (he : e < f.duration) :
    f.levelAt e ≤ f.target := by
  have hpart := part_le_way he.le (f.target - f.start)
  rw [Fade.levelAt_rising h he]
  omega

theorem Fade.levelAt_falling {f : Fade} {e : Nat} (h : f.target ≤ f.start) (he : e < f.duration) :
    f.levelAt e = f.start - (f.start - f.target) * e / f.duration := by
  have hway : ((f.target : Int) - f.start) * e = -(((f.start - f.target) * e : Nat) : Int) := by
    rw [Int.natCast_mul, Int.ofNat_sub h, ← Int.neg_mul, Int.neg_sub]
  rw [Fade.levelAt, if_pos he, hway, Int.neg_tdiv, ← Int.ofNat_tdiv, ← Int.sub_eq_add_neg, Int.toNat_sub]

theorem Fade.le_levelAt_falling {f : Fade} {e : Nat} (h : f.target ≤ f.start) (he : e < f.duration) :
    f.target ≤ f.levelAt e := by
  have hpart := part_le_way he.le (f.start - f.target)
  rw [Fade.levelAt_falling h he]
  omega

theorem ChannelRun.evaluate_ends {r : ChannelRun} {f : Fade} (hf : r.fade = some f) (h : f.duration ≤ f.nextEval) :
    r.evaluate = { active := f.target, fade := none } := by
  simp only [ChannelRun.evaluate, hf, Fade.levelAt_end h, if_neg (Nat.not_lt.2 h)]

theorem ChannelRun.evaluate_runs {r : ChannelRun} {f : Fade} (hf : r.fade = some f) (h : f.nextEval < f.duration) :
    r.evaluate = { active := f.levelAt f.nextEval, fade := some { f with evals := f.evals + 1 } } := by
  simp only [ChannelRun.evaluate, hf, if_pos h]

theorem Hlu.channel_eq {u : Hlu} {i : Nat} {r : ChannelRun} (h : u.channels[i]? = some r) : u.channel i = r := by
  simp [Hlu.channel, h]

theorem Hlu.evaluate_eq {u : Hlu} {i : Nat} {r : ChannelRun} (h : u.channels[i]? = some r) :
    u.evaluate i = { u with channels := u.channels.set i r.evaluate } := by
  rw [Hlu.evaluate, List.modify_eq_set_getElem?, h]
  rfl

/-- An evaluation that is due is taken. -/
theorem execFadeEvaluation_due {i : Nat} {r : ChannelRun} {f : Fade} {s : State} (hh : s.held = none)
    (hr : s.hlu.channels[i]? = some r) (hf : r.fade = some f) (hd : f.started + f.nextEval ≤ s.now) :
    ∃ t, exec (.fadeEvaluation i) s = .next t ∧ Only [.lights, .link, .lines, .draws] s t ∧
      t.hlu = { s.hlu with channels := s.hlu.channels.set i r.evaluate } := by
  have hdue : (s.hlu.channel i).evalDue s.now = true := by
    simp [Hlu.channel_eq hr, ChannelRun.evalDue, hf, hd]
  exact ⟨_, congrArg Host.Outcome.next (State.event_eq hh hdue _), (s.setHlu_only _).finish.mono (by decide),
    Hlu.evaluate_eq hr⟩

/-- Settles O38: LIGHTS-RESTORE and LIGHTS-READ by their decisions, and an evaluation by the level that its moment gives. -/
theorem restoreAndFades : Obligations.RestoreAndFades := by
  refine ⟨fun s ha => ⟨fun h => ?_, fun hf hp hg => ?_, ?_⟩, fun i r f s hh hr hf hd => ?_⟩
  · exact refuses_of_decided ha rfl (State.decideRestore_overridden (s := s.hunting) (State.forced_iff.2 h))
  · have hforced : s.forced = false := Bool.eq_false_iff.2 fun h => (State.forced_iff.1 h).elim (by simp [hf]) hp
    obtain ⟨t, he, only, hlu, relay, replies⟩ := execLightsRestore_taken ha hg hforced
    exact ⟨t, he, only, hlu, relay, by simp [State.override, relay], replies⟩
  · exact exec_setHlu ha rfl (State.decideLightsRead_clear s.hunting)
  · obtain ⟨t, he, only, hlu⟩ := execFadeEvaluation_due hh hr hf hd
    refine ⟨t, r.evaluate, he, only, hlu, fun h => ChannelRun.evaluate_ends hf h, fun h => ?_⟩
    rw [ChannelRun.evaluate_runs hf h]
    exact ⟨rfl, fun hup => ⟨Fade.levelAt_rising hup h, Fade.levelAt_rising_le hup h⟩,
      fun hdown => ⟨Fade.levelAt_falling hdown h, Fade.le_levelAt_falling hdown h⟩⟩

end Sys2Proof.Machine
end

section
/-!
A change of FDU alone: what a request and an event that make one come to; the continuity test and the walk indication.
-/

namespace Sys2Proof.Machine

open Sys2Proof.Safety

/-! ## A change of FDU alone -/

theorem State.putFdu_only (s : State) (o : FduOut) : Only [.fire, .link] s (s.putFdu o) := by
  intro p hp
  cases p <;> simp_all [Part.same]

/-- An event that is due and that changes FDU alone. -/
theorem event_putFdu {c : Instr} {due : Bool} {f : State → State} {s : State} {o : FduOut} (hh : s.held = none)
    (hd : due = true) (hc : exec c s = .next (s.event due f)) (hf : f s = s.putFdu o) :
    ∃ t, exec c s = .next t ∧ Only [.fire, .link, .lines, .draws] s t ∧ t.fdu = o.fdu ∧ Sends s o.notes t :=
  ⟨(s.putFdu o).finish, by rw [hc, State.event_eq hh hd, hf], (s.putFdu_only o).finish.mono (by decide), rfl,
    State.finish_sends rfl⟩

/-- A request that LP can take and that changes FDU alone. -/
theorem exec_putFdu {c : Instr} {kind : RequestKind} {d : State → State × Decision} {s : State} {o : FduOut} {dec : Decision}
    (ha : Admits s) (hc : exec c s = .next (s.answer kind true d)) (hd : d s.hunting = (s.hunting.putFdu o, dec)) :
    ∃ t, exec c s = .next t ∧ Only [.fire, .link, .lines, .draws] s t ∧ t.fdu = o.fdu ∧ Replies s kind dec o.notes t :=
  ⟨_, exec_of_decided ha hc hd, ((s.hunting.putFdu_only o).replied kind dec).mono (by decide), rfl,
    State.replied_replies rfl kind dec⟩

/-! ## Device records -/

section
variable {a : Nat} {d : DeviceRecord} {f : Fdu} (h : f.devices[a - 1]? = some d)
include h

theorem Fdu.device_eq : f.device a = d := by simp [Fdu.device, List.getD_eq_getElem?_getD, h]

theorem Fdu.modifyDevice_eq (g : DeviceRecord → DeviceRecord) :
    f.modifyDevice a g = { f with devices := f.devices.set (a - 1) (g d) } := by
  rw [Fdu.modifyDevice, List.modify_eq_set_getElem?, h]
  rfl

end

/-! ## Continuity (R125, R126) -/

theorem Fdu.continuity_broken {f : Fdu} (hm : f.mode = .oneEnd) (hr : f.failRun = 1) : f.continuity false =
    { fdu := { f with poll := none, passRun := 0, failRun := 2, mode := .twoEnd, loopBroken := true },
      notes := [.deviceMarker 0 .loopBroken], alarm := none } := by
  simp [Fdu.continuity, hm, hr]

theorem Fdu.continuity_failed {f : Fdu} (h : f.mode = .twoEnd ∨ f.failRun = 0) : f.continuity false =
    FduOut.of { f with poll := none, passRun := 0, failRun := min 2 (f.failRun + 1) } := by
  cases hm : f.mode with
  | oneEnd => simp [Fdu.continuity, hm, h.resolve_left (by simp [hm])]
  | twoEnd => simp [Fdu.continuity, hm]

theorem Fdu.continuity_restored {f : Fdu} (hm : f.mode = .twoEnd) (hr : f.passRun = 1) : f.continuity true =
    { fdu := { f with poll := none, failRun := 0, passRun := 2, mode := .oneEnd, loopBroken := false },
      notes := [.deviceMarker 0 .loopRestored], alarm := none } := by
  simp [Fdu.continuity, hm, hr]

theorem Fdu.continuity_passed {f : Fdu} (h : f.mode = .oneEnd ∨ f.passRun = 0) : f.continuity true =
    FduOut.of { f with poll := none, failRun := 0, passRun := min 2 (f.passRun + 1) } := by
  cases hm : f.mode with
  | oneEnd => simp [Fdu.continuity, hm]
  | twoEnd => simp [Fdu.continuity, hm, h.resolve_left (by simp [hm])]

/-- The end of a continuity test is what the runs make of it. -/
theorem execContinuityResult_due {s : State} {received : Bool} (hh : s.held = none)
    (hd : s.fdu.resultPossible s.now received = true) : ∃ t, exec (.continuityResult received) s = .next t ∧
      Only [.fire, .link, .lines, .draws] s t ∧ t.fdu = (s.fdu.continuity received).fdu ∧
      Sends s (s.fdu.continuity received).notes t :=
  event_putFdu hh hd rfl rfl

/-- Settles O43: the timers by the one field each sets, and the end of a test by its runs. -/
theorem continuityAndIndications : Obligations.ContinuityAndIndications := by
  intro s hh
  refine ⟨fun hd => ?_, fun p hp hk => ⟨fun hd => ?_, fun hd => ?_⟩, fun a d x ha hdev hw hx => ?_⟩
  · obtain ⟨t, he, only, fdu, -⟩ := event_putFdu (c := .continuityDue) (o := FduOut.of { s.fdu with
      contDue := true, contNext := s.fdu.contNext + 30000 }) hh (decide_eq_true hd) rfl rfl
    exact ⟨t, he, only, fdu⟩
  · obtain ⟨t, he, only, fdu, sends⟩ := execContinuityResult_due (received := false) hh
      (by simp [Fdu.resultPossible, hp, hk, hd])
    refine ⟨t, _, he, only, sends, fun hm hr => ?_, fun h => ?_⟩
    · rw [fdu, Fdu.continuity_broken hm hr]
      exact ⟨rfl, rfl⟩
    · rw [fdu, Fdu.continuity_failed h]
      exact ⟨rfl, rfl⟩
  · obtain ⟨t, he, only, fdu, sends⟩ := execContinuityResult_due (received := true) hh
      (by simp [Fdu.resultPossible, hp, hk, hd])
    refine ⟨t, _, he, only, sends, fun hm hr => ?_, fun h => ?_⟩
    · rw [fdu, Fdu.continuity_restored hm hr]
      exact ⟨rfl, rfl⟩
    · rw [fdu, Fdu.continuity_passed h]
      exact ⟨rfl, rfl⟩
  · have hdue : (1 ≤ a && dueAt s.now (s.fdu.device a).walk) = true := by
      simp [Fdu.device_eq hdev, hw, dueAt, ha, hx]
    obtain ⟨t, he, only, fdu, -⟩ := event_putFdu (c := .walkIndicationExpiry a)
      (o := FduOut.of (s.fdu.modifyDevice a fun d => { d with walk := none })) hh hdue rfl rfl
    exact ⟨t, he, only, fdu.trans (Fdu.modifyDevice_eq hdev _)⟩

end Sys2Proof.Machine
end

section
/-!
What FDU's operations leave as it was, the zones' statuses once rederived, and an operation over every device; the isolation
of a zone and its end.
-/

namespace Sys2Proof.Machine

open Sys2Proof.Safety

/-! ## What a change of a device's record leaves as it was -/

theorem Fdu.offerWatch_frame (a : Nat) (f : Fdu) : f.offerWatch a =
    { f with watch := (f.offerWatch a).watch, watchPtr := (f.offerWatch a).watchPtr } := by
  unfold Fdu.offerWatch
  split
  · split <;> rfl
  · split <;> rfl

@[simp] theorem Fdu.offerWatch_devices (a : Nat) (f : Fdu) : (f.offerWatch a).devices = f.devices := by
  rw [Fdu.offerWatch_frame]

@[simp] theorem Fdu.offerWatch_isolation (a : Nat) (f : Fdu) : (f.offerWatch a).isolation = f.isolation := by
  rw [Fdu.offerWatch_frame]

@[simp] theorem Fdu.change_devices (c : Settings) (a : Nat) (cause : DeviceCause) (g : DeviceRecord → DeviceRecord) (f : Fdu) :
    (f.change c a cause g).fdu.devices = f.devices.modify (a - 1) g := Fdu.offerWatch_devices a _

@[simp] theorem Fdu.change_isolation (c : Settings) (a : Nat) (cause : DeviceCause) (g : DeviceRecord → DeviceRecord)
    (f : Fdu) : (f.change c a cause g).fdu.isolation = f.isolation := Fdu.offerWatch_isolation a _

theorem FduOut.andThen_fdu (o : FduOut) (g : Fdu → FduOut) : (o.andThen g).fdu = (g o.fdu).fdu := rfl

/-! ## Zones (R130, R131) -/

theorem zoneOk_eq_false {z : Nat} : zoneOk z = false ↔ z = 0 ∨ 16 < z := by
  simp [zoneOk]
  omega

theorem zoneOk_of_range {z : Nat} (h1 : 1 ≤ z) (h16 : z ≤ 16) : zoneOk z = true := by simp [zoneOk, h1, h16]

/-- A zone's status is the one derived, once the statuses are rederived. -/
theorem Fdu.rederive_zoneStatus (c : Settings) (f : Fdu) {x : Nat} (h1 : 1 ≤ x) (h16 : x ≤ 16) :
    (f.rederive c).fdu.zoneStatus x = (f.rederive c).fdu.derive c x := by
  have hx : fireZones[x - 1]? = some x := by
    rw [fireZones, List.getElem?_map, List.getElem?_range (by omega)]
    exact congrArg some (Nat.sub_add_cancel h1)
  show (fireZones.map fun z => f.derive c z).getD (x - 1) .normal = f.derive c x
  rw [List.getD_eq_getElem?_getD, List.getElem?_map, hx]
  rfl

/-! ## An operation over every device -/

theorem Fdu.eachDevice_fdu (g : Nat → Fdu → FduOut) (as : List Nat) (f : Fdu) :
    (Fdu.eachDevice g as f).fdu = as.foldl (fun f a => (g a f).fdu) f := by
  suffices h : ∀ o : FduOut, (as.foldl (fun o a => o.andThen (g a)) o).fdu = as.foldl (fun f a => (g a f).fdu) o.fdu from
    h (FduOut.of f)
  induction as with
  | nil => exact fun o => rfl
  | cons a as ih => exact fun o => ih _

/-- What each of the operations keeps, all of them keep. -/
theorem Fdu.eachDevice_keeps {α : Type} {p : Fdu → α} {g : Nat → Fdu → FduOut} (hg : ∀ a f, p (g a f).fdu = p f)
    (as : List Nat) (f : Fdu) : p (Fdu.eachDevice g as f).fdu = p f := by
  rw [Fdu.eachDevice_fdu]
  induction as generalizing f with
  | nil => rfl
  | cons a as ih => exact (ih _).trans (hg a f)

/-- A change of the device's own record, where the two functions agree on it. -/
theorem Fdu.modify_congr {a : Nat} {g q : DeviceRecord → DeviceRecord} {f : Fdu}
    (h : ∀ d, f.devices[a - 1]? = some d → g d = q d) : f.devices.modify (a - 1) g = f.devices.modify (a - 1) q := by
  rw [List.modify_eq_set_getElem?, List.modify_eq_set_getElem?]
  cases hd : f.devices[a - 1]? with
  | none => rfl
  | some d => simp [h d hd]

theorem Fdu.foldl_devices {g : Nat → Fdu → FduOut} {q : Nat → DeviceRecord → DeviceRecord}
    (hg : ∀ a f, (g a f).fdu.devices = f.devices.modify (a - 1) (q a)) {as : List Nat} (hn : as.Nodup)
    (h1 : ∀ a ∈ as, 1 ≤ a) (f : Fdu) (i : Nat) :
    (as.foldl (fun f a => (g a f).fdu) f).devices[i]? = if i + 1 ∈ as then f.devices[i]?.map (q (i + 1)) else f.devices[i]? := by
  induction as generalizing f with
  | nil => rfl
  | cons a as ih =>
    obtain ⟨ha, hn⟩ := List.nodup_cons.1 hn
    have ha1 : 1 ≤ a := h1 a (List.mem_cons_self ..)
    rw [List.foldl_cons, ih hn fun b hb => h1 b (List.mem_cons_of_mem _ hb), hg a f, List.getElem?_modify]
    by_cases hi : a = i + 1
    · subst hi
      simp [ha]
    · have h0 : a - 1 ≠ i := by omega
      have h2 : i + 1 ≠ a := fun e => hi e.symm
      simp [h0, h2]

theorem addresses_nodup : addresses.Nodup := List.Nodup.map (fun _ _ h => Nat.succ.inj h) List.nodup_range

theorem mem_addresses {a : Nat} : a ∈ addresses ↔ 1 ≤ a ∧ a ≤ 64 := by
  simp only [addresses, List.mem_map, List.mem_range]
  exact ⟨fun ⟨i, hi, e⟩ => by omega, fun h => ⟨a - 1, by omega, by omega⟩⟩

/-- An operation over every device that changes each one's own record changes all 64 of them. -/
theorem Fdu.eachDevice_devices {g : Nat → Fdu → FduOut} {q : Nat → DeviceRecord → DeviceRecord}
    (hg : ∀ a f, (g a f).fdu.devices = f.devices.modify (a - 1) (q a)) (f : Fdu) {i : Nat} (hi : i < 64) :
    (Fdu.eachDevice g addresses f).fdu.devices[i]? = f.devices[i]?.map (q (i + 1)) := by
  rw [Fdu.eachDevice_fdu, Fdu.foldl_devices hg addresses_nodup (fun a ha => (mem_addresses.1 ha).1),
    if_pos (mem_addresses.2 ⟨by omega, by omega⟩)]

/-! ## ZONE-ISOLATE (R123, R132) -/

/-- The record of a SMOKE or BEAM device of the zone at the start of its isolation (R123). -/
def quietRecord (c : Settings) (z a : Nat) (d : DeviceRecord) : DeviceRecord :=
  if (c.device a).zone = z ∧ isolable (c.device a).type then
    if d.state = .preAlarm then { d.clearCounts with state := .normal }
    else if d.state = .normal ∧ 0 < d.confirm then { d with confirm := 0 } else d
  else d

theorem Fdu.quieten_devices (c : Settings) (z a : Nat) (f : Fdu) :
    (f.quieten c z a).fdu.devices = f.devices.modify (a - 1) (quietRecord c z a) := by
  have same : (∀ d, f.devices[a - 1]? = some d → d = quietRecord c z a d) →
      f.devices = f.devices.modify (a - 1) (quietRecord c z a) := fun h => by
    rw [← Fdu.modify_congr (g := fun d => d) h]
    exact (List.modify_id ..).symm
  unfold Fdu.quieten
  dsimp only
  split
  · next hz =>
    split
    · next hp =>
      rw [Fdu.change_devices]
      exact Fdu.modify_congr fun d hd => by rw [Fdu.device_eq hd] at hp; simp only [quietRecord, if_pos hz, if_pos hp]
    · next hp =>
      split
      · next hn =>
        rw [Fdu.change_devices]
        exact Fdu.modify_congr fun d hd => by
          rw [Fdu.device_eq hd] at hp hn
          simp only [quietRecord, if_pos hz, if_neg hp, if_pos hn]
      · next hn =>
        exact same fun d hd => by
          rw [Fdu.device_eq hd] at hp hn
          simp only [quietRecord, if_pos hz, if_neg hp, if_neg hn]
  · next hz => exact same fun d _ => by simp only [quietRecord, if_neg hz]

/-- What an isolation leaves of the devices it is about. -/
theorem quietRecord_quiet {c : Settings} {z a : Nat} (hz : (c.device a).zone = z) (ht : isolable (c.device a).type = true)
    (d : DeviceRecord) : (quietRecord c z a d).state ≠ .preAlarm ∧
      ((quietRecord c z a d).state = .normal → (quietRecord c z a d).confirm = 0) := by
  rw [quietRecord, if_pos ⟨hz, ht⟩]
  split
  · exact ⟨(nomatch ·), fun _ => rfl⟩
  · next hp =>
    split
    · exact ⟨hp, fun _ => rfl⟩
    · next hn => exact ⟨hp, fun h => Nat.eq_zero_of_not_pos fun k => hn ⟨h, k⟩⟩

/-- Treating the devices at the start of an isolation touches neither the expiries nor the fire state record. -/
theorem Fdu.quieten_keeps (c : Settings) (z a : Nat) (f : Fdu) :
    ((f.quieten c z a).fdu.isolation, (f.quieten c z a).fdu.fire) = (f.isolation, f.fire) := by
  unfold Fdu.quieten
  dsimp only
  split
  · split
    · simp
    · split
      · simp
      · rfl
  · rfl

/-- Of a renewal nothing but the expiry moves. -/
theorem Fdu.isolate_renews {z : Nat} {f : Fdu} (h : f.isolated z = true) (c : Settings) (expiry : Nat) :
    f.isolate c z expiry = FduOut.of { f with isolation := f.isolation.set (z - 1) (some expiry) } := if_pos h

theorem Fdu.isolate_starts {z : Nat} {f : Fdu} (h : f.isolated z = false) (c : Settings) (expiry : Nat) :
    f.isolate c z expiry = (Fdu.eachDevice (Fdu.quieten c z) addresses
      { f with isolation := f.isolation.set (z - 1) (some expiry) }).andThen (Fdu.rederive c) := if_neg (by simp [h])

theorem Fdu.isolate_keeps (c : Settings) (z expiry : Nat) (f : Fdu) :
    ((f.isolate c z expiry).fdu.isolation, (f.isolate c z expiry).fdu.fire) =
      (f.isolation.set (z - 1) (some expiry), f.fire) := by
  cases h : f.isolated z
  · rw [Fdu.isolate_starts h]
    exact Fdu.eachDevice_keeps (p := fun f => (f.isolation, f.fire)) (Fdu.quieten_keeps c z) _ _
  · rw [Fdu.isolate_renews h]
    rfl

theorem State.decideIsolate_eq {z seconds : Nat} {s : State} (h1 : 1 ≤ z) (h16 : z ≤ 16) (hs : seconds ≠ 0)
    (hc : (s.settings.zone z).cls = .stage ∨ (s.settings.zone z).cls = .backstage) (hf : s.fireFull = false)
    (ha : s.fdu.zoneStatus z ≠ .alarm) (hw : s.fdu.underWalk z = false)
    (hl : s.fdu.isolated z = true ∨ s.fdu.isolatedCount < 4) :
    let o := s.fdu.isolate s.settings z (s.now + min 3600 seconds * 1000)
    s.decideIsolate z seconds = (s.putFdu o, .done (.isolated z (min 3600 seconds) (s.now + min 3600 seconds * 1000)
      o.fdu.isolatedCount)) := by
  have hcls : ¬ ((s.settings.zone z).cls = .auditorium ∨ (s.settings.zone z).cls = .front) := by
    rcases hc with hc | hc <;> simp [hc]
  have hlim : ¬ (s.fdu.isolated z = false ∧ 4 ≤ s.fdu.isolatedCount) := by
    rcases hl with hl | hl
    · simp [hl]
    · omega
  unfold State.decideIsolate
  rw [if_neg (by simp [zoneOk_of_range h1 h16, hs]), if_neg hcls, if_neg (by simp [hf, ha]), if_neg (by simp [hw]), if_neg hlim]
  rfl

/-! ## The end of an isolation (R133) -/

theorem Fdu.setExpiry_fdu (c : Settings) (z : Nat) (x : Option Nat) (f : Fdu) : (f.setExpiry c z x).fdu =
    { f with isolation := f.isolation.set (z - 1) x, status := (f.setExpiry c z x).fdu.status } := rfl

/-- The classes that an isolation is refused for are the two others. -/
theorem isolableClass {k : ZoneClass} (h : k = .stage ∨ k = .backstage) : ¬ (k = .auditorium ∨ k = .front) := by
  rcases h with rfl | rfl <;> decide

section
variable {z seconds : Nat} {s : State} (ha : Admits s) (h1 : 1 ≤ z) (h16 : z ≤ 16)
include ha h1 h16

/-- ZONE-ISOLATE accepted: the lease runs from now, and at the start of an isolation the zone's devices are quiet. -/
theorem execZoneIsolate_taken (hs : seconds ≠ 0)
    (hc : (s.settings.zone z).cls = .stage ∨ (s.settings.zone z).cls = .backstage) (hf : s.fireFull = false)
    (hz : s.fdu.zoneStatus z ≠ .alarm) (hw : s.fdu.underWalk z = false)
    (hl : s.fdu.isolated z = true ∨ s.fdu.isolatedCount < 4) :
    ∃ t, exec (.zoneIsolate z seconds) s = .next t ∧ Only [.fire, .link, .lines, .draws] s t ∧
      t.fdu = (s.fdu.isolate s.settings z (s.now + min 3600 seconds * 1000)).fdu ∧
      ∃ bs, Replies s .zoneIsolate (.done (.isolated z (min 3600 seconds) (s.now + min 3600 seconds * 1000)
        t.fdu.isolatedCount)) bs t := by
  obtain ⟨t, he, only, fdu, replies⟩ := exec_putFdu (c := .zoneIsolate z seconds) ha rfl
    (State.decideIsolate_eq (s := s.hunting) h1 h16 hs hc hf hz hw hl)
  exact ⟨t, he, only, fdu, _, fdu ▸ replies⟩

/-- ZONE-RESTORE accepted (R133). -/
theorem execZoneRestore_taken (hi : s.fdu.isolated z = true) :
    ∃ t, exec (.zoneRestore z) s = .next t ∧ Only [.fire, .link, .lines, .draws] s t ∧
      t.fdu = (s.fdu.setExpiry s.settings z none).fdu ∧
      Replies s .zoneRestore (.done .empty) (s.fdu.setExpiry s.settings z none).notes t := by
  refine exec_putFdu ha rfl ?_
  unfold State.decideZoneRestore
  rw [if_neg (by simp [zoneOk_of_range h1 h16]), if_neg (by simp [hi])]
  rfl

end

/-- Settles O44: each refusal by the first check that fails, an acceptance by what the operation leaves of each device, and
both ends of an isolation by the one operation. -/
theorem zoneIsolation : Obligations.ZoneIsolation := by
  refine ⟨fun z seconds s ha => ⟨fun h => ?_, fun h1 h16 hs => ?_⟩, fun z s => ⟨fun ha => ⟨fun h => ?_, fun h1 h16 hi => ?_,
    fun h1 h16 hi => ?_⟩, fun x hh h1 h16 hx hd => ?_⟩⟩
  · refine refuses_of_decided ha rfl (if_pos ?_)
    rw [zoneOk_eq_false, or_assoc]
    exact h
  · have hok := zoneOk_of_range h1 h16
    refine ⟨fun hc => refuses_of_decided ha rfl (by simp [State.decideIsolate, hok, hs, hc]), fun hc => ?_⟩
    have hk := isolableClass hc
    refine ⟨fun h => refuses_of_decided ha rfl (by simp [State.decideIsolate, hok, hs, hk, h]), fun hf hz => ?_⟩
    refine ⟨fun hw => refuses_of_decided ha rfl (by simp [State.decideIsolate, hok, hs, hk, hf, hz, hw]), fun hw => ?_⟩
    refine ⟨fun hi hl => refuses_of_decided ha rfl (by simp [State.decideIsolate, hok, hs, hk, hf, hz, hw, hi, hl]),
      fun hl => ?_⟩
    obtain ⟨t, he, only, fdu, replies⟩ := execZoneIsolate_taken ha h1 h16 hs hc hf hz hw hl
    have keeps := Fdu.isolate_keeps s.settings z (s.now + min 3600 seconds * 1000) s.fdu
    rw [← fdu, Prod.mk.injEq] at keeps
    refine ⟨t, he, only, keeps.1, keeps.2, fun hi => ?_, fun hi x hx1 hx16 => ?_, fun hi i d hlt hd hzone ht => ?_, replies⟩
    · rw [fdu, Fdu.isolate_renews hi]
      exact ⟨rfl, rfl, rfl⟩
    · rw [fdu, Fdu.isolate_starts hi, FduOut.andThen_fdu]
      exact Fdu.rederive_zoneStatus _ _ hx1 hx16
    · rw [fdu, Fdu.isolate_starts hi] at hd
      have hdev := Fdu.eachDevice_devices (Fdu.quieten_devices s.settings z)
        { s.fdu with isolation := s.fdu.isolation.set (z - 1) (some (s.now + min 3600 seconds * 1000)) } hlt
      obtain ⟨d₀, -, rfl⟩ := Option.map_eq_some_iff.1 (hdev.symm.trans hd)
      exact quietRecord_quiet hzone ((isolable_iff _).2 ht) d₀
  · exact refuses_of_decided ha rfl (if_pos (zoneOk_eq_false.2 h))
  · exact refuses_of_decided ha rfl (by simp [State.decideZoneRestore, zoneOk_of_range h1 h16, hi])
  · obtain ⟨t, he, only, fdu, replies⟩ := execZoneRestore_taken ha h1 h16 hi
    refine ⟨t, _, he, only, ?_, fun x hx1 hx16 => ?_, replies⟩ <;> rw [fdu]
    · exact Fdu.setExpiry_fdu ..
    · exact Fdu.rederive_zoneStatus _ _ hx1 hx16
  · have hdue : (zoneOk z && dueAt s.now (s.fdu.expiry z)) = true := by simp [zoneOk_of_range h1 h16, hx, dueAt, hd]
    obtain ⟨t, he, only, fdu, sends⟩ := event_putFdu (c := .isolationExpiry z) (o := s.fdu.setExpiry s.settings z none) hh hdue
      rfl rfl
    refine ⟨t, _, he, only, ?_, fun x hx1 hx16 => ?_, sends⟩ <;> rw [fdu]
    · exact Fdu.setExpiry_fdu ..
    · exact Fdu.rederive_zoneStatus _ _ hx1 hx16

end Sys2Proof.Machine
end

section
/-!
FIRE-SILENCE and FIRE-RESET: the cancel of a call that FDU keeps, and the devices in ALARM that are ordered to return.
-/

namespace Sys2Proof.Safety

open Sys2Proof.Machine

/-! ## What no reaction touches in FDU -/

section
variable {s t : State} (h : Untouched s t)
include h

theorem Untouched.devices : t.fdu.devices = s.fdu.devices := by rw [h.fire]; rfl
theorem Untouched.isolation : t.fdu.isolation = s.fdu.isolation := by rw [h.fire]; rfl
theorem Untouched.watch : t.fdu.watch = s.fdu.watch := by rw [h.fire]; rfl
theorem Untouched.fireRecord : t.fdu.fire =
    { s.fdu.fire with staffCall := t.fdu.fire.staffCall, evacCall := t.fdu.fire.evacCall } := congrArg Fdu.fire h.fire
theorem Untouched.fireState : t.fdu.fire.state = s.fdu.fire.state := by rw [h.fireRecord]
theorem Untouched.silenced : t.fdu.fire.silenced = s.fdu.fire.silenced := by rw [h.fireRecord]
theorem Untouched.first : t.fdu.fire.first = s.fdu.fire.first := by rw [h.fireRecord]
theorem Untouched.count : t.fdu.fire.count = s.fdu.fire.count := by rw [h.fireRecord]
theorem Untouched.cause : t.fdu.fire.cause = s.fdu.fire.cause := by rw [h.fireRecord]
theorem Untouched.timer : t.fdu.fire.timer = s.fdu.fire.timer := by rw [h.fireRecord]
theorem Untouched.entry : t.fdu.fire.entry = s.fdu.fire.entry := by rw [h.fireRecord]

end

end Sys2Proof.Safety

namespace Sys2Proof.Machine

open Sys2Proof.Safety

/-! ## A kept call that is cancelled (R169) -/

theorem Clu.find_id {c : Clu} {i : Nat} {e : CallEntry} (h : c.find i = some e) : e.id = i := by
  simpa using List.find?_some (show c.entries.find? (fun e => decide (e.id = i)) = some e from h)

theorem Clu.cancel_entries (now : Nat) (e : CallEntry) (c : Clu) :
    (c.cancel now e).clu.entries = c.entries.filter fun f => f.id ≠ e.id := by
  unfold Clu.cancel
  split <;> rfl

theorem Clu.Unbarred.cancel {phase : Phase} {c : Clu} (h : c.Unbarred phase) (now : Nat) (e : CallEntry) :
    (c.cancel now e).clu.Unbarred phase := by
  unfold Clu.cancel
  split
  · exact Clu.Unbarred.remove (c := c.stop now) h e _
  · exact h.remove e _

/-- An operation of CLU that leaves no audience relay denied leaves the gates of the other blocks as they stand (R174). -/
theorem State.putClu_regate_ilu {s : State} (h : s.Current) {o : CluOut} (hu : o.clu.Unbarred s.phase) :
    (s.putClu o).regate.ilu.hoist = s.ilu.hoist ∧ (s.putClu o).regate.ilu.release = s.ilu.release ∧
      (s.putClu o).regate.ilu.relay = s.ilu.relay := by
  have hn : ∀ g : Ilu, s.ilu.next s.iluView = g → (s.putClu o).gates.ilu.hoist = g.hoist ∧
      (s.putClu o).gates.ilu.release = g.release ∧ (s.putClu o).gates.ilu.relay = g.relay := by
    rintro g rfl
    exact ⟨rfl, rfl, rfl⟩
  rw [State.putClu_regate h hu]
  exact hn s.ilu h.1

/-- The cancel of a kept call takes its entry from the queue and leaves the safety outputs. -/
theorem State.cancelKept_some {s : State} (h : s.Current) (hq : QueueOk s.clu) (i : Nat) :
    (s.cancelKept (some i)).1.clu.entries = s.clu.entries.filter (fun f => f.id ≠ i) ∧
      (s.cancelKept (some i)).1.ilu.hoist = s.ilu.hoist ∧ (s.cancelKept (some i)).1.ilu.release = s.ilu.release ∧
      (s.cancelKept (some i)).1.ilu.relay = s.ilu.relay := by
  unfold State.cancelKept
  dsimp only
  split
  · next e he =>
    have hid : e.id = i := Clu.find_id he
    have hu := (h.unbarred hq).cancel s.now e
    refine ⟨?_, State.putClu_regate_ilu h hu⟩
    show (s.putClu (s.clu.cancel s.now e)).regate.clu.entries = _
    rw [State.putClu_regate h hu, ← hid]
    exact Clu.cancel_entries ..
  · next hn =>
    refine ⟨(List.filter_eq_self.2 fun f hf => ?_).symm, rfl, rfl, rfl⟩
    simpa using List.find?_eq_none.1 hn f hf

/-! ## FIRE-SILENCE (R142, R145) -/

/-- FDU's record with the sounders silenced. -/
def State.silenced (s : State) : State := { s with fdu := s.fdu.setFire { s.fdu.fire with silenced := true } }

/-- FIRE-SILENCE accepted: the record stands but for SILENCED, and for the ids of calls that CLU reports removed. -/
theorem execFireSilence_taken {s : State} (ha : Admits s) (hf : s.fireFull = true) (hs : s.fdu.fire.silenced = false)
    (hg : GatesCurrent s) : ∃ t, exec .fireSilence s = .next t ∧ Only [.fire, .calls, .gates, .link, .lines, .draws] s t ∧
      (∃ w, w = (s.hunting.silenced.cancelKept s.fdu.fire.evacCall).1 ∧ Untouched s.hunting.silenced w ∧
        t.fdu = w.fdu ∧ t.clu = w.clu ∧ t.ilu = w.ilu) ∧
      t.lines.sounders = List.replicate 4 false ∧ ∃ bs, Replies s .fireSilence (.done .empty) bs t := by
  have hd : s.hunting.decideFireSilence = _ := State.decideFireSilence_eq (s := s.hunting) hf hs
  have he := exec_of_decided (c := .fireSilence) ha rfl hd
  have hcur : s.hunting.silenced.Current := State.hunting_current (hg ha.released)
  have only := State.cancelKept_only hcur.relayCurrent s.fdu.fire.evacCall
  have kept := State.cancelKept_kept s.fdu.fire.evacCall s.hunting.silenced
  generalize hw : s.hunting.silenced.cancelKept s.fdu.fire.evacCall = w at only kept
  have he' : exec .fireSilence s =
      .next ((w.1.notify (w.1.fdu.fire.note .full w.2 .absent)).replied .fireSilence (.done .empty)) := by
    rw [he, ← hw]
    rfl
  have hsil : w.1.fdu.fire.silenced = true := kept.untouched.silenced
  obtain ⟨bs, hbs⟩ := kept.notices
  refine ⟨_, he', ?_, ⟨w.1, rfl, kept.untouched, rfl, rfl, rfl⟩, ?_, bs ++ [w.1.fdu.fire.note .full w.2 .absent],
    State.replied_replies ?_ _ _⟩
  · refine (Only.replied (ps := [.fire, .calls, .gates, .link]) ?_ _ _).mono (by decide)
    exact (((State.setFdu_only _ _).mono (by decide)).trans only).trans ((State.notifyAll_only [_] w.1).mono (by decide))
  · show List.replicate 4 w.1.fdu.fire.sounding = _
    rw [FireRecord.sounding, hsil, Bool.not_true, Bool.and_false]
  · have hnow : w.1.now = s.now := only .uptime (by decide)
    rw [← State.notifyAll_append]
    simp only [State.notify, State.notifyAll, hbs, hnow]
    rfl

/-! ## Devices ordered to return (R120, R139, R144) -/

/-- A device in ALARM returns to NORMAL, or to FAULT where its mismatch is latched (R120). -/
def DeviceRecord.returned (d : DeviceRecord) : DeviceRecord :=
  if d.state = .alarm then { d.clearCounts with state := if d.mismatch then .fault else .normal } else d

theorem Fdu.orderReturn_devices (c : Settings) (a : Nat) (f : Fdu) :
    (f.orderReturn c a).fdu.devices = f.devices.modify (a - 1) DeviceRecord.returned := by
  unfold Fdu.orderReturn
  split
  · next h =>
    rw [Fdu.change_devices]
    exact Fdu.modify_congr fun d hd => by rw [Fdu.device_eq hd] at h; exact (if_pos h).symm
  · next h =>
    show f.devices = _
    rw [← Fdu.modify_congr (g := fun d => d) fun d hd => by rw [Fdu.device_eq hd] at h; exact (if_neg h).symm]
    exact (List.modify_id ..).symm

/-- The order to return leaves the isolations, and the size of the device table. -/
theorem Fdu.orderReturn_keeps (c : Settings) (a : Nat) (f : Fdu) :
    ((f.orderReturn c a).fdu.isolation, (f.orderReturn c a).fdu.devices.length) = (f.isolation, f.devices.length) := by
  rw [Fdu.orderReturn_devices, List.length_modify]
  unfold Fdu.orderReturn
  split
  · rw [Fdu.change_isolation]
  · rfl

theorem Fdu.orderReturns_devices {f : Fdu} (h : f.devices.length = 64) (c : Settings) :
    (Fdu.eachDevice (Fdu.orderReturn c) addresses f).fdu.devices = f.devices.map DeviceRecord.returned := by
  have hl : (Fdu.eachDevice (Fdu.orderReturn c) addresses f).fdu.devices.length = f.devices.length :=
    Fdu.eachDevice_keeps (p := fun f => f.devices.length)
      (fun a f => (Prod.mk.inj (Fdu.orderReturn_keeps c a f)).2) _ _
  refine List.ext_getElem? fun i => ?_
  rw [List.getElem?_map]
  by_cases hi : i < 64
  · exact Fdu.eachDevice_devices (Fdu.orderReturn_devices c) f hi
  · rw [List.getElem?_eq_none (by omega), List.getElem?_eq_none (by omega)]
    rfl

theorem Fdu.orderReturns_isolation (c : Settings) (f : Fdu) :
    (Fdu.eachDevice (Fdu.orderReturn c) addresses f).fdu.isolation = f.isolation :=
  Fdu.eachDevice_keeps (p := Fdu.isolation) (fun a f => (Prod.mk.inj (Fdu.orderReturn_keeps c a f)).1) _ _

/-! ## FIRE-RESET (R139, R144) -/

theorem valueJudged_iff (t : DeviceType) : valueJudged t = true ↔ t = .smoke ∨ t = .heat ∨ t = .beam := by
  cases t <;> simp [valueJudged]

theorem DeviceRecord.readsClear_iff (e : DeviceConfig) (d : DeviceRecord) : d.readsClear e = true ↔
    d.operated = false ∧ (e.type = .smoke ∨ e.type = .heat ∨ e.type = .beam → d.value < e.preAlarm) := by
  simp only [DeviceRecord.readsClear, ← valueJudged_iff]
  cases valueJudged e.type <;> simp

theorem Fdu.allClear_iff (c : Settings) (f : Fdu) : f.allClear c = true ↔
    ∀ a, 1 ≤ a → a ≤ 64 → (f.device a).state = .alarm → (f.device a).readsClear (c.device a) = true := by
  simp only [Fdu.allClear, List.all_eq_true, mem_addresses, Bool.or_eq_true, decide_eq_true_eq]
  exact ⟨fun h a h1 h64 hs => (h a ⟨h1, h64⟩).resolve_left fun k => k hs, fun h a ha =>
    or_iff_not_imp_left.2 fun hs => h a ha.1 ha.2 (not_not.1 hs)⟩

theorem State.resetFire_kept (s : State) : Kept s.fireQuieted s.resetFire :=
  ((State.cancelKept_kept _ _).trans (State.notify_kept _ _)).trans (State.regate_kept _)

theorem State.resetFire_eq (s : State) : ∃ id b, s.resetFire = ((s.fireQuieted.cancelKept id).1.notify b).regate :=
  ⟨_, _, rfl⟩

theorem State.resetFire_pfu (s : State) : s.resetFire.pfu = s.pfu := by
  obtain ⟨id, b, h⟩ := s.resetFire_eq
  rw [h, State.regate_pfu, State.notify_pfu, State.cancelKept_pfu, State.fireQuieted_pfu]

theorem State.resetFire_ctc (s : State) : s.resetFire.ctc = s.ctc := by
  obtain ⟨id, b, h⟩ := s.resetFire_eq
  rw [h, State.regate_ctc, State.notify_ctc, State.cancelKept_ctc]
  simp [State.fireQuieted]

theorem State.notifyAll_putFdu (s : State) (o : FduOut) (g : Fdu) (bs : List NoticeBody) :
    (State.notifyAll bs { s.putFdu o with fdu := g }).lp = (s.notifyAll (o.notes ++ bs)).lp := by
  rw [← State.notifyAll_append]
  rfl

theorem State.resetFire_notices (s : State) : ∃ bs, s.resetFire.lp = (s.notifyAll bs).lp := by
  obtain ⟨bs, hbs⟩ := s.resetFire_kept.notices
  rw [hbs, State.fireQuieted]
  exact ⟨_, State.notifyAll_putFdu ..⟩

/-- What a reset makes of FDU but for the calls that FDU keeps. -/
theorem State.fireQuieted_fdu (s : State) :
    s.fireQuieted.fdu.devices = (Fdu.eachDevice (Fdu.orderReturn s.settings) addresses s.fdu).fdu.devices ∧
      s.fireQuieted.fdu.isolation = s.fdu.isolation ∧ ∃ r, s.fireQuieted.fdu.fire = FireRecord.quiet s.now r := by
  refine ⟨by simp [State.fireQuieted], ?_, (s.putFdu (Fdu.eachDevice (Fdu.orderReturn s.settings) addresses s.fdu)).fdu.fire,
    by simp only [State.fireQuieted, Fdu.setFire_fire, State.putFdu_now]⟩
  simp only [State.fireQuieted, Fdu.setFire_isolation, State.putFdu_fdu, Fdu.orderReturns_isolation]

theorem State.fireQuieted_frame (s : State) : Only [.fire, .link] s s.fireQuieted := by
  intro p hp
  cases p <;> simp_all [Part.same, State.fireQuieted]

/-- FIRE-RESET accepted. -/
theorem State.decideFireReset_eq {s : State} (hq : s.fdu.fire.state ≠ .quiet)
    (hs : s.fireFull = false ∨ s.fdu.fire.silenced = true) (hc : s.fdu.allClear s.settings = true) :
    s.decideFireReset = (s.resetFire, .done .empty) := by
  have hn : ¬ (s.fdu.fire.state = .quiet ∨ (s.fdu.fire.state = .full ∧ s.fdu.fire.silenced = false)) := by
    rintro (h | ⟨h, k⟩)
    · exact hq h
    · rcases hs with hs | hs
      · exact of_decide_eq_false hs h
      · simp [k] at hs
  unfold State.decideFireReset
  rw [if_neg hn, if_neg (by simp [hc])]

/-- Settles O46: the silence by the cancel it makes, and the reset by what becomes of each device. -/
theorem fireSilenceAndReset : Obligations.FireSilenceAndReset := by
  refine ⟨fun s ha => ⟨fun hf hs hg hq => ?_, fun h => refuses_of_decided ha rfl (State.decideFireSilence_refused h)⟩,
    fun s ha => ⟨fun h => ?_, fun hq hs => ⟨fun h => ?_, fun h hl => ?_⟩⟩⟩
  · obtain ⟨t, he, only, ⟨w, rfl, untouched, fdu, clu, ilu⟩, sounders, replies⟩ := execFireSilence_taken ha hf hs hg
    have hcur : s.hunting.silenced.Current := State.hunting_current (hg ha.released)
    have hstate : t.fdu.fire.state = .full := fdu ▸ untouched.fireState.trans (of_decide_eq_true hf)
    have hgates : t.ilu.hoist = s.ilu.hoist ∧ t.ilu.release = s.ilu.release ∧ t.ilu.relay = s.ilu.relay := by
      rw [ilu]
      cases hi : s.fdu.fire.evacCall with
      | none => exact ⟨rfl, rfl, rfl⟩
      | some i => exact (State.cancelKept_some hcur hq i).2
    refine ⟨t, he, only, decide_eq_true hstate, fdu ▸ untouched.silenced, fdu ▸ untouched.devices, fdu ▸ untouched.isolation,
      fdu ▸ untouched.first, fdu ▸ untouched.count, sounders, hgates.1, hgates.2.1, hgates.2.2, fun hn => ?_, fun i hi => ?_,
      replies⟩
    · rw [clu, hn]
      rfl
    · have hent := (State.cancelKept_some hcur hq i).1
      rw [← hi, ← clu] at hent
      rw [hent]
      refine ⟨fun e h => by simpa using (List.mem_filter.1 h).2, fun e h hne => ⟨e, List.mem_filter.2 ⟨h, ?_⟩, rfl, rfl⟩⟩
      simpa using hne
  · refine refuses_of_decided ha rfl (if_pos ?_)
    exact h.imp id fun k => ⟨of_decide_eq_true k.1, k.2⟩
  · obtain ⟨a, h1, h64, halarm, hnot⟩ := h
    have hc : s.fdu.allClear s.settings = false := Bool.eq_false_iff.2 fun hc => by
      obtain ⟨hop, hval⟩ := (DeviceRecord.readsClear_iff _ _).1 ((Fdu.allClear_iff _ _).1 hc a h1 h64 halarm)
      rcases hnot with hnot | ⟨htype, hv⟩
      · simp [hop] at hnot
      · exact absurd (hval htype) (not_lt.2 hv)
    refine refuses_of_decided ha rfl ?_
    unfold State.decideFireReset
    rw [if_neg, if_pos (show s.hunting.fdu.allClear s.hunting.settings = false from hc)]
    rintro (k | ⟨k, l⟩)
    · exact hq k
    · rcases hs with hs | hs
      · exact of_decide_eq_false hs k
      · exact absurd (l.symm.trans hs) (by decide)
  · have hc : s.fdu.allClear s.settings = true := (Fdu.allClear_iff _ _).2 fun a h1 h64 hs =>
      (DeviceRecord.readsClear_iff _ _).2 (h a h1 h64 hs)
    have he := exec_of_decided (c := .fireReset) ha rfl (State.decideFireReset_eq (s := s.hunting) hq hs hc)
    have hu := s.hunting.resetFire_kept.untouched
    have hret := Fdu.orderReturns_devices (f := s.hunting.fdu) hl s.hunting.settings
    have hp := s.hunting.resetFire_pfu
    have hctc := s.hunting.resetFire_ctc
    obtain ⟨bs, hbs⟩ := s.hunting.resetFire_notices
    obtain ⟨hdev, hiso, r, hr⟩ := s.hunting.fireQuieted_fdu
    replace hdev := hdev.trans hret
    have hq := s.hunting.fireQuieted_frame
    generalize s.hunting.resetFire = u at he hu hp hctc hbs
    generalize s.hunting.fireQuieted = v at hu hdev hiso hr hq
    refine ⟨_, he, hu.settings.trans (hq .settings (by decide)), hu.store.trans (hq .store (by decide)),
      hp, hctc, hu.dsu.trans (hq .desk (by decide)),
      hu.lmu.trans (hq .monitor (by decide)), hu.isolation.trans hiso, hu.fireState.trans ?_, hu.silenced.trans ?_,
      hu.first.trans ?_, hu.count.trans ?_, hu.cause.trans ?_, hu.timer.trans ?_, hu.entry.trans ?_,
      hu.devices.trans hdev, bs, State.replied_replies hbs _ _⟩
    all_goals rw [hr]; rfl

end Sys2Proof.Machine
end

section
/-!
The record of one device: what each operation of FDU makes of it, of the watch list and of the notices, one equation for each
case of the evaluation of a good reply (R115 to R119, R121).
-/

namespace Sys2Proof.Machine

open Sys2Proof.Safety

/-! ## One device's record set -/

/-- FDU with the record of address `a` as given. -/
def Fdu.put (a : Nat) (d : DeviceRecord) (f : Fdu) : Fdu := { f with devices := f.devices.set (a - 1) d }

/-- The watch list after the device is offered to it (R121). -/
def offered (a : Nat) (d : DeviceRecord) (w : List Nat) : List Nat :=
  if d.qualifies then if a ∈ w ∨ 8 ≤ w.length then w else w ++ [a] else w.erase a

theorem Fdu.put_self {a : Nat} {d : DeviceRecord} {f : Fdu} (h : f.devices[a - 1]? = some d) : f.put a d = f := by
  obtain ⟨hlt, rfl⟩ := List.getElem?_eq_some_iff.1 h
  rw [Fdu.put, List.set_getElem_self]

@[simp] theorem Fdu.put_put (a : Nat) (d e : DeviceRecord) (f : Fdu) : (f.put a d).put a e = f.put a e := by
  simp [Fdu.put]

theorem Fdu.isolated_congr {f g : Fdu} (h : g.isolation = f.isolation) (z : Nat) : g.isolated z = f.isolated z := by
  simp only [Fdu.isolated, Fdu.expiry, h]

section
variable {a : Nat} {f : Fdu} (hlt : a - 1 < f.devices.length)
include hlt

theorem Fdu.put_getElem? (d : DeviceRecord) : (f.put a d).devices[a - 1]? = some d := by simp [Fdu.put, hlt]

theorem Fdu.put_device (d : DeviceRecord) : (f.put a d).device a = d := Fdu.device_eq (Fdu.put_getElem? hlt d)

theorem Fdu.put_modify (d : DeviceRecord) (g : DeviceRecord → DeviceRecord) : (f.put a d).modifyDevice a g = f.put a (g d) := by
  rw [Fdu.modifyDevice_eq (Fdu.put_getElem? hlt d)]
  exact Fdu.put_put a d (g d) f

end

/-! ## The watch list (R121) -/

theorem Fdu.offerWatch_watch (a : Nat) (f : Fdu) : (f.offerWatch a).watch = offered a (f.device a) f.watch := by
  unfold Fdu.offerWatch offered
  split
  · split
    · next h =>
      obtain ⟨hm, hl⟩ := h
      rw [if_neg]
      simpa using And.intro (by simpa using hm) hl
    · next h =>
      rw [if_pos]
      by_contra hn
      refine h ⟨?_, ?_⟩
      · simpa using fun hm => hn (.inl hm)
      · exact Nat.lt_of_not_le fun hl => hn (.inr hl)
  · split
    · rfl
    · next h => exact (List.erase_of_not_mem (by simpa using h)).symm

/-- A device offered twice stands as it does after the first time. -/
theorem offered_offered {w : List Nat} (hn : w.Nodup) (a : Nat) (d : DeviceRecord) :
    offered a d (offered a d w) = offered a d w := by
  unfold offered
  split
  · split
    · rfl
    · next h => exact if_pos (.inl (List.mem_append_right _ (List.mem_singleton_self a)))
  · exact List.erase_of_not_mem fun h => (hn.mem_erase_iff.1 h).1 rfl

theorem offered_joins {d : DeviceRecord} (h : d.qualifies = true) (a : Nat) (w : List Nat) :
    offered a d w = if a ∈ w ∨ 8 ≤ w.length then w else w ++ [a] := if_pos h

theorem offered_leaves {d : DeviceRecord} (h : d.qualifies = false) (a : Nat) (w : List Nat) : offered a d w = w.erase a :=
  if_neg (by simp [h])

theorem qualifies_iff (d : DeviceRecord) :
    d.qualifies = true ↔ d.state = .preAlarm ∨ (d.state = .normal ∧ 0 < d.confirm) := by simp [DeviceRecord.qualifies]

/-! ## What an operation on one device comes to -/

/-- FDU stands as it did but for the record of device `a`, the watch list with its pointer, and the zones' statuses. -/
structure Fdu.Judged (a : Nat) (d : DeviceRecord) (w : List Nat) (f g : Fdu) : Prop where
  devices : g.devices = f.devices.set (a - 1) d
  watch   : g.watch = w
  frame   : g = { f with devices := g.devices, watch := g.watch, watchPtr := g.watchPtr, status := g.status }

theorem Fdu.put_judged (a : Nat) (d : DeviceRecord) (f : Fdu) : Fdu.Judged a d f.watch f (f.put a d) := ⟨rfl, rfl, rfl⟩

section
variable {a : Nat} {d : DeviceRecord} {w : List Nat} {f g : Fdu} (h : Fdu.Judged a d w f g)
include h

theorem Fdu.Judged.trans {e : DeviceRecord} {v : List Nat} {k : Fdu} (hk : Fdu.Judged a e v g k) : Fdu.Judged a e v f k :=
  ⟨by rw [hk.devices, h.devices, List.set_set], hk.watch, by rw [hk.frame, h.frame]⟩

theorem Fdu.Judged.isolation : g.isolation = f.isolation := by rw [h.frame]
theorem Fdu.Judged.fire : g.fire = f.fire := by rw [h.frame]

theorem Fdu.Judged.rederive (c : Settings) : Fdu.Judged a d w f (g.rederive c).fdu :=
  ⟨h.devices, h.watch, by rw [h.frame]; rfl⟩

variable (hlt : a - 1 < f.devices.length)
include hlt

theorem Fdu.Judged.lt : a - 1 < g.devices.length := by rwa [h.devices, List.length_set]

theorem Fdu.Judged.getElem? : g.devices[a - 1]? = some d := by simp [h.devices, hlt]

theorem Fdu.Judged.offer : Fdu.Judged a d (offered a d w) f (g.offerWatch a) := by
  refine ⟨(Fdu.offerWatch_devices a g).trans h.devices, ?_, ?_⟩
  · rw [Fdu.offerWatch_watch, Fdu.device_eq (h.getElem? hlt), h.watch]
  · rw [Fdu.offerWatch_frame, h.frame]

end

theorem Fdu.rederive_notes (c : Settings) (f : Fdu) : ∀ b ∈ (f.rederive c).notes, ∃ z k x y o, b = .zone z k x y o := by
  intro b hb
  obtain ⟨z, -, rfl⟩ := List.mem_map.1 hb
  exact ⟨_, _, _, _, _, rfl⟩

section
variable {a : Nat} {f : Fdu} (hlt : a - 1 < f.devices.length) (c : Settings) (cause : DeviceCause) (d : DeviceRecord)
  (q : DeviceRecord → DeviceRecord)
include hlt

/-- A change of the record of a device: its place on the watch list and its zone's status follow. -/
theorem Fdu.change_judged : Fdu.Judged a (q d) (offered a (q d) f.watch) f ((f.put a d).change c a cause q).fdu := by
  have h := ((f.put_judged a (q d)).offer hlt).rederive c
  rw [← Fdu.put_modify hlt d q] at h
  exact h

/-- A change of state sends its DEVICE notice first (R127). -/
theorem Fdu.change_notes (hs : (q d).state ≠ d.state) : ∃ zs, ((f.put a d).change c a cause q).notes =
    .device a (c.device a).zone (c.device a).type d.state (q d).state (q d).value (q d).operated (q d).fault (q d).test cause ::
      zs := by
  have hd := Fdu.put_device hlt d
  have hq : (((f.put a d).modifyDevice a q).offerWatch a).device a = q d := by
    rw [Fdu.put_modify hlt]
    exact Fdu.device_eq (((f.put_judged a (q d)).offer hlt).getElem? hlt)
  refine ⟨((((f.put a d).modifyDevice a q).offerWatch a).rederive c).notes, ?_⟩
  unfold Fdu.change
  dsimp only
  rw [hq, hd, if_neg hs]
  rfl

end

/-! ## Misses (R115) -/

section
variable {a : Nat} {f : Fdu} (hlt : a - 1 < f.devices.length) (c : Settings) (kind : PollKind) {d : DeviceRecord}
include hlt

/-- A miss that makes no device MISSING. -/
theorem Fdu.miss_counts (h : d.miss ≠ 2 ∨ d.state = .alarm ∨ d.state = .missing) : (f.put a d).miss c kind a =
    { fdu := f.put a { d with miss := min 3 (d.miss + 1), retry := d.retry || (kind ≠ .retry && d.state ≠ .missing) },
      notes := if d.miss = 2 ∧ d.state = .alarm then [notAnsweringNote c a d] else [], alarm := none } := by
  have h3 : ¬ (d.miss = 2 ∧ d.state ≠ .alarm ∧ d.state ≠ .missing) := by tauto
  unfold Fdu.miss
  simp only [Fdu.put_device hlt, Fdu.put_modify hlt, if_neg h3]
  split
  · next hr => simp [hr.1, hr.2]
  · next hr =>
    have hb : (decide (kind ≠ .retry) && decide (d.state ≠ .missing)) = false := by
      rw [Bool.and_eq_false_iff, decide_eq_false_iff_not, decide_eq_false_iff_not]
      tauto
    rw [hb, Bool.or_false]

/-- The third miss of a device that is not in ALARM. -/
theorem Fdu.miss_third (h2 : d.miss = 2) (ha : d.state ≠ .alarm) (hm : d.state ≠ .missing) : (f.put a d).miss c kind a =
    (f.put a d).change c a .threeMisses fun d => { d.clearRuns with state := .missing, miss := 3 } := by
  have hd : (((f.put a d).change c a .threeMisses fun d => { d.clearRuns with state := .missing, miss := 3 }).fdu.device a) =
      { d.clearRuns with state := .missing, miss := 3 } :=
    Fdu.device_eq ((Fdu.change_judged hlt c .threeMisses d _).getElem? hlt)
  unfold Fdu.miss
  simp only [Fdu.put_device hlt, if_pos (And.intro h2 (And.intro ha hm)), hd, ne_eq, not_true_eq_false, and_false, if_false]

end

/-! ## The steps of the evaluation (R116 to R119) -/

theorem confirmingNumber_ge (t : DeviceType) : 2 ≤ confirmingNumber t := by cases t <;> decide

/-- A device whose replies an isolation of its zone keeps from being judged (R123). -/
def Fdu.shields (c : Settings) (a : Nat) (f : Fdu) : Prop :=
  f.isolated (c.device a).zone = true ∧ isolable (c.device a).type = true

/-- A reply recorded in the device's record (R116). -/
def DeviceRecord.noted (r : LoopReply) (d : DeviceRecord) : DeviceRecord :=
  { d with value := r.value, operated := r.operated, fault := r.fault, test := r.test }

section
variable {a : Nat} {f : Fdu} (hlt : a - 1 < f.devices.length) {c : Settings} {now : Nat} {r : LoopReply} {d : DeviceRecord}
include hlt

/-! ### PRE-ALARM (R119) -/

omit hlt in
theorem Fdu.preAlarmStep_unjudged (h : valueJudged (c.device a).type = false) (f : Fdu) :
    f.preAlarmStep c a = FduOut.of f := if_pos h

theorem Fdu.preAlarmStep_enters (hv : valueJudged (c.device a).type = true) (hs : d.state = .normal)
    (hp : (c.device a).preAlarm ≤ d.value) : (f.put a d).preAlarmStep c a =
      (f.put a d).change c a .thresholdUp fun d => { d with state := .preAlarm, clear := 0 } := by
  simp [Fdu.preAlarmStep, hv, Fdu.put_device hlt, hs, hp]

theorem Fdu.preAlarmStep_below (hs : d.state = .normal) (hp : d.value < (c.device a).preAlarm) :
    (f.put a d).preAlarmStep c a = FduOut.of (f.put a d) := by
  simp [Fdu.preAlarmStep, Fdu.put_device hlt, hs, not_le.2 hp]

theorem Fdu.preAlarmStep_counts (hv : valueJudged (c.device a).type = true) (hs : d.state = .preAlarm)
    (hp : d.value < (c.device a).preAlarm) (hc : d.clear = 0) :
    (f.put a d).preAlarmStep c a = FduOut.of (f.put a { d with clear := 1 }) := by
  simp [Fdu.preAlarmStep, hv, Fdu.put_device hlt, Fdu.put_modify hlt, hs, not_le.2 hp, hc]

theorem Fdu.preAlarmStep_leaves (hv : valueJudged (c.device a).type = true) (hs : d.state = .preAlarm)
    (hp : d.value < (c.device a).preAlarm) (hc : d.clear ≠ 0) : (f.put a d).preAlarmStep c a =
      (f.put a d).change c a .thresholdDown fun d => { d with state := .normal, clear := 0, confirm := 0 } := by
  simp [Fdu.preAlarmStep, hv, Fdu.put_device hlt, hs, not_le.2 hp, hc]

/-! ### The test flag, the isolation and the confirm count (R118, R123) -/

omit hlt in
/-- A reply with the test flag, or of a device that is shielded, ends at its step. -/
theorem Fdu.fromTestStep_ends (h : r.test = true ∨ f.shields c a) : f.fromTestStep c now a r = FduOut.of f := by
  unfold Fdu.fromTestStep
  dsimp only
  split
  · rfl
  · next ht => exact if_pos (h.resolve_left ht)

omit hlt in
/-- The confirm count after a reply that is judged (R118). -/
def DeviceRecord.counted (e : DeviceConfig) (r : LoopReply) (d : DeviceRecord) : DeviceRecord :=
  { d with confirm := if alarmCondition e r then d.confirm + 1 else 0 }

section
variable (ht : r.test = false) (hn : ¬ f.shields c a)
include ht hn

theorem Fdu.fromTestStep_judges : (f.put a d).fromTestStep c now a r =
    if (d.counted (c.device a) r).confirm = confirmingNumber (c.device a).type then
      if f.underWalk (c.device a).zone then (f.put a (d.counted (c.device a) r)).walkConfirm c now a
      else (f.put a (d.counted (c.device a) r)).enterAlarm c a
    else if r.fault then
      (f.put a (d.counted (c.device a) r)).change c a .deviceFault fun d => { d.clearRuns with state := .fault }
    else (f.put a (d.counted (c.device a) r)).preAlarmStep c a := by
  have hn' : ¬ ((f.put a d).isolated (c.device a).zone = true ∧ isolable (c.device a).type = true) := hn
  unfold Fdu.fromTestStep
  dsimp only
  rw [if_neg (by simp [ht]), if_neg hn', Fdu.put_device hlt, Fdu.put_modify hlt]
  rfl

theorem Fdu.fromTestStep_faults (hc : (d.counted (c.device a) r).confirm ≠ confirmingNumber (c.device a).type)
    (hf : r.fault = true) : (f.put a d).fromTestStep c now a r =
      (f.put a (d.counted (c.device a) r)).change c a .deviceFault fun d => { d.clearRuns with state := .fault } := by
  rw [Fdu.fromTestStep_judges hlt ht hn, if_neg hc, if_pos hf]

theorem Fdu.fromTestStep_passes (hc : (d.counted (c.device a) r).confirm ≠ confirmingNumber (c.device a).type)
    (hf : r.fault = false) : (f.put a d).fromTestStep c now a r = (f.put a (d.counted (c.device a) r)).preAlarmStep c a := by
  rw [Fdu.fromTestStep_judges hlt ht hn, if_neg hc, if_neg (by simp [hf])]

end

omit hlt in
/-- Without the alarm condition no reply confirms. -/
theorem DeviceRecord.counted_clear {e : DeviceConfig} (h : alarmCondition e r = false) (d : DeviceRecord) :
    d.counted e r = { d with confirm := 0 } := by simp [DeviceRecord.counted, h]

omit hlt in
theorem DeviceRecord.counted_ne {e : DeviceConfig} (h : alarmCondition e r = false) (d : DeviceRecord) :
    (d.counted e r).confirm ≠ confirmingNumber e.type := by
  rw [DeviceRecord.counted_clear h]
  have := confirmingNumber_ge e.type
  exact fun k => absurd (k ▸ this) (by simp)

/-! ### Recovery and the type step (R117) -/

theorem Fdu.recoveryStep_resets (h : r.fault = true ∨ r.test = true) :
    (f.put a d).recoveryStep c now a r = FduOut.of (f.put a { d with recovery := 0 }) := by
  unfold Fdu.recoveryStep
  rw [if_pos (by simpa using h), Fdu.put_modify hlt]

theorem Fdu.recoveryStep_counts (hf : r.fault = false) (ht : r.test = false) (hr : d.recovery = 0) :
    (f.put a d).recoveryStep c now a r = FduOut.of (f.put a { d with recovery := 1 }) := by
  unfold Fdu.recoveryStep
  rw [if_neg (by simp [hf, ht]), Fdu.put_device hlt, if_pos hr, Fdu.put_modify hlt]

theorem Fdu.recoveryStep_recovers (hf : r.fault = false) (ht : r.test = false) (hr : d.recovery ≠ 0) :
    (f.put a d).recoveryStep c now a r =
      ((f.put a d).change c a .recovered fun d => { d.clearCounts with state := .normal }).andThen
        (Fdu.fromTestStep c now a r) := by
  unfold Fdu.recoveryStep
  rw [if_neg (by simp [hf, ht]), Fdu.put_device hlt, if_neg hr]

omit hlt in
theorem Fdu.mismatchStep_known (h : r.type = .known (c.device a).type) (f : Fdu) : f.mismatchStep c a r = FduOut.of f :=
  if_pos h

theorem Fdu.mismatchStep_alarm (h : r.type ≠ .known (c.device a).type) (hs : d.state = .alarm) :
    (f.put a d).mismatchStep c a r = FduOut.of (f.put a { d with mismatch := true }) := by
  unfold Fdu.mismatchStep
  rw [if_neg h, Fdu.put_device hlt, if_pos hs, Fdu.put_modify hlt]

theorem Fdu.mismatchStep_enters (h : r.type ≠ .known (c.device a).type) (hs : d.state ≠ .alarm) :
    (f.put a d).mismatchStep c a r =
      (f.put a d).change c a (.typeMismatch r.type) fun d => { d.clearRuns with state := .fault, mismatch := true } := by
  unfold Fdu.mismatchStep
  rw [if_neg h, Fdu.put_device hlt, if_neg hs]

/-! ### The whole evaluation (R116) -/

theorem Fdu.evaluateSteps_mistyped (h : d.mismatch = true ∨ r.type ≠ .known (c.device a).type) :
    (f.put a d).evaluateSteps c now a r = (f.put a (d.noted r)).mismatchStep c a r := by
  unfold Fdu.evaluateSteps
  simp only [Fdu.put_modify hlt, Fdu.put_device hlt]
  exact if_pos h

section
variable (hm : d.mismatch = false) (ht : r.type = .known (c.device a).type)
include hm ht

theorem Fdu.evaluateSteps_typed : (f.put a d).evaluateSteps c now a r =
    match d.state with
    | .alarm => FduOut.of (f.put a (d.noted r))
    | .fault => (f.put a (d.noted r)).recoveryStep c now a r
    | .normal | .preAlarm | .missing | .disabled => (f.put a (d.noted r)).fromTestStep c now a r := by
  have hn : ¬ (d.mismatch = true ∨ r.type ≠ .known (c.device a).type) := by simp [hm, ht]
  unfold Fdu.evaluateSteps
  simp only [Fdu.put_modify hlt, Fdu.put_device hlt]
  rw [if_neg hn]
  rfl

theorem Fdu.evaluateSteps_alarm (hs : d.state = .alarm) :
    (f.put a d).evaluateSteps c now a r = FduOut.of (f.put a (d.noted r)) := by
  rw [Fdu.evaluateSteps_typed hlt hm ht, hs]

theorem Fdu.evaluateSteps_fault (hs : d.state = .fault) :
    (f.put a d).evaluateSteps c now a r = (f.put a (d.noted r)).recoveryStep c now a r := by
  rw [Fdu.evaluateSteps_typed hlt hm ht, hs]

theorem Fdu.evaluateSteps_live (hs : d.state = .normal ∨ d.state = .preAlarm) :
    (f.put a d).evaluateSteps c now a r = (f.put a (d.noted r)).fromTestStep c now a r := by
  rw [Fdu.evaluateSteps_typed hlt hm ht]
  rcases hs with hs | hs <;> rw [hs]

end

end

end Sys2Proof.Machine
end

section
/-!
A good reply and a miss as the end of a slot: the record, the watch list and the notices that come of them (R112, R115 to R119,
R121).
-/

namespace Sys2Proof.Machine

open Sys2Proof.Safety

/-! ## What an operation on one device gives -/

/-- An operation of FDU sets the record of device `a`, leaves the watch list `w`, and hands over no alarm; `b` is its first
notice. -/
structure FduOut.Gives (a : Nat) (d : DeviceRecord) (w : List Nat) (b : Option NoticeBody) (f : Fdu) (o : FduOut) : Prop where
  judged : Fdu.Judged a d w f o.fdu
  first  : o.notes.head? = b
  alarm  : o.alarm = none

theorem FduOut.of_andThen (f : Fdu) (k : Fdu → FduOut) : (FduOut.of f).andThen k = k f := rfl

theorem FduOut.Gives.quiet {a : Nat} {d : DeviceRecord} {w : List Nat} {f : Fdu} {o : FduOut} (h : o.Gives a d w none f) :
    o.notes = [] := List.head?_eq_none_iff.1 h.first

section
variable {a : Nat} {d e : DeviceRecord} {w v : List Nat} {b b' : Option NoticeBody} {f g : Fdu} {o : FduOut}

theorem Fdu.put_gives (a : Nat) (d : DeviceRecord) (f : Fdu) : (FduOut.of (f.put a d)).Gives a d f.watch none f :=
  ⟨f.put_judged a d, rfl, rfl⟩

theorem FduOut.Gives.andThen {k : Fdu → FduOut} (h : o.Gives a d w b f) (hk : (k o.fdu).Gives a e v b' f) :
    (o.andThen k).Gives a e v (b.or b') f := by
  refine ⟨hk.judged, ?_, ?_⟩
  · show (o.notes ++ (k o.fdu).notes).head? = _
    rw [List.head?_append, h.first, hk.first]
  · show o.alarm.or (k o.fdu).alarm = none
    rw [h.alarm, hk.alarm]
    rfl

/-- What is done on top of a state that is itself judged. -/
theorem FduOut.Gives.onTop (h : Fdu.Judged a d w f g) (hk : o.Gives a e v b g) : o.Gives a e v b f :=
  ⟨h.trans hk.judged, hk.first, hk.alarm⟩

variable (hlt : a - 1 < f.devices.length)
include hlt

theorem Fdu.change_gives (c : Settings) (cause : DeviceCause) {q : DeviceRecord → DeviceRecord} (hs : (q d).state ≠ d.state) :
    ((f.put a d).change c a cause q).Gives a (q d) (offered a (q d) f.watch)
      (some (.device a (c.device a).zone (c.device a).type d.state (q d).state (q d).value (q d).operated (q d).fault (q d).test
        cause)) f := by
  obtain ⟨zs, hz⟩ := Fdu.change_notes hlt c cause d q hs
  exact ⟨Fdu.change_judged hlt c cause d q, by rw [hz]; rfl, rfl⟩

/-- The same record again, whatever is notified. -/
theorem Fdu.change_gives_any (c : Settings) (cause : DeviceCause) (d : DeviceRecord) (q : DeviceRecord → DeviceRecord) :
    ∃ b, ((f.put a d).change c a cause q).Gives a (q d) (offered a (q d) f.watch) b f :=
  ⟨_, Fdu.change_judged hlt c cause d q, rfl, rfl⟩

/-- The evaluation ends with the watch list (R121). -/
theorem FduOut.Gives.offered (h : o.Gives a d w b f) :
    (o.andThen fun f => FduOut.of (f.offerWatch a)).Gives a d (offered a d w) b f := by
  have hk : (FduOut.of (o.fdu.offerWatch a)).Gives a d (Machine.offered a d w) none f := ⟨h.judged.offer hlt, rfl, rfl⟩
  have := FduOut.Gives.andThen (k := fun f => FduOut.of (f.offerWatch a)) h hk
  rwa [Option.or_none] at this

end

/-! ## A good reply (R115, R116) -/

/-- The miss count returns to 0, and the retry goes (R115). -/
def DeviceRecord.answered (d : DeviceRecord) : DeviceRecord := { d with miss := 0, retry := false }

/-- A MISSING device returned to NORMAL (R115). -/
def DeviceRecord.back (d : DeviceRecord) : DeviceRecord := { d.clearCounts with state := .normal }

section
variable {a : Nat} {f : Fdu} {c : Settings} {now : Nat} {r : LoopReply} {d x : DeviceRecord} {w : List Nat}
  {b : Option NoticeBody} (h : f.devices[a - 1]? = some d)
include h

theorem Fdu.lt_of_device : a - 1 < f.devices.length := (List.getElem?_eq_some_iff.1 h).1

theorem Fdu.goodReply_eq : f.goodReply c now a r =
    ((if d.state = .missing then (f.put a d.answered).change c a .firstReply DeviceRecord.back
      else FduOut.of (f.put a d.answered)).andThen (Fdu.evaluateSteps c now a r)).andThen
        fun f => FduOut.of (f.offerWatch a) := by
  have hlt := Fdu.lt_of_device h
  conv_lhs => rw [← Fdu.put_self h]
  unfold Fdu.goodReply
  simp only [Fdu.put_modify hlt, Fdu.put_device hlt]
  rfl

/-- Of a device that is not MISSING, a good reply gives what its evaluation gives. -/
theorem Fdu.goodReply_present (hs : d.state ≠ .missing)
    (he : ((f.put a d.answered).evaluateSteps c now a r).Gives a x w b f) :
    (f.goodReply c now a r).Gives a x (offered a x w) b f := by
  rw [Fdu.goodReply_eq h, if_neg hs, FduOut.of_andThen]
  exact he.offered (Fdu.lt_of_device h)

/-- A device that was MISSING is NORMAL, and off the watch list, when the evaluation meets it. -/
theorem Fdu.goodReply_returns (hs : d.state = .missing) {v : List Nat → List Nat}
    (he : ∀ g : Fdu, a - 1 < g.devices.length → g.isolation = f.isolation →
      ∃ b, ((g.put a d.answered.back).evaluateSteps c now a r).Gives a x (v g.watch) b g) :
    (f.goodReply c now a r).Gives a x (offered a x (v (f.watch.erase a))) (some (.device a (c.device a).zone (c.device a).type
      .missing .normal d.value d.operated d.fault d.test .firstReply)) f := by
  have hlt := Fdu.lt_of_device h
  have hf := Fdu.change_gives (d := d.answered) (q := DeviceRecord.back) hlt c .firstReply
    (by simp [DeviceRecord.answered, DeviceRecord.back, hs])
  generalize ho : (f.put a d.answered).change c a .firstReply DeviceRecord.back = o at hf
  obtain ⟨b, hv⟩ := he o.fdu (hf.judged.lt hlt) hf.judged.isolation
  have hb : d.answered.back.qualifies = false := rfl
  rw [Fdu.put_self (hf.judged.getElem? hlt), hf.judged.watch, offered_leaves hb] at hv
  have key := (hf.andThen (hv.onTop hf.judged)).offered hlt
  have hstate : d.answered.state = .missing := hs
  rw [hstate] at key
  rw [Fdu.goodReply_eq h, if_pos hs, ho]
  exact key

/-- It stays off the list where the reply does not put it back. -/
theorem Fdu.goodReply_missing (hs : d.state = .missing) (hn : f.watch.Nodup) (hx : x.qualifies = false)
    {v : List Nat → List Nat} (hv : v = id ∨ v = offered a x)
    (he : ∀ g : Fdu, a - 1 < g.devices.length → g.isolation = f.isolation →
      ∃ b, ((g.put a d.answered.back).evaluateSteps c now a r).Gives a x (v g.watch) b g) :
    (f.goodReply c now a r).Gives a x (offered a x f.watch) (some (.device a (c.device a).zone (c.device a).type .missing .normal
      d.value d.operated d.fault d.test .firstReply)) f := by
  have hee : (f.watch.erase a).erase a = f.watch.erase a := List.erase_of_not_mem fun k => (hn.mem_erase_iff.1 k).1 rfl
  have hw : offered a x (v (f.watch.erase a)) = offered a x f.watch := by
    rcases hv with rfl | rfl <;> simp only [id, offered_leaves hx, hee]
  exact hw ▸ Fdu.goodReply_returns h hs he

end

/-! ## No alarm is handed over (R116, R120) -/

/-- FDU without what an operation on a device may move. -/
def Fdu.bare (f : Fdu) : Fdu := { f with devices := [], watch := [], watchPtr := none, status := [] }

/-- An operation of FDU that moves nothing but the device records, the watch list and the statuses, and hands over no alarm. -/
structure FduOut.Stays (f : Fdu) (o : FduOut) : Prop where
  bare  : o.fdu.bare = f.bare
  alarm : o.alarm = none

theorem Fdu.eq_of_bare {f g : Fdu} (h : g.bare = f.bare) :
    g = { f with devices := g.devices, watch := g.watch, watchPtr := g.watchPtr, status := g.status } :=
  congrArg (fun k : Fdu => { k with devices := g.devices, watch := g.watch, watchPtr := g.watchPtr, status := g.status }) h

theorem FduOut.Gives.stays {a : Nat} {d : DeviceRecord} {w : List Nat} {b : Option NoticeBody} {f : Fdu} {o : FduOut}
    (h : o.Gives a d w b f) : o.Stays f := ⟨by rw [h.judged.frame]; rfl, h.alarm⟩

theorem FduOut.stays_of {f g : Fdu} (h : g.bare = f.bare) : (FduOut.of g).Stays f := ⟨h, rfl⟩

theorem FduOut.Stays.andThen {f : Fdu} {o : FduOut} {k : Fdu → FduOut} (h : o.Stays f) (hk : (k o.fdu).Stays o.fdu) :
    (o.andThen k).Stays f := by
  refine ⟨hk.bare.trans h.bare, ?_⟩
  show o.alarm.or (k o.fdu).alarm = none
  rw [h.alarm, hk.alarm]
  rfl

theorem FduOut.Stays.onTop {f g : Fdu} {o : FduOut} (h : o.Stays g) (hg : g.bare = f.bare) : o.Stays f :=
  ⟨h.bare.trans hg, h.alarm⟩

theorem Fdu.offerWatch_bare (a : Nat) (f : Fdu) : (f.offerWatch a).bare = f.bare := by
  rw [Fdu.offerWatch_frame]
  rfl

theorem Fdu.change_stays (c : Settings) (a : Nat) (cause : DeviceCause) (g : DeviceRecord → DeviceRecord) (f : Fdu) :
    (f.change c a cause g).Stays f := ⟨Fdu.offerWatch_bare a (f.modifyDevice a g), rfl⟩

theorem Fdu.preAlarmStep_stays (c : Settings) (a : Nat) (f : Fdu) : (f.preAlarmStep c a).Stays f := by
  unfold Fdu.preAlarmStep
  dsimp only
  split
  · exact FduOut.stays_of rfl
  · split
    · split
      · exact Fdu.change_stays ..
      · exact FduOut.stays_of rfl
    · split
      · split
        · exact FduOut.stays_of rfl
        · split
          · exact FduOut.stays_of rfl
          · exact Fdu.change_stays ..
      · exact FduOut.stays_of rfl

section
variable {c : Settings} {now a : Nat} {r : LoopReply}

/-- A reply without the alarm condition, with the test flag, or of a shielded device confirms nothing. -/
theorem Fdu.fromTestStep_stays {f : Fdu} {d : DeviceRecord} (hd : f.devices[a - 1]? = some d)
    (h : alarmCondition (c.device a) r = false ∨ r.test = true ∨ f.shields c a) : (f.fromTestStep c now a r).Stays f := by
  by_cases hend : r.test = true ∨ f.shields c a
  · rw [Fdu.fromTestStep_ends hend]
    exact FduOut.stays_of rfl
  · have hlt := Fdu.lt_of_device hd
    have hne := DeviceRecord.counted_ne (h.resolve_right hend) d
    obtain ⟨ht, hn⟩ := not_or.1 hend
    rw [← Fdu.put_self hd]
    cases hf : r.fault
    · rw [Fdu.fromTestStep_passes hlt (Bool.eq_false_iff.2 ht) hn hne hf]
      exact (Fdu.preAlarmStep_stays ..).onTop rfl
    · rw [Fdu.fromTestStep_faults hlt (Bool.eq_false_iff.2 ht) hn hne hf]
      exact (Fdu.change_stays ..).onTop rfl

theorem Fdu.recoveryStep_stays {f : Fdu} {d : DeviceRecord} (hd : f.devices[a - 1]? = some d)
    (h : alarmCondition (c.device a) r = false ∨ r.test = true ∨ f.shields c a) : (f.recoveryStep c now a r).Stays f := by
  have hlt := Fdu.lt_of_device hd
  rw [← Fdu.put_self hd]
  by_cases hr : r.fault = true ∨ r.test = true
  · rw [Fdu.recoveryStep_resets hlt hr]
    exact FduOut.stays_of rfl
  · obtain ⟨hf, ht⟩ := not_or.1 hr
    by_cases hc : d.recovery = 0
    · rw [Fdu.recoveryStep_counts hlt (Bool.eq_false_iff.2 hf) (Bool.eq_false_iff.2 ht) hc]
      exact FduOut.stays_of rfl
    · rw [Fdu.recoveryStep_recovers hlt (Bool.eq_false_iff.2 hf) (Bool.eq_false_iff.2 ht) hc]
      have hch := Fdu.change_judged hlt c .recovered d fun d => { d.clearCounts with state := .normal }
      refine (Fdu.change_stays ..).andThen (Fdu.fromTestStep_stays (hch.getElem? hlt) ?_)
      exact h.imp id (Or.imp id fun hs => ⟨(Fdu.isolated_congr hch.isolation _).trans hs.1, hs.2⟩)

theorem Fdu.mismatchStep_stays (f : Fdu) : (f.mismatchStep c a r).Stays f := by
  unfold Fdu.mismatchStep
  split
  · exact FduOut.stays_of rfl
  · split
    · exact FduOut.stays_of rfl
    · exact Fdu.change_stays ..

/-- A reply gives no alarm where it ends at the type step, where the device is in ALARM already, or where it cannot confirm. -/
theorem Fdu.evaluateSteps_stays {f : Fdu} {d : DeviceRecord} (hd : f.devices[a - 1]? = some d)
    (h : (d.mismatch = true ∨ r.type ≠ .known (c.device a).type) ∨ d.state = .alarm ∨
      alarmCondition (c.device a) r = false ∨ r.test = true ∨ f.shields c a) :
    (f.evaluateSteps c now a r).Stays f := by
  have hlt := Fdu.lt_of_device hd
  rw [← Fdu.put_self hd]
  by_cases hm : d.mismatch = true ∨ r.type ≠ .known (c.device a).type
  · rw [Fdu.evaluateSteps_mistyped hlt hm]
    exact (Fdu.mismatchStep_stays _).onTop rfl
  · replace h := h.resolve_left hm
    push Not at hm
    rw [Fdu.evaluateSteps_typed hlt (Bool.eq_false_iff.2 hm.1) hm.2]
    have hnoted := Fdu.put_getElem? hlt (d.noted r)
    have live : d.state ≠ .alarm → ((f.put a (d.noted r)).fromTestStep c now a r).Stays (f.put a d) := fun hs =>
      (Fdu.fromTestStep_stays hnoted (h.resolve_left hs)).onTop rfl
    cases hs : d.state with
    | alarm => exact FduOut.stays_of rfl
    | fault => exact (Fdu.recoveryStep_stays hnoted (h.resolve_left (by simp [hs]))).onTop rfl
    | normal => exact live (by simp [hs])
    | preAlarm => exact live (by simp [hs])
    | missing => exact live (by simp [hs])
    | disabled => exact live (by simp [hs])

theorem Fdu.goodReply_stays {f : Fdu} {d : DeviceRecord} (hd : f.devices[a - 1]? = some d)
    (h : (d.mismatch = true ∨ r.type ≠ .known (c.device a).type) ∨ d.state = .alarm ∨
      alarmCondition (c.device a) r = false ∨ r.test = true ∨ f.shields c a) :
    (f.goodReply c now a r).Stays f := by
  have hlt := Fdu.lt_of_device hd
  have offer : ∀ o : FduOut, o.Stays f → (o.andThen fun f => FduOut.of (f.offerWatch a)).Stays f := fun o ho =>
    ho.andThen (FduOut.stays_of (Fdu.offerWatch_bare a o.fdu))
  rw [Fdu.goodReply_eq hd]
  refine offer _ ?_
  split
  · next hs =>
    have hch := Fdu.change_judged hlt c .firstReply d.answered DeviceRecord.back
    have hst := (Fdu.change_stays c a .firstReply DeviceRecord.back (f.put a d.answered)).onTop (f := f) rfl
    refine hst.andThen (Fdu.evaluateSteps_stays (hch.getElem? hlt) (h.imp id fun k => .inr ?_))
    refine (k.resolve_left (by simp [hs])).imp id (Or.imp id fun hk => ?_)
    exact ⟨(Fdu.isolated_congr hch.isolation _).trans hk.1, hk.2⟩
  · rw [FduOut.of_andThen]
    exact (Fdu.evaluateSteps_stays (Fdu.put_getElem? hlt d.answered) h).onTop rfl

end

end Sys2Proof.Machine
end

section
/-!
The end of a device poll's slot: how it is judged, and what each kind of reply makes of the device (R112, R115 to R119, R121,
R123, R127).
-/

namespace Sys2Proof.Machine

open Sys2Proof.Safety

/-! ## The judgement of a slot (R111, R112) -/

section
variable {a b : Reception} {e : Nat}

theorem judgeSlot_oneEnd_good (h : goodAt a = some e) (b : Reception) : judgeSlot .oneEnd a b = .good a.reply := by
  simp [judgeSlot, h]

theorem judgeSlot_oneEnd_bad (h : goodAt a = none) (b : Reception) :
    judgeSlot .oneEnd a b = if heard a then .error else .noReply := by
  simp [judgeSlot, h]

theorem judgeSlot_twoEnd_first (h : goodAt a = some e) (hb : ∀ e', goodAt b = some e' → e ≤ e') :
    judgeSlot .twoEnd a b = .good a.reply := by
  cases k : goodAt b with
  | none => simp [judgeSlot, h, k]
  | some e' => simp [judgeSlot, h, k, hb e' k]

theorem judgeSlot_twoEnd_second (h : goodAt b = some e) (ha : ∀ e', goodAt a = some e' → e < e') :
    judgeSlot .twoEnd a b = .good b.reply := by
  cases k : goodAt a with
  | none => simp [judgeSlot, h, k]
  | some e' => simp [judgeSlot, h, k, not_le.2 (ha e' k)]

theorem judgeSlot_twoEnd_bad (ha : goodAt a = none) (hb : goodAt b = none) :
    judgeSlot .twoEnd a b = if heard a || heard b then .error else .noReply := by
  simp [judgeSlot, ha, hb]

end

/-! ## The end of a device poll's slot -/

/-- The slot of a poll of a device has ended, whose record is `d`. -/
structure SlotEnds (p : Poll) (d : DeviceRecord) (s : State) : Prop where
  released : s.held = none
  poll     : s.fdu.poll = some p
  kind     : p.kind ≠ .continuity
  ended    : p.started + 25 ≤ s.now
  device   : s.fdu.devices[p.address - 1]? = some d

/-- What the end of the slot brings about. -/
def State.slotOut (p : Poll) (ra rb : Reception) (s : State) : FduOut := s.fdu.endSlot s.settings s.now p ra rb

/-- FDU with no poll out. -/
def Fdu.idle (f : Fdu) : Fdu := { f with poll := none }

/-- Where no alarm is handed over, the end of the slot changes FDU alone. -/
theorem State.slotOut_stays (p : Poll) (ra rb : Reception) {s : State} (ha : (s.slotOut p ra rb).alarm = none) :
    Only [.fire, .link, .lines, .draws] s (s.withFdu (s.slotOut p ra rb)).finish ∧
      Sends s (s.slotOut p ra rb).notes (s.withFdu (s.slotOut p ra rb)).finish ∧
      (s.withFdu (s.slotOut p ra rb)).finish.fdu = (s.slotOut p ra rb).fdu := by
  have hw : s.withFdu (s.slotOut p ra rb) = s.putFdu (s.slotOut p ra rb) := by
    unfold State.withFdu
    dsimp only
    rw [ha]
  rw [hw]
  exact ⟨(s.putFdu_only _).finish.mono (by decide), State.finish_sends rfl, rfl⟩

theorem State.slotOut_gives {p : Poll} {ra rb : Reception} {s : State} {x : DeviceRecord} {w : List Nat} {b : Option NoticeBody}
    (g : (s.slotOut p ra rb).Gives p.address x w b s.fdu.idle) :
    ((s.withFdu (s.slotOut p ra rb)).finish.fdu.devices = s.fdu.devices.set (p.address - 1) x ∧
      (s.withFdu (s.slotOut p ra rb)).finish.fdu.watch = w) ∧ (s.slotOut p ra rb).notes.head? = b := by
  obtain ⟨-, -, hf⟩ := State.slotOut_stays p ra rb g.alarm
  rw [hf]
  exact ⟨⟨g.judged.devices, g.judged.watch⟩, g.first⟩

section
variable {p : Poll} {d : DeviceRecord} {ra rb : Reception} {s : State} (h : SlotEnds p d s)
include h

theorem SlotEnds.exec_eq : exec (.pollSlotEnd ra rb) s = .next (s.withFdu (s.slotOut p ra rb)).finish := by
  have he : s.fdu.endedPoll s.now = some p := by simp [Fdu.endedPoll, h.poll, h.kind, h.ended]
  show Host.Outcome.next (s.event _ _) = _
  rw [State.event_eq h.released (by simp [he]), State.endSlot, he]
  rfl

theorem SlotEnds.idle_device : s.fdu.idle.devices[p.address - 1]? = some d := h.device

theorem SlotEnds.good {r : LoopReply} (hs : d.state ≠ .disabled) (hj : judgeSlot s.fdu.mode ra rb = .good r) :
    s.slotOut p ra rb = s.fdu.idle.goodReply s.settings s.now p.address r := by
  have hd : (s.fdu.idle.device p.address).state ≠ .disabled := by rwa [Fdu.device_eq h.idle_device]
  unfold State.slotOut Fdu.endSlot
  dsimp only
  refine (if_neg hd).trans ?_
  rw [hj]
  rfl

theorem SlotEnds.disabled (hs : d.state = .disabled) : s.slotOut p ra rb = FduOut.of s.fdu.idle := by
  have hd : (s.fdu.idle.device p.address).state = .disabled := by rwa [Fdu.device_eq h.idle_device]
  exact if_pos hd

/-- What a good reply gives is what the end of its slot brings about. -/
theorem SlotEnds.gives {r : LoopReply} {x : DeviceRecord} {w : List Nat} {b : Option NoticeBody} (hs : d.state ≠ .disabled)
    (hj : judgeSlot s.fdu.mode ra rb = .good r)
    (g : (s.fdu.idle.goodReply s.settings s.now p.address r).Gives p.address x w b s.fdu.idle) :
    (s.slotOut p ra rb).Gives p.address x w b s.fdu.idle := h.good hs hj ▸ g

/-- The error counter after a poll that is no good reply (R112). -/
def DeviceRecord.erred (j : Judgement) (d : DeviceRecord) : DeviceRecord :=
  { d with errors := if j = .error then min 255 (d.errors + 1) else d.errors }

theorem SlotEnds.missed (hs : d.state ≠ .disabled)
    (hj : judgeSlot s.fdu.mode ra rb = .noReply ∨ judgeSlot s.fdu.mode ra rb = .error) :
    s.slotOut p ra rb =
      (s.fdu.idle.put p.address (d.erred (judgeSlot s.fdu.mode ra rb))).miss s.settings p.kind p.address := by
  have hd : (s.fdu.idle.device p.address).state ≠ .disabled := by rwa [Fdu.device_eq h.idle_device]
  unfold State.slotOut Fdu.endSlot
  dsimp only
  refine (if_neg hd).trans ?_
  rcases hj with hj | hj
  · have he : d.erred .noReply = d := rfl
    rw [hj, he, Fdu.put_self h.idle_device]
    rfl
  · rw [hj]
    dsimp only
    exact congrArg (fun f => Fdu.miss s.settings p.kind p.address f) (Fdu.modifyDevice_eq h.idle_device _)

end

/-! ## Polls that are missed (R115, R127) -/

theorem Fdu.miss_stays (c : Settings) (kind : PollKind) {a : Nat} {d : DeviceRecord} {f : Fdu}
    (hd : f.devices[a - 1]? = some d) : (f.miss c kind a).Stays f := by
  have hlt := Fdu.lt_of_device hd
  rw [← Fdu.put_self hd]
  by_cases h : d.miss ≠ 2 ∨ d.state = .alarm ∨ d.state = .missing
  · rw [Fdu.miss_counts hlt c kind h]
    exact ⟨rfl, rfl⟩
  · obtain ⟨h2, h⟩ := not_or.1 h
    obtain ⟨ha, hm⟩ := not_or.1 h
    rw [Fdu.miss_third hlt c kind (not_not.1 h2) ha hm]
    exact Fdu.change_stays ..

/-! ## Replies of a device that is not MISSING (R116 to R119) -/

theorem valueJudged_eq (t : DeviceType) :
    valueJudged t = (decide (t = .smoke) || decide (t = .heat) || decide (t = .beam)) := by cases t <;> rfl

/-- A recorded reply of a device that answers. -/
abbrev DeviceRecord.read (r : LoopReply) (d : DeviceRecord) : DeviceRecord := d.answered.noted r

theorem DeviceRecord.read_untested {r : LoopReply} (ht : r.test = false) (d : DeviceRecord) : d.read r =
    { d with value := r.value, operated := r.operated, fault := r.fault, test := false, miss := 0, retry := false } := by
  rw [DeviceRecord.read, DeviceRecord.noted, ht]
  rfl

section
variable {a : Nat} {f : Fdu} {c : Settings} {now : Nat} {r : LoopReply} {d x : DeviceRecord} {w : List Nat}
  {b : Option NoticeBody} (h : f.devices[a - 1]? = some d)
include h

theorem Fdu.goodReply_still (hs : d.state ≠ .missing)
    (he : (f.put a d.answered).evaluateSteps c now a r = FduOut.of (f.put a x)) :
    (f.goodReply c now a r).Gives a x (offered a x f.watch) none f :=
  Fdu.goodReply_present h hs (he ▸ Fdu.put_gives a x f)

theorem Fdu.goodReply_changes (hn : f.watch.Nodup) (hs : d.state ≠ .missing) {cause : DeviceCause}
    {q : DeviceRecord → DeviceRecord} (he : (f.put a d.answered).evaluateSteps c now a r = (f.put a x).change c a cause q)
    (hq : (q x).state ≠ x.state) : (f.goodReply c now a r).Gives a (q x) (offered a (q x) f.watch)
      (some (.device a (c.device a).zone (c.device a).type x.state (q x).state (q x).value (q x).operated (q x).fault (q x).test
        cause)) f := by
  have g := Fdu.goodReply_present h hs (he ▸ Fdu.change_gives (d := x) (Fdu.lt_of_device h) c cause hq)
  rwa [offered_offered hn] at g

end

section
variable {a : Nat} {f : Fdu} {c : Settings} {now : Nat} {r : LoopReply} {d : DeviceRecord}
  (hlt : a - 1 < f.devices.length) (hm : d.mismatch = false) (ht : r.test = false) (hsh : ¬ f.shields c a)
  (hty : r.type = .known (c.device a).type)
include hlt hm ht hsh hty

/-- What a reply that neither confirms nor tells of a fault comes to is PRE-ALARM's step (R119). -/
theorem Fdu.evaluateSteps_passes (hs : d.state = .normal ∨ d.state = .preAlarm)
    (hc : ((d.noted r).counted (c.device a) r).confirm ≠ confirmingNumber (c.device a).type) (hf : r.fault = false) :
    (f.put a d).evaluateSteps c now a r = (f.put a ((d.noted r).counted (c.device a) r)).preAlarmStep c a := by
  rw [Fdu.evaluateSteps_live hlt hm hty hs]
  exact Fdu.fromTestStep_passes hlt ht hsh hc hf

theorem Fdu.evaluateSteps_clears (hs : d.state = .normal ∨ d.state = .preAlarm) (hf : r.fault = false)
    (ha : alarmCondition (c.device a) r = false) :
    (f.put a d).evaluateSteps c now a r = (f.put a { d.noted r with confirm := 0 }).preAlarmStep c a := by
  rw [← DeviceRecord.counted_clear ha]
  exact Fdu.evaluateSteps_passes hlt hm ht hsh hty hs (DeviceRecord.counted_ne ha _) hf

/-- Below the thresholds a NORMAL device is only recorded, its confirm count at 0 (R118, R119). -/
theorem Fdu.evaluateSteps_quiet (hs : d.state = .normal) (hf : r.fault = false) (ha : alarmCondition (c.device a) r = false)
    (hp : valueJudged (c.device a).type = false ∨ r.value < (c.device a).preAlarm) :
    (f.put a d).evaluateSteps c now a r = FduOut.of (f.put a { d.noted r with confirm := 0 }) := by
  refine (Fdu.evaluateSteps_clears hlt hm ht hsh hty (.inl hs) hf ha).trans ?_
  rcases hp with hp | hp
  · exact Fdu.preAlarmStep_unjudged hp _
  · exact Fdu.preAlarmStep_below (d := { d.noted r with confirm := 0 }) hlt hs hp

end

section
variable {a : Nat} {f : Fdu} {c : Settings} {now : Nat} {r : LoopReply} {d : DeviceRecord}
  (h : f.devices[a - 1]? = some d) (hn : f.watch.Nodup) (hm : d.mismatch = false) (ht : r.test = false)
  (hsh : ¬ f.shields c a) (hty : r.type = .known (c.device a).type)
include h hm ht hsh hty

include hn in
theorem Fdu.goodReply_entersPreAlarm (hs : d.state = .normal) (hv : valueJudged (c.device a).type = true)
    (hf : r.fault = false) (ha : alarmCondition (c.device a) r = false) (hp : (c.device a).preAlarm ≤ r.value) :
    (f.goodReply c now a r).Gives a { d.read r with state := .preAlarm, confirm := 0, clear := 0 }
      (if a ∈ f.watch ∨ 8 ≤ f.watch.length then f.watch else f.watch ++ [a])
      (some (.device a (c.device a).zone (c.device a).type d.state .preAlarm r.value r.operated r.fault r.test .thresholdUp))
      f := by
  have he := (Fdu.evaluateSteps_clears (now := now) (d := d.answered) (Fdu.lt_of_device h) hm ht hsh hty (.inl hs) hf ha).trans
    (Fdu.preAlarmStep_enters (d := { d.read r with confirm := 0 }) (Fdu.lt_of_device h) hv hs hp)
  have hq : d.state ≠ .preAlarm := by simp [hs]
  exact Fdu.goodReply_changes h hn (by simp [hs]) he hq.symm

section
variable (hs : d.state = .preAlarm) (hv : valueJudged (c.device a).type = true) (hf : r.fault = false)
  (ha : alarmCondition (c.device a) r = false) (hp : r.value < (c.device a).preAlarm)
include hs hv hf ha hp

theorem Fdu.goodReply_countsClear (hc : d.clear = 0) :
    (f.goodReply c now a r).Gives a { d.read r with confirm := 0, clear := 1 }
      (if a ∈ f.watch ∨ 8 ≤ f.watch.length then f.watch else f.watch ++ [a]) none f := by
  have he := (Fdu.evaluateSteps_clears (now := now) (d := d.answered) (Fdu.lt_of_device h) hm ht hsh hty (.inr hs) hf ha).trans
    (Fdu.preAlarmStep_counts (d := { d.read r with confirm := 0 }) (Fdu.lt_of_device h) hv hs hp hc)
  exact offered_joins (d := { d.read r with confirm := 0, clear := 1 }) ((qualifies_iff _).2 (.inl hs)) a f.watch ▸
    Fdu.goodReply_still h (by simp [hs]) he

include hn in
theorem Fdu.goodReply_leavesPreAlarm (hc : d.clear ≠ 0) :
    (f.goodReply c now a r).Gives a { d.read r with state := .normal, confirm := 0, clear := 0 } (f.watch.erase a)
      (some (.device a (c.device a).zone (c.device a).type d.state .normal r.value r.operated r.fault r.test .thresholdDown))
      f := by
  have he := (Fdu.evaluateSteps_clears (now := now) (d := d.answered) (Fdu.lt_of_device h) hm ht hsh hty (.inr hs) hf ha).trans
    (Fdu.preAlarmStep_leaves (d := { d.read r with confirm := 0 }) (Fdu.lt_of_device h) hv hs hp hc)
  have hq : d.state ≠ .normal := by simp [hs]
  exact Fdu.goodReply_changes h hn (by simp [hs]) he hq.symm

end

/-- One reply of an operated CALLPOINT or INPUT is counted (R118). -/
theorem Fdu.goodReply_counts (hs : d.state = .normal) (hv : valueJudged (c.device a).type = false) (hf : r.fault = false)
    (ho : r.operated = true) (hc : d.confirm = 0) :
    (f.goodReply c now a r).Gives a { d.read r with confirm := 1 }
      (if a ∈ f.watch ∨ 8 ≤ f.watch.length then f.watch else f.watch ++ [a]) none f := by
  have hk : (d.read r).counted (c.device a) r = { d.read r with confirm := 1 } := by
    simp [DeviceRecord.counted, alarmCondition, hv, ho, DeviceRecord.read, DeviceRecord.answered, DeviceRecord.noted, hc]
  have hne : ((d.read r).counted (c.device a) r).confirm ≠ confirmingNumber (c.device a).type := by
    rw [hk]
    exact Nat.ne_of_lt (confirmingNumber_ge (c.device a).type)
  have he := (Fdu.evaluateSteps_passes (now := now) (d := d.answered) (Fdu.lt_of_device h) hm ht hsh hty (.inl hs) hne hf).trans
    (Fdu.preAlarmStep_unjudged hv _)
  rw [hk] at he
  exact offered_joins (d := { d.read r with confirm := 1 }) ((qualifies_iff _).2 (.inr ⟨hs, Nat.one_pos⟩)) a f.watch ▸
    Fdu.goodReply_still h (by simp [hs]) he

include hn in
/-- The fault flag enters FAULT (R117). -/
theorem Fdu.goodReply_faults (hs : d.state = .normal ∨ d.state = .preAlarm) (hf : r.fault = true)
    (ha : alarmCondition (c.device a) r = false) :
    (f.goodReply c now a r).Gives a { d.read r with state := .fault, confirm := 0, clear := 0, recovery := 0 } (f.watch.erase a)
      (some (.device a (c.device a).zone (c.device a).type d.state .fault r.value r.operated r.fault r.test .deviceFault)) f := by
  have he := (Fdu.evaluateSteps_live (now := now) (d := d.answered) (Fdu.lt_of_device h) hm hty hs).trans
    (Fdu.fromTestStep_faults (Fdu.lt_of_device h) ht hsh (DeviceRecord.counted_ne ha _) hf)
  rw [DeviceRecord.counted_clear ha] at he
  have hq : d.state ≠ .fault := by rcases hs with hs | hs <;> simp [hs]
  exact Fdu.goodReply_changes h hn (by rcases hs with hs | hs <;> simp [hs]) he hq.symm

end

/-! ## Recovery, whatever the evaluation then makes of the reply (R117) -/

section
variable {a : Nat} {f : Fdu} {c : Settings} {now : Nat} {r : LoopReply} {d : DeviceRecord}
  (h : f.devices[a - 1]? = some d) (hn : f.watch.Nodup)
include h

/-- In FAULT the fault flag and the test flag stop the recovery count; without them it runs (R117). -/
theorem Fdu.goodReply_counting (hm : d.mismatch = false) (hty : r.type = .known (c.device a).type) (hs : d.state = .fault)
    (hc : r.fault = true ∨ r.test = true ∨ d.recovery = 0) :
    (f.goodReply c now a r).Gives a { d.read r with recovery := if r.fault || r.test then 0 else 1 }
      (offered a { d.read r with recovery := if r.fault || r.test then 0 else 1 } f.watch) none f := by
  have hlt := Fdu.lt_of_device h
  refine Fdu.goodReply_still h (by simp [hs]) ((Fdu.evaluateSteps_fault (d := d.answered) hlt hm hty hs).trans ?_)
  cases hf : r.fault || r.test
  · obtain ⟨hf, ht⟩ := Bool.or_eq_false_iff.1 hf
    exact Fdu.recoveryStep_counts (d := d.read r) hlt hf ht ((hc.resolve_left (by simp [hf])).resolve_left (by simp [ht]))
  · exact Fdu.recoveryStep_resets (d := d.read r) hlt (Bool.or_eq_true_iff.1 hf)

include hn in
theorem Fdu.goodReply_recovers (hm : d.mismatch = false) (hty : r.type = .known (c.device a).type) (hs : d.state = .fault)
    (hf : r.fault = false) (ht : r.test = false) (hc : d.recovery ≠ 0)
    (he : ∀ g : Fdu, a - 1 < g.devices.length → g.isolation = f.isolation →
      (g.put a (d.read r).back).fromTestStep c now a r = FduOut.of (g.put a (d.read r).back)) :
    (f.goodReply c now a r).Gives a (d.read r).back (offered a (d.read r).back f.watch)
      (some (.device a (c.device a).zone (c.device a).type d.state .normal r.value r.operated r.fault r.test .recovered)) f := by
  have hlt := Fdu.lt_of_device h
  have hq : d.state ≠ .normal := by simp [hs]
  have g := Fdu.change_gives (d := d.read r) (q := DeviceRecord.back) hlt c .recovered hq.symm
  generalize ho : (f.put a (d.read r)).change c a .recovered DeviceRecord.back = o at g
  have k := he o.fdu (g.judged.lt hlt) g.judged.isolation
  have hk := (Fdu.put_gives a (d.read r).back o.fdu).onTop g.judged
  rw [← k, Fdu.put_self (g.judged.getElem? hlt)] at hk
  have hw : offered a (d.read r).back (offered a (d.read r).back f.watch) = offered a (d.read r).back f.watch :=
    offered_offered hn a _
  have key := Fdu.goodReply_present h (c := c) (now := now) (r := r) (by simp [hs]) (b := some _)
    (((Fdu.evaluateSteps_fault (d := d.answered) hlt hm hty hs).trans
      (Fdu.recoveryStep_recovers (d := d.read r) hlt hf ht hc)).trans (congrArg (FduOut.andThen · _) ho) ▸ g.andThen hk)
  rw [g.judged.watch, hw] at key
  exact key

/-! ## Replies that end at the type step (R117) -/

theorem Fdu.goodReply_mistypedAlarm (hty : r.type ≠ .known (c.device a).type) (hs : d.state = .alarm) :
    (f.goodReply c now a r).Gives a { d.read r with mismatch := true } (offered a { d.read r with mismatch := true } f.watch)
      none f := by
  have hlt := Fdu.lt_of_device h
  exact Fdu.goodReply_still h (by simp [hs]) ((Fdu.evaluateSteps_mistyped (d := d.answered) hlt (.inr hty)).trans
    (Fdu.mismatchStep_alarm (d := d.read r) hlt hty hs))

/-- The record of a device whose reply names a wrong type (R117). -/
def DeviceRecord.mistyped (d : DeviceRecord) : DeviceRecord := { d.clearRuns with state := .fault, mismatch := true }

omit h in
theorem Fdu.mismatchStep_mistyped {g : Fdu} (hlt : a - 1 < g.devices.length) (hty : r.type ≠ .known (c.device a).type)
    (hs : d.state ≠ .alarm) : (g.put a d).evaluateSteps c now a r =
      (g.put a (d.noted r)).change c a (.typeMismatch r.type) DeviceRecord.mistyped :=
  (Fdu.evaluateSteps_mistyped hlt (.inr hty)).trans (Fdu.mismatchStep_enters (d := d.noted r) hlt hty hs)

include hn

theorem Fdu.goodReply_mistyped (hty : r.type ≠ .known (c.device a).type) (hs : d.state = .normal ∨ d.state = .preAlarm) :
    (f.goodReply c now a r).Gives a (d.read r).mistyped (offered a (d.read r).mistyped f.watch)
      (some (.device a (c.device a).zone (c.device a).type d.state .fault r.value r.operated r.fault r.test
        (.typeMismatch r.type))) f := by
  have hne : d.state ≠ .missing ∧ d.state ≠ .alarm ∧ DeviceState.fault ≠ d.state := by
    rcases hs with hs | hs <;> rw [hs] <;> decide
  obtain ⟨h1, h2, h3⟩ := hne
  exact Fdu.goodReply_changes h hn h1 (Fdu.mismatchStep_mistyped (Fdu.lt_of_device h) hty h2) h3

theorem Fdu.goodReply_mistypedFault (hty : r.type ≠ .known (c.device a).type) (hs : d.state = .fault) :
    ∃ b, (f.goodReply c now a r).Gives a (d.read r).mistyped (offered a (d.read r).mistyped f.watch) b f := by
  have hlt := Fdu.lt_of_device h
  obtain ⟨b, g⟩ := Fdu.change_gives_any hlt c (.typeMismatch r.type) (d.read r) DeviceRecord.mistyped
  have he := Fdu.mismatchStep_mistyped (now := now) (d := d.answered) hlt hty
    (by rw [show d.answered.state = .fault from hs]; decide)
  have key := Fdu.goodReply_present h (by simp [hs]) (he ▸ g)
  rw [offered_offered hn] at key
  exact ⟨b, key⟩

theorem Fdu.goodReply_mistypedMissing (hty : r.type ≠ .known (c.device a).type) (hs : d.state = .missing) :
    (f.goodReply c now a r).Gives a (d.answered.back.noted r).mistyped (offered a (d.answered.back.noted r).mistyped f.watch)
      (some (.device a (c.device a).zone (c.device a).type .missing .normal d.value d.operated d.fault d.test .firstReply))
      f := by
  refine Fdu.goodReply_missing h hs hn rfl (.inr rfl) fun g hlt _ => ?_
  obtain ⟨b, k⟩ := Fdu.change_gives_any hlt c (.typeMismatch r.type) (d.answered.back.noted r) DeviceRecord.mistyped
  rw [← Fdu.mismatchStep_mistyped (now := now) (d := d.answered.back) hlt hty (show DeviceState.normal ≠ .alarm by decide)] at k
  exact ⟨b, k⟩

end

/-! ## Replies that are not judged (R117, R123) -/

section
variable {a : Nat} {f : Fdu} {c : Settings} {now : Nat} {r : LoopReply} {d : DeviceRecord}
  (hty : r.type = .known (c.device a).type)
include hty

/-- A reply of the right type that is not judged is recorded, and no more. -/
theorem Fdu.evaluateSteps_unjudged (hlt : a - 1 < f.devices.length)
    (hs : d.state = .normal ∨ d.state = .preAlarm ∨ d.state = .alarm)
    (hu : d.mismatch = true ∨ r.test = true ∨ f.shields c a) :
    (f.put a d).evaluateSteps c now a r = FduOut.of (f.put a (d.noted r)) := by
  cases hm : d.mismatch
  · rcases or_assoc.2 hs with hs | hs
    · rw [Fdu.evaluateSteps_live hlt hm hty hs]
      exact Fdu.fromTestStep_ends (hu.resolve_left (by simp [hm]))
    · exact Fdu.evaluateSteps_alarm hlt hm hty hs
  · rw [Fdu.evaluateSteps_mistyped hlt (.inl hm)]
    exact Fdu.mismatchStep_known hty _

end

theorem not_shields_of {a : Nat} {c : Settings} {f : Fdu}
    (h : f.isolated (c.device a).zone = false ∨ ((c.device a).type ≠ .smoke ∧ (c.device a).type ≠ .beam)) :
    ¬ f.shields c a := by
  rintro ⟨hi, ht⟩
  rcases h with h | ⟨h1, h2⟩
  · simp [h] at hi
  · exact ((isolable_iff _).1 ht).elim h1 h2

theorem shields_congr {a : Nat} {c : Settings} {f g : Fdu} (h : g.isolation = f.isolation) (k : g.shields c a) :
    f.shields c a := ⟨(Fdu.isolated_congr h _).symm.trans k.1, k.2⟩

theorem alarmCondition_below {e : DeviceConfig} {r : LoopReply} (ho : r.operated = false) (hv : r.value < e.alarm) :
    alarmCondition e r = false := by
  simp [alarmCondition, ho, hv]

/-- After a recovery a reply below the thresholds leaves the device NORMAL. -/
theorem Fdu.fromTestStep_back {a : Nat} {f : Fdu} {c : Settings} {now : Nat} {r : LoopReply} {d : DeviceRecord}
    (hlt : a - 1 < f.devices.length) (ht : r.test = false) (hsh : ¬ f.shields c a) (hf : r.fault = false)
    (ha : alarmCondition (c.device a) r = false)
    (hp : valueJudged (c.device a).type = false ∨ r.value < (c.device a).preAlarm) :
    (f.put a (d.read r).back).fromTestStep c now a r = FduOut.of (f.put a (d.read r).back) := by
  refine (Fdu.fromTestStep_passes hlt ht hsh (DeviceRecord.counted_ne ha _) hf).trans ?_
  rw [DeviceRecord.counted_clear ha]
  rcases hp with hp | hp
  · exact Fdu.preAlarmStep_unjudged hp _
  · exact Fdu.preAlarmStep_below (d := (d.read r).back) hlt rfl hp

/-- Settles O41: the judgement of a slot, then the misses, a NORMAL or MISSING device below the thresholds, the replies that are
judged, and those that are not; each case is the lemma about `goodReply` that names it. -/
theorem pollReplies : Obligations.PollReplies := by
  refine ⟨fun a b => ?_, fun p d ra rb s hh hp hk he h1 h64 hd hs hj => ?_, ?_, ?_, ?_⟩
  · intro good silent
    have hgood : ∀ r e, good r e ↔ goodAt r = some e := fun r e => goodAt_eq_some.symm
    have hsilent : ∀ r, silent r ↔ heard r = false := fun r => heard_eq_false.symm
    have hbad : ∀ r, (∀ e, ¬ good r e) ↔ goodAt r = none := fun r => by
      simp only [hgood, Option.eq_none_iff_forall_ne_some]
    refine ⟨fun t ht => by rw [Reception.reply, ht], fun hn => by rw [Reception.reply, hn],
      fun e he => judgeSlot_oneEnd_good ((hgood a e).1 he) b, fun hn => ?_,
      fun e he hb => judgeSlot_twoEnd_first ((hgood a e).1 he) fun e' h => hb e' ((hgood b e').2 h),
      fun e he ha => judgeSlot_twoEnd_second ((hgood b e).1 he) fun e' h => ha e' ((hgood a e').2 h), fun hn => ?_⟩
    · rw [judgeSlot_oneEnd_bad ((hbad a).1 hn), hsilent]
      exact ⟨fun h => by simp [h], fun h => by simp [h]⟩
    · rw [judgeSlot_twoEnd_bad ((hbad a).1 fun e => (hn e).1) ((hbad b).1 fun e => (hn e).2), hsilent, hsilent]
      refine ⟨fun h => by simp [h.1, h.2], fun h => if_pos ?_⟩
      rw [Bool.or_eq_true]
      by_contra hno
      exact h (by simpa using hno)
  · intro errors
    have h : SlotEnds p d s := ⟨hh, hp, hk, he, hd⟩
    have hlt := Fdu.lt_of_device h.idle_device
    have out := h.missed hs hj
    have stays := Fdu.miss_stays s.settings p.kind (Fdu.put_getElem? hlt (d.erred (judgeSlot s.fdu.mode ra rb)))
    rw [← out] at stays
    obtain ⟨only, sends, fdu⟩ := State.slotOut_stays p ra rb stays.alarm
    have frame := Fdu.eq_of_bare (f := s.fdu.idle) stays.bare
    refine ⟨_, h.exec_eq, only, ?_, ?_, ?_, ?_, fun h2 => ?_, fun h2 ha => ?_, fun h2 ha hm => ?_⟩
    · rw [fdu, frame]; rfl
    · rw [fdu, frame]; rfl
    · rw [fdu, frame]; rfl
    · rw [fdu, frame]; rfl
    · have hn : ¬ (d.miss = 2 ∧ d.state = .alarm) := fun k => h2 k.1
      replace out := out.trans (Fdu.miss_counts (d := d.erred _) hlt _ _ (.inl h2))
      have notes : (s.slotOut p ra rb).notes = [] := by rw [out]; exact if_neg hn
      exact ⟨by rw [fdu, out]; rfl, by rw [fdu, out]; rfl, notes ▸ sends⟩
    · replace out := out.trans (Fdu.miss_counts (d := d.erred _) hlt _ _ (.inr (.inl ha)))
      have notes : (s.slotOut p ra rb).notes = [notAnsweringNote s.settings p.address (d.erred (judgeSlot s.fdu.mode ra rb))] := by
        rw [out]
        exact if_pos ⟨h2, ha⟩
      refine ⟨?_, by rw [fdu, out]; rfl, ?_⟩
      · rw [fdu, out]
        simp [Fdu.put, Fdu.idle, DeviceRecord.erred, errors, h2, ha]
      · rw [notes] at sends
        simpa [notAnsweringNote, DeviceRecord.erred, ha] using sends
    · replace out := out.trans (Fdu.miss_third (d := d.erred _) hlt _ _ h2 ha hm)
      have g := Fdu.change_gives (d := d.erred (judgeSlot s.fdu.mode ra rb))
        (q := fun d => { d.clearRuns with state := .missing, miss := 3 }) hlt s.settings .threeMisses (fun k => hm k.symm)
      rw [← out] at g
      obtain ⟨⟨hdev, hwatch⟩, hfirst⟩ := State.slotOut_gives g
      obtain ⟨bs, hbs⟩ := List.head?_eq_some_iff.1 hfirst
      exact ⟨hdev, hwatch, bs, hbs ▸ sends⟩
  · intro p d ra rb r s hh hp hk he h1 h64 hd hs hm hj hty ht hf ho hv hle hiso
    have h : SlotEnds p d s := ⟨hh, hp, hk, he, hd⟩
    have hlt := Fdu.lt_of_device h.idle_device
    have hsh := not_shields_of hiso
    have ha : alarmCondition (s.settings.device p.address) r = false := alarmCondition_below ho (lt_of_lt_of_le hv hle)
    have hne : d.state ≠ .disabled := by rcases hs with hs | hs <;> rw [hs] <;> decide
    have out := h.good hne hj
    have stays : (s.slotOut p ra rb).Stays s.fdu.idle := out ▸ Fdu.goodReply_stays h.idle_device (.inr (.inr (.inl ha)))
    obtain ⟨only, sends, fdu⟩ := State.slotOut_stays p ra rb stays.alarm
    have frame := Fdu.eq_of_bare stays.bare
    refine ⟨_, h.exec_eq, only, ?_, ?_, ?_, fun hs => ?_, fun hs => ?_⟩
    · rw [fdu, frame]; rfl
    · rw [fdu, frame]; rfl
    · rw [fdu, frame]; rfl
    · have g := Fdu.goodReply_still (x := { d.read r with confirm := 0 }) h.idle_device (by simp [hs])
        (Fdu.evaluateSteps_quiet (now := s.now) (d := d.answered) hlt hm ht hsh hty hs hf ha (.inr hv))
      rw [← out] at g
      obtain ⟨⟨hdev, -⟩, -⟩ := State.slotOut_gives g
      rw [hdev]
      simp [DeviceRecord.read, DeviceRecord.noted, DeviceRecord.answered, ho, hf, ht]
    · have g := Fdu.goodReply_returns (x := { d.answered.back.noted r with confirm := 0 }) h.idle_device hs (v := id) fun g hlt hg =>
        ⟨_, (Fdu.evaluateSteps_quiet (now := s.now) (d := d.answered.back) hlt hm ht
          (fun k => hsh (shields_congr hg k)) hty rfl hf ha (.inr hv)) ▸ Fdu.put_gives ..⟩
      rw [← out] at g
      obtain ⟨⟨hdev, -⟩, -⟩ := State.slotOut_gives g
      rw [hdev]
      simp [DeviceRecord.noted, DeviceRecord.answered, DeviceRecord.back, DeviceRecord.clearCounts, ho, hf, ht]
  · intro p d ra rb r s hh hp hk he h1 h64 hd hm hj ht hn hiso a e read byValue alarms joined note
    have h : SlotEnds p d s := ⟨hh, hp, hk, he, hd⟩
    have hsh := not_shields_of hiso
    have hby : valueJudged e.type = byValue := valueJudged_eq _
    have hal : alarmCondition e r = alarms := by
      unfold alarmCondition
      rw [hby]
    have hread : read = d.read r := (DeviceRecord.read_untested ht d).symm
    have hnote : ∀ y k, note y k = .device a e.zone e.type d.state y r.value r.operated r.fault r.test k := by
      intro y k
      rw [ht]
    rw [← hal, ← hby, hread]
    simp only [hnote]
    clear_value byValue alarms read note
    refine ⟨_, (s.slotOut p ra rb).notes, h.exec_eq, fun hq => ?_, fun hty hs hv hf ha hp => ?_, fun hty hs hv hf ha hp =>
      ⟨fun hc => ?_, fun hc => ?_⟩, fun hty hs hv hf ho hc => ?_, fun hty hs hf ha => ?_, fun hty hs ha =>
      ⟨fun hf => ?_, fun hf hc => ?_, fun hf hc hv => ?_⟩, fun hty => ⟨fun hs ha => ?_, fun hs => ?_⟩, fun hty hs => ?_⟩
    · have stays : (s.slotOut p ra rb).Stays s.fdu.idle := by
        by_cases hs : d.state = .disabled
        · rw [h.disabled hs]
          exact FduOut.stays_of rfl
        · exact h.good hs hj ▸ Fdu.goodReply_stays h.idle_device (.inr (hq.imp id .inl))
      obtain ⟨only, sends, fdu⟩ := State.slotOut_stays p ra rb stays.alarm
      exact ⟨only, sends, fdu ▸ Fdu.eq_of_bare stays.bare⟩
    · obtain ⟨⟨hdev, hw⟩, hb⟩ := State.slotOut_gives (h.gives (by simp [hs]) hj
        (Fdu.goodReply_entersPreAlarm h.idle_device hn hm ht hsh hty hs hv hf ha hp))
      exact ⟨hdev, hw, hb⟩
    · obtain ⟨⟨hdev, hw⟩, hb⟩ := State.slotOut_gives (h.gives (by simp [hs]) hj
        (Fdu.goodReply_countsClear h.idle_device hm ht hsh hty hs hv hf ha hp hc))
      exact ⟨hdev, hw, List.head?_eq_none_iff.1 hb⟩
    · obtain ⟨⟨hdev, hw⟩, hb⟩ := State.slotOut_gives (h.gives (by simp [hs]) hj
        (Fdu.goodReply_leavesPreAlarm h.idle_device hn hm ht hsh hty hs hv hf ha hp hc))
      exact ⟨hdev, hw, hb⟩
    · have g := h.gives (by simp [hs]) hj (Fdu.goodReply_counts h.idle_device hm ht hsh hty hs hv hf ho hc)
      obtain ⟨only, sends, -⟩ := State.slotOut_stays p ra rb g.alarm
      obtain ⟨⟨hdev, hw⟩, -⟩ := State.slotOut_gives g
      exact ⟨only, g.quiet ▸ sends, hdev, hw⟩
    · obtain ⟨⟨hdev, hw⟩, hb⟩ := State.slotOut_gives (h.gives (by rcases hs with hs | hs <;> simp [hs]) hj
        (Fdu.goodReply_faults h.idle_device hn hm ht hsh hty hs hf ha))
      exact ⟨hdev, hw, hb⟩
    · have g := Fdu.goodReply_counting (now := s.now) h.idle_device hm hty hs (.inl hf)
      obtain ⟨⟨hdev, -⟩, hb⟩ := State.slotOut_gives (h.gives (by simp [hs]) hj g)
      simp only [hf, Bool.true_or, if_true] at hdev
      exact ⟨hdev, List.head?_eq_none_iff.1 hb⟩
    · have g := Fdu.goodReply_counting (now := s.now) h.idle_device hm hty hs (.inr (.inr hc))
      obtain ⟨⟨hdev, -⟩, hb⟩ := State.slotOut_gives (h.gives (by simp [hs]) hj g)
      simp only [hf, ht, Bool.or_self, Bool.false_eq_true, if_false] at hdev
      exact ⟨hdev, List.head?_eq_none_iff.1 hb⟩
    · have g := Fdu.goodReply_recovers (now := s.now) h.idle_device hn hm hty hs hf ht hc fun g hlt hg =>
        Fdu.fromTestStep_back hlt ht (fun k => hsh (shields_congr hg k)) hf ha hv
      obtain ⟨⟨hdev, -⟩, hb⟩ := State.slotOut_gives (h.gives (by simp [hs]) hj g)
      exact ⟨hdev, hb⟩
    · obtain ⟨⟨hdev, hw⟩, hb⟩ := State.slotOut_gives (h.gives (by rcases hs with hs | hs <;> simp [hs]) hj
        (Fdu.goodReply_mistyped h.idle_device hn hty hs))
      exact ⟨hdev, hw, hb⟩
    · obtain ⟨⟨hdev, -⟩, hb⟩ := State.slotOut_gives (h.gives (by simp [hs]) hj
        (Fdu.goodReply_mistypedAlarm h.idle_device hty hs))
      exact ⟨hdev, List.head?_eq_none_iff.1 hb⟩
    · obtain ⟨⟨hdev, -⟩, hb⟩ := State.slotOut_gives (h.gives (by simp [hs]) hj (Fdu.goodReply_still h.idle_device (by simp [hs])
        (Fdu.evaluateSteps_alarm (d := d.answered) (Fdu.lt_of_device h.idle_device) hm hty hs)))
      exact ⟨hdev, List.head?_eq_none_iff.1 hb⟩
  · intro p d ra rb r s hh hp hk he h1 h64 hd hs hj hn a e shielded mistyped read recovered returned note becomes hu
    have h : SlotEnds p d s := ⟨hh, hp, hk, he, hd⟩
    have hlt := Fdu.lt_of_device h.idle_device
    have hsh : shielded ↔ s.fdu.idle.shields s.settings a := by
      simp only [shielded, Fdu.shields, isolable_iff]
      rfl
    have hbec : ∀ x t, t.fdu.devices = s.fdu.devices.set (a - 1) x ∧ t.fdu.watch = offered a x s.fdu.watch → becomes x t := by
      intro x t ⟨hd, hw⟩
      refine ⟨hd, ?_⟩
      simp only [hw, offered, qualifies_iff]
    rw [hsh] at hu
    clear_value becomes shielded
    have stays : (s.slotOut p ra rb).Stays s.fdu.idle := h.good hs hj ▸
      Fdu.goodReply_stays h.idle_device (hu.imp id fun k => .inr (.inr k))
    obtain ⟨only, sends, fdu⟩ := State.slotOut_stays p ra rb stays.alarm
    have gives : ∀ {x w b}, (s.fdu.idle.goodReply s.settings s.now p.address r).Gives p.address x w b s.fdu.idle →
        ((s.withFdu (s.slotOut p ra rb)).finish.fdu.devices = s.fdu.devices.set (a - 1) x ∧
          (s.withFdu (s.slotOut p ra rb)).finish.fdu.watch = w) ∧ (s.slotOut p ra rb).notes.head? = b := fun g =>
      State.slotOut_gives (h.gives hs hj g)
    have known : r.type = .known e.type → d.mismatch = true ∨ r.test = true ∨ s.fdu.idle.shields s.settings a := fun hty =>
      hu.imp (fun k => k.resolve_right (not_not.2 hty)) id
    refine ⟨_, (s.slotOut p ra rb).notes, h.exec_eq, only, sends, fdu ▸ Fdu.eq_of_bare stays.bare, fun hty hs => ?_,
      fun hty hs => ?_, fun hty hs => ⟨fun hm => ?_, fun hm hf => ?_, fun hm hf ht => ⟨fun hc => ?_, fun hc => ?_⟩⟩,
      fun hty => ⟨fun hs => ?_, fun ha => ?_, fun hs => ?_, fun hs => ?_⟩⟩
    · obtain ⟨hx, hb⟩ := gives (Fdu.goodReply_missing (v := id) h.idle_device hs hn rfl (.inl rfl) fun g hlt hg =>
        ⟨_, Fdu.evaluateSteps_unjudged hty hlt (d := d.answered.back) (.inl rfl)
          ((known hty).imp id (Or.imp id (shields_congr hg.symm))) ▸ Fdu.put_gives ..⟩)
      exact ⟨hbec _ _ hx, hb⟩
    · obtain ⟨hx, hb⟩ := gives (Fdu.goodReply_still h.idle_device (by rcases hs with hs | hs | hs <;> simp [hs])
        (Fdu.evaluateSteps_unjudged hty hlt (d := d.answered) hs (known hty)))
      exact ⟨hbec _ _ hx, List.head?_eq_none_iff.1 hb⟩
    · obtain ⟨hx, hb⟩ := gives (Fdu.goodReply_still h.idle_device (by simp [hs])
        ((Fdu.evaluateSteps_mistyped (d := d.answered) hlt (.inl hm)).trans (Fdu.mismatchStep_known hty _)))
      exact ⟨hbec _ _ hx, List.head?_eq_none_iff.1 hb⟩
    · obtain ⟨hx, hb⟩ := gives (Fdu.goodReply_counting h.idle_device hm hty hs (or_assoc.1 (.inl hf)))
      rw [if_pos (Bool.or_eq_true_iff.2 hf)] at hx
      exact ⟨hbec _ _ hx, List.head?_eq_none_iff.1 hb⟩
    · obtain ⟨hx, hb⟩ := gives (Fdu.goodReply_counting h.idle_device hm hty hs (.inr (.inr hc)))
      simp only [hf, ht, Bool.or_self, Bool.false_eq_true, if_false] at hx
      exact ⟨hbec _ _ hx, List.head?_eq_none_iff.1 hb⟩
    · have shields := ((known hty).resolve_left (by simp [hm])).resolve_left (by simp [ht])
      obtain ⟨hx, hb⟩ := gives (Fdu.goodReply_recovers h.idle_device hn hm hty hs hf ht hc fun g hlt hg =>
        Fdu.fromTestStep_ends (.inr (shields_congr hg.symm shields)))
      exact ⟨hbec _ _ hx, hb⟩
    · obtain ⟨hx, hb⟩ := gives (Fdu.goodReply_mistypedAlarm h.idle_device hty hs)
      exact ⟨hbec _ _ hx, List.head?_eq_none_iff.1 hb⟩
    · cases hs' : d.state with
      | normal => exact hbec _ _ (gives (Fdu.goodReply_mistyped h.idle_device hn hty (.inl hs'))).1
      | preAlarm => exact hbec _ _ (gives (Fdu.goodReply_mistyped h.idle_device hn hty (.inr hs'))).1
      | alarm => exact absurd hs' ha
      | fault =>
        obtain ⟨b, g⟩ := Fdu.goodReply_mistypedFault (now := s.now) h.idle_device hn hty hs'
        exact hbec _ _ (gives g).1
      | missing => exact hbec _ _ (gives (Fdu.goodReply_mistypedMissing h.idle_device hn hty hs')).1
      | disabled => exact absurd hs' hs
    · exact (gives (Fdu.goodReply_mistyped h.idle_device hn hty hs)).2
    · exact (gives (Fdu.goodReply_mistypedMissing h.idle_device hn hty hs)).2

end Sys2Proof.Machine
end

section
/-!
The walk test: its requests, the clearing of the sounder-circuit faults, and the reply that confirms (R118, R145 to R148).
-/

namespace Sys2Proof.Machine

open Sys2Proof.Safety

/-! ## Replies that confirm (R118, R123) -/

/-- The conditions of TABLE XLIV for the confirming number to be reached. -/
theorem confirms_of {e : DeviceConfig} {r : LoopReply} {n : Nat}
    (h : match e.type with
      | .smoke | .beam => e.alarm ≤ r.value ∧ n = 2
      | .heat => e.alarm ≤ r.value ∧ n = 1
      | .callpoint | .input => r.operated = true ∧ n = 1) :
    alarmCondition e r = true ∧ n + 1 = confirmingNumber e.type := by
  revert h
  unfold alarmCondition
  cases e.type <;> simp +contextual [valueJudged, confirmingNumber]

section
variable {a : Nat} {f : Fdu} {c : Settings} {now : Nat} {r : LoopReply} {d : DeviceRecord}

/-- The reply that brings a device to its confirming number is handed to the walk test or to the fire state machine. -/
theorem Fdu.evaluateSteps_confirms (hlt : a - 1 < f.devices.length) (hs : d.state = .normal ∨ d.state = .preAlarm)
    (hm : d.mismatch = false) (hty : r.type = .known (c.device a).type) (ht : r.test = false) (hsh : ¬ f.shields c a)
    (hc : alarmCondition (c.device a) r = true ∧ d.confirm + 1 = confirmingNumber (c.device a).type) :
    (f.put a d).evaluateSteps c now a r =
      if f.underWalk (c.device a).zone then (f.put a { d.noted r with confirm := d.confirm + 1 }).walkConfirm c now a
      else (f.put a { d.noted r with confirm := d.confirm + 1 }).enterAlarm c a := by
  obtain ⟨hal, hn⟩ := hc
  have hk : (d.noted r).counted (c.device a) r = { d.noted r with confirm := d.confirm + 1 } := by
    simp [DeviceRecord.counted, hal, DeviceRecord.noted]
  rw [Fdu.evaluateSteps_live hlt hm hty hs, Fdu.fromTestStep_judges hlt ht hsh, hk]
  exact if_pos hn

end

/-! ## Confirmations of the walk test (R147) -/

/-- The record of a device whose alarm the walk test has taken (R147). -/
def DeviceRecord.walked (now : Nat) (d : DeviceRecord) : DeviceRecord :=
  { d.clearCounts with state := .normal, walk := some (now + 5000) }

theorem Fdu.walkConfirm_spec {a : Nat} {f : Fdu} {d : DeviceRecord} (hlt : a - 1 < f.devices.length) (c : Settings)
    (now : Nat) : ∃ g zs, Fdu.Judged a (d.walked now) (offered a (d.walked now) f.watch) f g ∧
      (∀ b ∈ zs, ∃ z k x y o, b = .zone z k x y o) ∧ (f.put a d).walkConfirm c now a =
        { fdu := { g with fire := { g.fire with
            walk := f.fire.walk.map fun w => { w with count := saturate 255 w.count } } },
          notes := .walkConfirmed a (c.device a).type (confirmingNumber (c.device a).type) d.value :: zs, alarm := none } := by
  have h := ((f.put_judged a (d.walked now)).offer hlt).rederive c
  rw [← Fdu.put_modify hlt d] at h
  refine ⟨_, _, h, Fdu.rederive_notes c
    (((f.put a d).modifyDevice a (DeviceRecord.walked now)).offerWatch a), ?_⟩
  unfold Fdu.walkConfirm
  dsimp only
  rw [Fdu.put_device hlt]
  rfl

section
variable {p : Poll} {d : DeviceRecord} {ra rb : Reception} {r : LoopReply} {s : State} {w : WalkTest}
  (h : SlotEnds p d s) (hs : d.state = .normal ∨ d.state = .preAlarm) (hm : d.mismatch = false)
  (hj : judgeSlot s.fdu.mode ra rb = .good r) (hty : r.type = .known (s.settings.device p.address).type)
  (ht : r.test = false)
  (hc : alarmCondition (s.settings.device p.address) r = true ∧
    d.confirm + 1 = confirmingNumber (s.settings.device p.address).type)
include h hs hm hj hty ht hc

/-- What the end of the slot comes to where the reply confirms. -/
theorem SlotEnds.confirms (hsh : ¬ s.fdu.idle.shields s.settings p.address) : s.slotOut p ra rb =
    (if s.fdu.underWalk (s.settings.device p.address).zone then
        (s.fdu.idle.put p.address { d.read r with confirm := d.confirm + 1 }).walkConfirm s.settings s.now p.address
      else (s.fdu.idle.put p.address { d.read r with confirm := d.confirm + 1 }).enterAlarm s.settings p.address).andThen
        fun f => FduOut.of (f.offerWatch p.address) := by
  have hlt := Fdu.lt_of_device h.idle_device
  have hne : d.state ≠ .disabled ∧ d.state ≠ .missing := by rcases hs with hs | hs <;> simp [hs]
  rw [h.good hne.1 hj, Fdu.goodReply_eq h.idle_device, if_neg hne.2, FduOut.of_andThen,
    Fdu.evaluateSteps_confirms (d := d.answered) hlt hs hm hty ht hsh hc]
  rfl

/-- A confirmation in the zone under test (R147). -/
theorem SlotEnds.walks (hi : s.fdu.isolated (s.settings.device p.address).zone = false) (hw : s.fdu.fire.walk = some w)
    (hz : w.zone = (s.settings.device p.address).zone) (hn : s.fdu.watch.Nodup) :
    ∃ bs, (s.slotOut p ra rb).alarm = none ∧
      (s.slotOut p ra rb).fdu.devices = s.fdu.devices.set (p.address - 1) ((d.read r).walked s.now) ∧
      (s.slotOut p ra rb).fdu.watch = s.fdu.watch.erase p.address ∧
      (s.slotOut p ra rb).fdu.fire = { s.fdu.fire with walk := some { w with count := min 255 (w.count + 1) } } ∧
      (∀ b ∈ bs, ∃ z k x y o, b = .zone z k x y o) ∧ (s.slotOut p ra rb).notes =
        .walkConfirmed p.address (s.settings.device p.address).type (d.confirm + 1) r.value :: bs := by
  have hlt := Fdu.lt_of_device h.idle_device
  have under : s.fdu.underWalk (s.settings.device p.address).zone = true := by simp [Fdu.underWalk, hw, hz]
  have out := h.confirms hs hm hj hty ht hc (ra := ra) (rb := rb) (not_shields_of (.inl hi))
  obtain ⟨g, zs, judged, hzs, he⟩ := Fdu.walkConfirm_spec (d := { d.read r with confirm := d.confirm + 1 }) hlt s.settings s.now
  rw [if_pos under, he] at out
  rw [offered_leaves rfl] at judged
  have hdev : ∀ x, ({ g with fire := x } : Fdu).device p.address = (d.read r).walked s.now := fun x =>
    Fdu.device_eq (judged.getElem? hlt)
  refine ⟨zs, by rw [out]; rfl, ?_, ?_, ?_, hzs, ?_⟩
  · rw [out]
    exact (Fdu.offerWatch_devices ..).trans judged.devices
  · rw [out]
    refine (Fdu.offerWatch_watch ..).trans ?_
    rw [hdev, offered_leaves rfl]
    exact (congrArg (List.erase · p.address) judged.watch).trans
      (List.erase_of_not_mem fun k => (hn.mem_erase_iff.1 k).1 rfl)
  · rw [out]
    show (Fdu.offerWatch _ _).fire = _
    rw [Fdu.offerWatch_frame]
    show ({ g.fire with walk := _ } : FireRecord) = _
    rw [judged.fire]
    show ({ s.fdu.fire with walk := s.fdu.fire.walk.map _ } : FireRecord) = _
    rw [hw]
    rfl
  · rw [out, hc.2]
    exact List.append_nil _

end

/-! ## Requests (R146, R148) -/

section
variable {s : State}

theorem State.fireQuiet_iff : s.fireQuiet = true ↔ s.fdu.fire.state = .quiet := decide_eq_true_iff

theorem State.decideWalkTest_accepted {z : Nat} (h1 : 1 ≤ z) (h16 : z ≤ 16) (hp : s.phase = .dark)
    (hf : s.fdu.fire.state = .quiet) (hw : s.fdu.fire.walk = none) (hi : s.fdu.isolated z = false) :
    s.decideWalkTest z = (s.putFdu (FduOut.of { s.fdu with
      fire := { s.fdu.fire with walk := some { zone := z, started := s.now, count := 0 } } }), .done .empty) := by
  unfold State.decideWalkTest
  rw [if_neg (by simp [zoneOk_of_range h1 h16]), if_neg (by simp [hp]), if_neg (by simp [State.fireQuiet_iff.2 hf]),
    if_neg (by simp [hw, hi])]
  rfl

theorem State.decideWalkTestEnd_accepted {w : WalkTest} (hw : s.fdu.fire.walk = some w) :
    s.decideWalkTestEnd = (s.putFdu
      { fdu := { s.fdu with fire := { s.fdu.fire with walk := none } }, notes := [.walkEnded w.zone w.count .request],
        alarm := none },
      .done .empty) := by
  unfold State.decideWalkTestEnd
  rw [hw]
  rfl

theorem State.decideFireRead_clears (s : State) : s.decideFireRead true = (s.putFdu (FduOut.of { s.fdu with
    sounderFaults := s.fdu.sounderFaults.mapIdx fun i b => b && !decide (s.lmu.limitState (i + 2) = .normal) }),
      .done (.fire s.readFire)) := by
  simp only [State.decideFireRead, Bool.true_and]
  rfl

end

/-- Settles O47: the requests by the first check that fails, and the confirmation by the evaluation's branch for a zone under
test. -/
theorem walkTestAndFaultClear : Obligations.WalkTestAndFaultClear := by
  refine ⟨fun z s ha => ⟨fun h => refuses_of_decided ha rfl (if_pos (zoneOk_eq_false.2 h)), fun h1 h16 => ⟨fun hp => ?_,
    fun hp hf => ?_, fun hp hf => ⟨fun h => ?_, fun hw hi => ?_⟩⟩, fun hw => ?_, fun w hw => ?_, ?_⟩, ?_⟩
  · exact refuses_of_decided ha rfl (by simp [State.decideWalkTest, zoneOk_of_range h1 h16, hp])
  · exact refuses_of_decided ha rfl (by simp [State.decideWalkTest, zoneOk_of_range h1 h16, hp, State.fireQuiet, hf])
  · exact refuses_of_decided ha rfl (by simp [State.decideWalkTest, zoneOk_of_range h1 h16, hp, State.fireQuiet, hf, h])
  · exact exec_putFdu (c := .walkTest z) ha rfl (State.decideWalkTest_accepted (s := s.hunting) h1 h16 hp hf hw hi)
  · exact refuses_of_decided ha rfl (by simp [State.decideWalkTestEnd, hw])
  · exact exec_putFdu (c := .walkTestEnd) ha rfl (State.decideWalkTestEnd_accepted (s := s.hunting) hw)
  · obtain ⟨t, he, only, fdu, replies⟩ := exec_putFdu (c := .fireRead true) ha rfl s.hunting.decideFireRead_clears
    refine ⟨t, he, only, by rw [fdu]; rfl, fun i b hb => ?_, replies⟩
    rw [fdu]
    show (List.mapIdx _ s.fdu.sounderFaults)[i]? = _
    rw [List.getElem?_mapIdx, hb]
    rfl
  · intro p d w ra rb r s hh hp hk he h1 h64 hd hs hm hj hty ht e hc hi hw hz hn
    have h : SlotEnds p d s := ⟨hh, hp, hk, he, hd⟩
    obtain ⟨bs, alarm, devices, watch, fire, hbs, notes⟩ :=
      h.walks (ra := ra) (rb := rb) hs hm hj hty ht (confirms_of hc) hi hw hz hn
    obtain ⟨only, sends, fdu⟩ := State.slotOut_stays p ra rb alarm
    refine ⟨_, bs, h.exec_eq, only, ?_, fdu ▸ watch, fdu ▸ fire, hbs, notes ▸ sends⟩
    rw [fdu, devices, DeviceRecord.read_untested ht]
    rfl

end Sys2Proof.Machine
end

section
/-!
The start of a poll slot: which poll takes it, and what it sends (R113, R114, R122, R124).
-/

namespace Sys2Proof.Machine

open Sys2Proof.Safety

/-! ## The four polls that may wait (R113) -/

theorem Fdu.retryWaiting_some {a : Nat} {c : Settings} {f : Fdu} (h1 : 1 ≤ a) (h64 : a ≤ 64)
    (hr : (f.device a).retry = true) (hs : a ∈ c.scanList)
    (hl : ∀ b, 1 ≤ b → b < a → (f.device b).retry = false ∨ b ∉ c.scanList) : f.retryWaiting c = some a := by
  unfold Fdu.retryWaiting addresses
  rw [List.find?_map, List.find?_range_eq_some.2, Option.map_some, Nat.sub_add_cancel h1]
  refine ⟨?_, List.mem_range.2 (by omega), fun b hb => ?_⟩
  · simp [Nat.sub_add_cancel h1, hr, hs]
  · rcases hl (b + 1) (by omega) (by omega) with h | h <;> simp [h]

theorem Fdu.retryWaiting_none {c : Settings} {f : Fdu}
    (h : ∀ a, 1 ≤ a → a ≤ 64 → (f.device a).retry = false ∨ a ∉ c.scanList) : f.retryWaiting c = none := by
  refine List.find?_eq_none.2 fun a ha => ?_
  obtain ⟨h1, h64⟩ := mem_addresses.1 ha
  rcases h a h1 h64 with h | h <;> simp [h]

theorem entriesAfter_of_not_mem {a : Nat} : ∀ {w : List Nat}, a ∉ w → entriesAfter a w = []
  | [], _ => rfl
  | x :: w, h => by
    rw [List.mem_cons, not_or] at h
    rw [entriesAfter, if_neg (Ne.symm h.1), entriesAfter_of_not_mem h.2]

theorem entriesAfter_append {a : Nat} (rest : List Nat) : ∀ {polled : List Nat}, a ∉ polled →
    entriesAfter a (polled ++ a :: rest) = rest
  | [], _ => if_pos rfl
  | x :: polled, h => by
    rw [List.mem_cons, not_or] at h
    rw [List.cons_append, entriesAfter, if_neg (Ne.symm h.1), entriesAfter_append rest h.2]

theorem mem_of_entriesAfter {a b : Nat} : ∀ {w : List Nat}, b ∈ entriesAfter a w → b ∈ w
  | x :: w, h => by
    rw [entriesAfter] at h
    split at h
    · exact List.mem_cons_of_mem x h
    · exact List.mem_cons_of_mem x (mem_of_entriesAfter h)

/-- The order in which a watch opportunity goes through the watch list: the entries after the one the pointer names, then the
whole list (R122). -/
def Fdu.watchOrder (f : Fdu) : List Nat :=
  match f.watchPtr with
  | some p => entriesAfter p f.watch ++ f.watch
  | none => f.watch

theorem Fdu.nextWatch_eq (c : Settings) (f : Fdu) : f.nextWatch c = f.watchOrder.find? fun a => c.scanList.contains a := by
  unfold Fdu.nextWatch Fdu.watchOrder
  cases f.watchPtr <;> rfl

theorem Fdu.mem_watchOrder {a : Nat} {f : Fdu} (h : a ∈ f.watchOrder) : a ∈ f.watch := by
  unfold Fdu.watchOrder at h
  split at h
  · exact (List.mem_append.1 h).elim mem_of_entriesAfter id
  · exact h

theorem Fdu.watchOrder_head {f : Fdu} (h : ∀ p, f.watchPtr = some p → p ∉ f.watch) : f.watchOrder = f.watch := by
  unfold Fdu.watchOrder
  split
  · next p hp => rw [entriesAfter_of_not_mem (h p hp), List.nil_append]
  · rfl

theorem Fdu.watchOrder_after {f : Fdu} {p : Nat} {polled rest : List Nat} (hp : f.watchPtr = some p)
    (hw : f.watch = polled ++ p :: rest) (hn : p ∉ polled) : f.watchOrder = rest ++ f.watch := by
  unfold Fdu.watchOrder
  rw [hp]
  show entriesAfter p f.watch ++ f.watch = _
  rw [hw, entriesAfter_append rest hn]

theorem Fdu.nextWatch_some {c : Settings} {f : Fdu} {before after : List Nat} {a : Nat}
    (ho : f.watchOrder = before ++ a :: after) (hb : ∀ b ∈ before, b ∉ c.scanList) (ha : a ∈ c.scanList) :
    f.nextWatch c = some a := by
  rw [Fdu.nextWatch_eq, List.find?_eq_some_iff_append]
  exact ⟨by simpa using ha, before, after, ho, by simpa using hb⟩

theorem Fdu.nextWatch_none {c : Settings} {f : Fdu} (h : ∀ a ∈ f.watch, a ∉ c.scanList) : f.nextWatch c = none := by
  rw [Fdu.nextWatch_eq, List.find?_eq_none]
  exact fun a ha => by simpa using h a (Fdu.mem_watchOrder ha)

section
variable {c : Settings} {f : Fdu}

theorem Fdu.nextScan_some {k : Nat} (hk : k < c.scanList.length)
    (he : (c.device (c.scanList.getD ((f.scanPtr + k) % c.scanList.length) 0)).enabled = true)
    (hl : ∀ j, j < k → (c.device (c.scanList.getD ((f.scanPtr + j) % c.scanList.length) 0)).enabled = false) :
    f.nextScan c = some ((f.scanPtr + k) % c.scanList.length) := by
  unfold Fdu.nextScan
  dsimp only
  rw [List.find?_map, List.find?_range_eq_some.2 ⟨he, List.mem_range.2 hk, fun j hj => ?_⟩, Option.map_some]
  rw [Function.comp_apply, hl j hj]
  rfl

theorem Fdu.nextScan_none (h : ∀ a ∈ c.scanList, (c.device a).enabled = false) : f.nextScan c = none := by
  unfold Fdu.nextScan
  dsimp only
  rw [List.find?_map, Option.map_eq_none_iff, List.find?_eq_none]
  intro k hk
  have hlt : (f.scanPtr + k) % c.scanList.length < c.scanList.length := Nat.mod_lt _ (Nat.zero_lt_of_lt (List.mem_range.1 hk))
  rw [Function.comp_apply, List.getD_eq_getElem _ _ hlt, h _ (List.getElem_mem hlt)]
  exact Bool.false_ne_true

/-! ## What the arbiter sends (R113, R114, R124) -/

theorem Fdu.sendScan_some {i : Nat} (h : f.nextScan c = some i) : f.sendScan c =
    { f.send .scan (c.scanList.getD i 0) with interleave := f.interleave + 1, scanPtr := (i + 1) % c.scanList.length } := by
  unfold Fdu.sendScan
  rw [h]

theorem Fdu.sendScan_none (h : f.nextScan c = none) : f.sendScan c = f := by
  unfold Fdu.sendScan
  rw [h]

theorem Fdu.sendScan_frame (c : Settings) (f : Fdu) : f.sendScan c =
    { f with
      devices := (f.sendScan c).devices, poll := (f.sendScan c).poll, interleave := (f.sendScan c).interleave,
      scanPtr := (f.sendScan c).scanPtr } := by
  cases h : f.nextScan c with
  | none => rw [Fdu.sendScan_none h]
  | some i =>
    rw [Fdu.sendScan_some h]
    rfl

/-- A watch opportunity that no device takes has passed (R122). -/
def Fdu.pastWatch (f : Fdu) : Fdu := { f with interleave := if f.interleave = 3 then 0 else f.interleave }

theorem Fdu.startSlot_retry {a : Nat} (h : f.retryWaiting c = some a) :
    f.startSlot c = { f.send .retry a with slotDue := f.slotDue + 25 } := by
  unfold Fdu.startSlot
  rw [h]

variable (hr : f.retryWaiting c = none)
include hr

theorem Fdu.startSlot_continuity (h : f.contDue = true) : f.startSlot c =
    { f with contDue := false, poll := some { kind := .continuity, address := 0, started := f.slotDue }, slotDue := f.slotDue + 25 } := by
  unfold Fdu.startSlot
  simp only [hr, h, if_true]

variable (hc : f.contDue = false)
include hc

theorem Fdu.startSlot_watch {a : Nat} (hi : f.interleave = 3) (h : f.nextWatch c = some a) : f.startSlot c =
    { ({ f with interleave := 0 } : Fdu).sendWatch a with slotDue := f.slotDue + 25 } := by
  have hn : ({ f with interleave := 0 } : Fdu).nextWatch c = some a := h
  unfold Fdu.startSlot
  simp only [hr]
  rw [if_neg (by simp [hc]), if_pos hi, hn]

theorem Fdu.startSlot_scan (h : f.interleave ≠ 3 ∨ f.nextWatch c = none) :
    f.startSlot c = { f.pastWatch.sendScan c with slotDue := f.slotDue + 25 } := by
  unfold Fdu.startSlot Fdu.pastWatch
  by_cases hi : f.interleave = 3
  · have hn : ({ f with interleave := 0 } : Fdu).nextWatch c = none := h.resolve_left (not_not.2 hi)
    simp only [hr]
    rw [if_neg (by simp [hc]), if_pos hi, if_pos hi, hn]
  · simp only [hr]
    rw [if_neg (by simp [hc]), if_neg hi, if_neg hi]

end

/-- Assigning a slot moves the records, the pointers and the counts of the arbiter, and the poll that is out. -/
theorem Fdu.startSlot_frame (c : Settings) (f : Fdu) : f.startSlot c =
    { f with
      devices := (f.startSlot c).devices, poll := (f.startSlot c).poll, interleave := (f.startSlot c).interleave,
      contDue := (f.startSlot c).contDue, scanPtr := (f.startSlot c).scanPtr, watchPtr := (f.startSlot c).watchPtr,
      slotDue := f.slotDue + 25 } := by
  cases hr : f.retryWaiting c with
  | some a => rw [Fdu.startSlot_retry hr]; rfl
  | none =>
    cases hc : f.contDue with
    | true => rw [Fdu.startSlot_continuity hr hc]
    | false =>
      by_cases hs : f.interleave ≠ 3 ∨ f.nextWatch c = none
      · rw [Fdu.startSlot_scan hr hc hs, Fdu.sendScan_frame]
        rfl
      · push Not at hs
        obtain ⟨a, ha⟩ := Option.ne_none_iff_exists'.1 hs.2
        rw [Fdu.startSlot_watch hr hc hs.1 ha]
        rfl

/-- Settles O40: the poll that takes the slot by the order of the arbiter's checks. -/
theorem pollSlotStart : Obligations.PollSlotStart := by
  intro s hh hp hdue
  obtain ⟨t, he, only, fdu, -⟩ := event_putFdu (c := .pollSlotStart) (o := FduOut.of (s.fdu.startSlot s.settings)) hh
    (by simp [Fdu.slotStartDue, hp, hdue]) rfl rfl
  replace fdu : t.fdu = s.fdu.startSlot s.settings := fdu
  have frame := Fdu.startSlot_frame s.settings s.fdu
  refine ⟨t, he, only, ?_, ?_, ?_, ?_, fun a h1 h64 hr hs hl => ?_, fun hnone => ⟨fun hc => ?_, fun hc =>
    ⟨fun order before after a hi ho hord hb ha => ?_, fun h => ?_⟩⟩⟩
  · rw [fdu, frame]
  · rw [fdu, frame]
  · rw [fdu, frame]
  · rw [fdu, frame]
  · rw [fdu, Fdu.startSlot_retry (Fdu.retryWaiting_some h1 h64 hr hs hl)]
    exact ⟨rfl, rfl, rfl, rfl, rfl⟩
  · rw [fdu, Fdu.startSlot_continuity (Fdu.retryWaiting_none hnone) hc]
    exact ⟨rfl, rfl, rfl, rfl, rfl⟩
  · have horder : s.fdu.watchOrder = order := by
      rcases ho with ⟨hptr, rfl⟩ | ⟨p, polled, rest, hptr, hw, hn, rfl⟩
      · exact Fdu.watchOrder_head hptr
      · exact Fdu.watchOrder_after hptr hw hn
    rw [fdu, Fdu.startSlot_watch (Fdu.retryWaiting_none hnone) hc hi (Fdu.nextWatch_some (horder.trans hord) hb ha)]
    exact ⟨rfl, rfl, rfl, rfl, rfl⟩
  · have out := fdu.trans (Fdu.startSlot_scan (Fdu.retryWaiting_none hnone) hc (h.imp id Fdu.nextWatch_none))
    refine ⟨?_, fun k hk hen hlow => ?_, fun hdis => ?_⟩
    · rw [out, Fdu.sendScan_frame]
      rfl
    · rw [out, Fdu.sendScan_some (Fdu.nextScan_some (f := s.fdu.pastWatch) hk hen hlow)]
      exact ⟨rfl, rfl, rfl, rfl⟩
    · rw [out, Fdu.sendScan_none (Fdu.nextScan_none (f := s.fdu.pastWatch) hdis)]
      exact ⟨hp, rfl, rfl⟩

end Sys2Proof.Machine
end

section
/-!
A confirmed alarm as the fire state machine takes it in QUIET, in STAFF-ALERT and in FULL (R135, R136, R138, R143).
-/

namespace Sys2Proof.Machine

open Sys2Proof.Safety

/-! ## The entries to STAFF-ALERT and to FULL, and the re-sounding -/

/-- An entry to FULL leaves of what it begins with all that a reaction leaves. -/
theorem State.enterFull_kept (cause : FullCause) (s : State) : Kept (s.fullBase cause) (s.enterFull cause) := by
  unfold State.enterFull State.fullBase
  dsimp only
  split
  · exact (((State.callsAndFlush_kept _).trans (State.notify_kept _ _)).trans (State.notify_kept _ _)).trans
      (State.takeForcing_kept _ _)
  · exact ((State.fullCalls_kept _).trans (State.notify_kept _ _)).trans (State.takeForcing_kept _ _)

theorem State.fullBase_watch (cause : FullCause) (s : State) : (s.fullBase cause).fdu.watch = s.fdu.watch :=
  State.fullBase_cases cause s (P := fun u => u.fdu.watch = s.fdu.watch) rfl rfl

theorem State.enterStaffAlert_kept (s : State) : Kept s.alertRecord s.enterStaffAlert := by
  unfold State.enterStaffAlert
  exact ((State.announce_kept _ _ _).trans (State.putCalls_kept _ _ _)).trans (State.notify_kept _ _)

theorem State.enterStaffAlert_pfu (s : State) : s.enterStaffAlert.pfu = s.pfu := State.announce_pfu _ _ s.alertRecord

/-- The evacuation call of a re-sounding, with its outcome. -/
def State.called (s : State) : State × CallOutcome := s.loud.announce s.settings.fireTimes.evacTemplate evacuationCall

/-- A re-sounding issues the evacuation call afresh and keeps its id; nothing but notices follows. -/
theorem State.resound_eq (s : State) : ∃ bs, s.resound = State.notifyAll bs { s.called.1 with
    fdu := s.called.1.fdu.setFire { s.called.1.fdu.fire with evacCall := keptId s.called.2 s.called.1.fdu.fire.evacCall } } := by
  unfold State.resound
  dsimp only
  split
  · exact ⟨[_], rfl⟩
  · exact ⟨[], rfl⟩

theorem State.resound_kept (s : State) : Kept s.loud s.resound := by
  obtain ⟨bs, h⟩ := s.resound_eq
  rw [h]
  exact ((State.announce_kept _ _ _).trans (State.putCalls_kept _ _ _)).trans (State.notifyAll_kept _ _)

theorem State.resound_pfu (s : State) : s.resound.pfu = s.pfu := by
  obtain ⟨bs, h⟩ := s.resound_eq
  rw [h]
  exact State.announce_pfu _ _ s.loud

theorem State.resound_ctc (s : State) : s.resound.ctc = s.ctc := by
  obtain ⟨bs, h⟩ := s.resound_eq
  rw [h]
  exact State.announce_ctc _ _ s.loud

theorem State.resound_calls (s : State) :
    s.resound.clu = s.called.1.clu ∧ s.resound.fdu.fire.evacCall = keptId s.called.2 s.called.1.fdu.fire.evacCall := by
  obtain ⟨bs, h⟩ := s.resound_eq
  rw [h]
  exact ⟨rfl, rfl⟩

/-! ## The alarm handed over (R135, R138, R143) -/

/-- FDU's record with a first alarm (R135). -/
def State.firstAlarmed (a : Nat) (s : State) : State :=
  { s with fdu := s.fdu.setFire { s.fdu.fire with first := some (firstAlarm s.settings s.now a), count := 1 } }

/-- FDU's record with one more alarm counted (R138, R143). -/
def State.alarmCounted (s : State) : State :=
  { s with fdu := s.fdu.setFire { s.fdu.fire with count := saturate 255 s.fdu.fire.count } }

section
variable {a : Nat} {s : State}

theorem State.takeAlarm_eq (a : Nat) (s : State) : s.takeAlarm a =
    match s.fdu.fire.state with
    | .quiet =>
      if alertFirst s.settings s.phase a then (s.firstAlarmed a).enterStaffAlert else (s.firstAlarmed a).enterFull .direct
    | .staffAlert _ => s.alarmCounted.enterFull .secondAlarm
    | .full => s.alarmCounted.resound := rfl

theorem State.takeAlarm_alerts (h : s.fdu.fire.state = .quiet) (ha : alertFirst s.settings s.phase a = true) :
    s.takeAlarm a = (s.firstAlarmed a).enterStaffAlert := by
  rw [State.takeAlarm_eq, h]
  exact if_pos ha

theorem State.takeAlarm_direct (h : s.fdu.fire.state = .quiet) (ha : alertFirst s.settings s.phase a = false) :
    s.takeAlarm a = (s.firstAlarmed a).enterFull .direct := by
  rw [State.takeAlarm_eq, h]
  exact if_neg (Bool.eq_false_iff.1 ha)

theorem State.takeAlarm_second {x : AlertStage} (h : s.fdu.fire.state = .staffAlert x) :
    s.takeAlarm a = s.alarmCounted.enterFull .secondAlarm := by rw [State.takeAlarm_eq, h]

theorem State.takeAlarm_full (h : s.fdu.fire.state = .full) : s.takeAlarm a = s.alarmCounted.resound := by
  rw [State.takeAlarm_eq, h]

end

/-- What no alarm moves, whatever the fire state machine makes of it. -/
structure AlarmKeeps (s t : State) : Prop where
  devices  : t.fdu.devices = s.fdu.devices
  watch    : t.fdu.watch = s.fdu.watch
  settings : t.settings = s.settings
  store    : t.store = s.store
  dsu      : t.dsu = s.dsu

theorem AlarmKeeps.trans {s t u : State} (h : AlarmKeeps s t) (k : AlarmKeeps t u) : AlarmKeeps s u :=
  ⟨k.devices.trans h.devices, k.watch.trans h.watch, k.settings.trans h.settings, k.store.trans h.store, k.dsu.trans h.dsu⟩

theorem AlarmKeeps.of_untouched {s t : State} (h : Untouched s t) : AlarmKeeps s t :=
  ⟨h.devices, h.watch, h.settings, h.store, h.dsu⟩

theorem State.enterFull_keeps (cause : FullCause) (s : State) : AlarmKeeps s (s.enterFull cause) := by
  have k := (s.enterFull_kept cause).untouched
  have hb := s.fullBase_frame cause
  exact ⟨k.devices.trans (s.fullBase_fire cause).2.2, k.watch.trans (s.fullBase_watch cause),
    k.settings.trans (hb .settings (by decide)), k.store.trans (hb .store (by decide)), k.dsu.trans (hb .desk (by decide))⟩

theorem State.takeAlarm_keeps (a : Nat) (s : State) : AlarmKeeps s (s.takeAlarm a) := by
  have first : AlarmKeeps s (s.firstAlarmed a) := ⟨rfl, rfl, rfl, rfl, rfl⟩
  have counted : AlarmKeeps s s.alarmCounted := ⟨rfl, rfl, rfl, rfl, rfl⟩
  have alerted : AlarmKeeps s (s.firstAlarmed a).alertRecord := ⟨rfl, rfl, rfl, rfl, rfl⟩
  have loud : AlarmKeeps s s.alarmCounted.loud := ⟨rfl, rfl, rfl, rfl, rfl⟩
  cases h : s.fdu.fire.state with
  | quiet =>
    cases ha : alertFirst s.settings s.phase a with
    | true =>
      rw [State.takeAlarm_alerts h ha]
      exact alerted.trans (.of_untouched (State.enterStaffAlert_kept _).untouched)
    | false =>
      rw [State.takeAlarm_direct h ha]
      exact first.trans (State.enterFull_keeps _ _)
  | staffAlert x =>
    rw [State.takeAlarm_second h]
    exact counted.trans (State.enterFull_keeps _ _)
  | full =>
    rw [State.takeAlarm_full h]
    exact loud.trans (.of_untouched (State.resound_kept _).untouched)

/-- The fire record that an entry to FULL leaves, but for the calls kept. -/
theorem State.enterFull_record (cause : FullCause) (s : State) : (s.enterFull cause).fdu.fire =
    { s.fdu.fire.enterFull s.now cause with
      staffCall := (s.enterFull cause).fdu.fire.staffCall, evacCall := (s.enterFull cause).fdu.fire.evacCall } := by
  rw [← (s.fullBase_fire cause).1]
  exact (s.enterFull_kept cause).untouched.fireRecord

theorem State.enterFull_first (cause : FullCause) (s : State) : (s.enterFull cause).fdu.fire.first = s.fdu.fire.first := by
  rw [State.enterFull_record]
  rfl

theorem State.enterFull_count (cause : FullCause) (s : State) : (s.enterFull cause).fdu.fire.count = s.fdu.fire.count := by
  rw [State.enterFull_record]
  rfl

end Sys2Proof.Machine
end

section
/-!
A re-sounding's evacuation call: CLU's decision bars no call that plays, so that nothing but CLU and the gates follows it
(R143, R153 to R157, R174).
-/

namespace Sys2Proof.Machine

open Sys2Proof.Safety

/-! ## A call that is decided bars no play (R153 to R157, R168) -/

/-- An entry that a call merges with (R155). -/
def CallEntry.merging (t : Template) (e : CallEntry) : CallEntry :=
  { e with repeats := largerRepeats e.repeats t.repeats, gap := t.gap }

section
variable {now : Nat} {phase : Phase} {src : Source} {t : Template} {z : ZoneSet} {pool : Bool} {c : Clu}

theorem Clu.addEntry_entries (src : Source) (t : Template) (z : ZoneSet) (pool : Bool) (c : Clu) :
    (c.addEntry src t z pool).1.entries = c.numbered.entries ++ [c.numbered.entryFor src t z pool] := rfl

theorem Clu.addEntry_ids (hn : (c.entries.map (·.id)).Nodup) (hl : c.entries.length < 255) :
    ((c.addEntry src t z pool).1.entries.map (·.id)).Nodup := by
  have hids := c.numbered_ids
  have hlen : c.numbered.entries.length < 255 := by
    have := congrArg List.length hids
    simp only [List.length_map] at this
    omega
  rw [Clu.addEntry_entries, List.map_append]
  refine List.Nodup.append (hids ▸ hn) (List.nodup_singleton _) fun i hi hj => ?_
  obtain ⟨f, hf, hfi⟩ := List.mem_map.1 hi
  exact (Clu.freshId_spec hlen).2 f hf (hfi.trans (List.mem_singleton.1 hj))

theorem Clu.Unbarred.addEntry (h : c.Unbarred phase) : (c.addEntry src t z pool).1.Unbarred phase := by
  intro hp e he
  rw [Clu.addEntry_entries, List.mem_append, List.mem_singleton] at he
  rcases he with he | rfl
  · exact h.numbered hp e he
  · exact fun _ _ hz => nomatch hz

theorem Clu.Unbarred.decideCall (h : c.Unbarred phase) (hq : QueueOk c) (now : Nat) (src : Source) (t : Template) :
    (c.decideCall now phase src t).1.clu.Unbarred phase := by
  have hl := Clu.entries_lt hq
  unfold Clu.decideCall
  dsimp only
  split
  · exact h
  · split
    · exact h
    · split
      · exact h
      · split
        · next e _ =>
          have hids : ((c.modify e.id (·.merging t)).entries.map (·.id)).Nodup := by
            rw [Clu.ids_modify e.id (f := (·.merging t)) fun _ => rfl]
            exact hq.ids
          exact Clu.Unbarred.arrived (h.modify e.id (f := (·.merging t)) fun hp e he _ => h hp e he) hids now t.cls
        · split
          · exact h.addEntry.arrived (Clu.addEntry_ids hq.ids hl) now t.cls
          · split
            · exact h
            · next e _ =>
              refine Clu.Unbarred.arrived (h.remove e .evicted).addEntry ?_ now t.cls
              exact Clu.addEntry_ids (Clu.ids_remove _ _ hq.ids) (lt_of_le_of_lt (List.length_filter_le _ _) hl)

end

theorem Clu.mergeTarget_only {t : Template} {z : ZoneSet} {c : Clu} {e : CallEntry} (he : e ∈ c.entries) (hs : e.Same t z)
    (hn : ∀ f ∈ c.entries, f.Same t z → f = e) : c.mergeTarget t z = some e := by
  cases hm : c.mergeTarget t z with
  | none => exact absurd hs (by simpa [CallEntry.Same, and_assoc] using List.find?_eq_none.1 hm e he)
  | some f =>
    have hf : f.Same t z := by simpa [CallEntry.Same, and_assoc] using List.find?_some hm
    rw [hn f (List.mem_of_find?_eq_some hm) hf]

/-! ## The call of a re-sounding (R143) -/

section
variable {s : State}

theorem State.Current.congr {v : State} (h : s.Current) (hi : v.ilu = s.ilu) (hv : v.iluView = s.iluView) : v.Current := by
  unfold State.Current
  rw [hi, hv]
  exact h

theorem State.called_none (h : s.settings.fireTimes.evacTemplate = 255) : s.called = (s.loud, .absent) := if_pos h

theorem State.called_some (h : s.settings.fireTimes.evacTemplate ≠ 255) : s.called =
    ((s.loud.placeCall .safety (evacuationCall (s.settings.template s.settings.fireTimes.evacTemplate))).1,
      (s.loud.placeCall .safety (evacuationCall (s.settings.template s.settings.fireTimes.evacTemplate))).2.outcome) := if_neg h

theorem State.resound_uncalled (h : s.settings.fireTimes.evacTemplate = 255) :
    s.resound.clu = s.clu ∧ s.resound.fdu.fire.evacCall = s.fdu.fire.evacCall := by
  obtain ⟨hc, hf⟩ := s.resound_calls
  rw [State.called_none h] at hc hf
  exact ⟨hc, hf⟩

/-- CLU stands as its decision leaves it, and the id of the call is kept. -/
theorem State.resound_called (hc : s.Current) (hq : QueueOk s.clu) (h : s.settings.fireTimes.evacTemplate ≠ 255) {o : CluOut}
    {id : Nat} {merged : Bool} {zones : ZoneSet}
    (hd : s.clu.decideCall s.now s.phase .safety (evacuationCall (s.settings.template s.settings.fireTimes.evacTemplate)) =
      (o, .admitted id merged zones)) :
    s.resound.clu = o.clu ∧ s.resound.fdu.fire.evacCall = some id := by
  have hl : s.loud.Current := hc
  have hu := (hc.unbarred hq).decideCall hq s.now .safety
    (evacuationCall (s.settings.template s.settings.fireTimes.evacTemplate))
  rw [hd] at hu
  obtain ⟨hp, -⟩ := State.placeCall_placed (s := s.loud) hl hd hu
  obtain ⟨hclu, hf⟩ := s.resound_calls
  rw [State.called_some h, hp] at hclu hf
  exact ⟨hclu, hf⟩

/-- Where the entry of the kept call still stands the call merges with it (R155). -/
theorem State.resound_merges (hc : s.Current) (hq : QueueOk s.clu) (h : s.settings.fireTimes.evacTemplate ≠ 255)
    {T : Template} (hT : T = evacuationCall (s.settings.template s.settings.fireTimes.evacTemplate)) (hok : templateOk T = true)
    {e : CallEntry} (he : e ∈ s.clu.entries) (hs : e.Same T T.zones) (hn : ∀ f ∈ s.clu.entries, f.Same T T.zones → f = e) :
    s.resound.fdu.fire.evacCall = some e.id ∧ ∃ f ∈ s.resound.clu.entries, f.id = e.id ∧ f.repeats = 0 ∧ f.gap = T.gap := by
  have hcls : isShowOrHouse T.cls = false := by rw [hT]; rfl
  have hz : playZones s.phase T.cls T.zones = T.zones := if_neg (by simp [hcls])
  have hne : playZones s.phase T.cls T.zones ≠ 0 := hz.symm ▸ ((templateOk_iff T).1 hok).1
  have hm : s.clu.mergeTarget T (playZones s.phase T.cls T.zones) = some e := hz.symm ▸ Clu.mergeTarget_only he hs hn
  obtain ⟨u, f, hp, -, hf, hfe, -⟩ := State.placeCall_merges (s := s.loud) (src := .safety) hc hq hok (by simp [hcls]) hne hm
  obtain ⟨hclu, hev⟩ := s.resound_calls
  rw [State.called_some h, ← hT, hp] at hclu hev
  refine ⟨hev, f, hclu ▸ hf, by rw [hfe], ?_, by rw [hfe]⟩
  rw [hfe]
  show largerRepeats e.repeats T.repeats = 0
  rw [hT]
  exact if_pos (.inr rfl)

end

end Sys2Proof.Machine
end

section
/-!
The reply that confirms an alarm, from the slot's end to the fire state machine (R116, R118, R120, R135, R138, R143).
-/

namespace Sys2Proof.Safety

open Sys2Proof.Machine

/-! ## A state seen from before FDU's change -/

section
variable {s : State}

/-- An entry to FULL seen from the state before the record was changed. -/
theorem EntersFull.rebase {cause : FullCause} {v t : State} {f : Fdu} (k : EntersFull v cause t)
    (hv : v = { s with fdu := v.fdu, lp := v.lp }) (hf : t.fdu.devices = f.devices) :
    EntersFull { s with fdu := f } cause t := by
  rw [hv] at k
  exact ⟨k.now, k.held, k.settings, k.store, k.lmu, k.dsu, k.pending, k.full, k.cause, k.loud, k.timer, k.entry, k.noWalk, hf,
    k.isolation, k.sounders, k.hoist, k.release, k.relay, k.curtain, k.evacuates, k.stays⟩

/-- A change of FDU that keeps the fire state keeps what rests on it. -/
theorem CurtainFalls.rebase {v : State} (h : CurtainFalls s) (hv : v = { s with fdu := v.fdu, lp := v.lp })
    (hf : v.fdu.fire.state = s.fdu.fire.state) : CurtainFalls v := by
  have forced : v.forced = s.forced := by
    rw [hv, State.forced, State.forced, State.fireFull, State.fireFull, hf]
    rfl
  rw [CurtainFalls, forced, hv]
  exact h

theorem Untouched.rebase {v t : State} (k : Untouched v t) (hv : v = { s with fdu := v.fdu, lp := v.lp }) :
    Untouched { s with fdu := t.fdu } t.finish := by
  rw [hv] at k
  exact ⟨k.now, k.held, k.settings, k.store, k.lmu, k.dsu, k.pending, rfl, k.supply, k.demand⟩

end

end Sys2Proof.Safety

namespace Sys2Proof.Machine

open Sys2Proof.Safety

/-! ## The device that enters ALARM (R120) -/

/-- The record of a device that enters ALARM (R120). -/
def DeviceRecord.alarmed (d : DeviceRecord) : DeviceRecord := { d.clearRuns with state := .alarm }

theorem Fdu.enterAlarm_judged {a : Nat} {f : Fdu} {d : DeviceRecord} (hlt : a - 1 < f.devices.length) (c : Settings) :
    ((f.put a d).enterAlarm c a).alarm = some a ∧
      Fdu.Judged a d.alarmed (offered a d.alarmed f.watch) f ((f.put a d).enterAlarm c a).fdu :=
  ⟨rfl, Fdu.change_judged hlt c (.confirmation (confirmingNumber (c.device a).type)) d DeviceRecord.alarmed⟩

/-- The end of the slot hands the device over in ALARM. -/
theorem SlotEnds.alarms {p : Poll} {d : DeviceRecord} {ra rb : Reception} {r : LoopReply} {s : State} (h : SlotEnds p d s)
    (hs : d.state = .normal ∨ d.state = .preAlarm) (hm : d.mismatch = false) (hj : judgeSlot s.fdu.mode ra rb = .good r)
    (hty : r.type = .known (s.settings.device p.address).type) (ht : r.test = false)
    (hc : alarmCondition (s.settings.device p.address) r = true ∧
      d.confirm + 1 = confirmingNumber (s.settings.device p.address).type)
    (hsh : ¬ s.fdu.idle.shields s.settings p.address) (hw : s.fdu.fire.walk = none) (hn : s.fdu.watch.Nodup) :
    (s.slotOut p ra rb).alarm = some p.address ∧
      Fdu.Judged p.address (d.read r).alarmed (s.fdu.watch.erase p.address) s.fdu.idle (s.slotOut p ra rb).fdu := by
  have hlt := Fdu.lt_of_device h.idle_device
  have under : ¬ s.fdu.underWalk (s.settings.device p.address).zone = true := by simp [Fdu.underWalk, hw]
  have out := h.confirms hs hm hj hty ht hc hsh (ra := ra) (rb := rb)
  obtain ⟨alarm, judged⟩ := Fdu.enterAlarm_judged (d := { d.read r with confirm := d.confirm + 1 }) hlt s.settings
  rw [if_neg under] at out
  have offer := judged.offer hlt
  rw [offered_offered (w := s.fdu.idle.watch) hn, offered_leaves rfl] at offer
  rw [out]
  exact ⟨congrArg (Option.or · none) alarm, offer⟩

theorem State.withFdu_alarm {o : FduOut} {a : Nat} (h : o.alarm = some a) (s : State) :
    s.withFdu o = (s.putFdu o).takeAlarm a := by
  unfold State.withFdu
  dsimp only
  rw [h]

theorem alertFirst_iff (c : Settings) (phase : Phase) (a : Nat) : alertFirst c phase a = true ↔
    ((c.device a).type = .smoke ∨ (c.device a).type = .beam ∨ (c.device a).type = .input) ∧
      (c.zone (c.device a).zone).delay = true ∧
      (phase = .houseOpen ∨ phase = .running ∨ phase = .interval ∨ phase = .resuming ∨ phase = .stopped) := by
  have hp : publicPhase phase = true ↔
      phase = .houseOpen ∨ phase = .running ∨ phase = .interval ∨ phase = .resuming ∨ phase = .stopped := by
    cases phase <;> simp [publicPhase]
  simp [alertFirst, hp, and_assoc, or_assoc]

/-- Settles O42: the slot's end hands the device over in ALARM, and the fire state machine takes it by the state it is in; an
entry to FULL and a re-sounding leave what they begin with, but for what their reactions touch. -/
theorem confirmedAlarm : Obligations.ConfirmedAlarm := by
  intro p d ra rb r s hh hp hk he h1 h64 hd hs hm hj hty ht e hc hiso hw hn alert number T
  have h : SlotEnds p d s := ⟨hh, hp, hk, he, hd⟩
  obtain ⟨alarm, judged⟩ := h.alarms (ra := ra) (rb := rb) hs hm hj hty ht (confirms_of hc) (not_shields_of hiso) hw hn
  have hexec := h.exec_eq (ra := ra) (rb := rb)
  rw [State.withFdu_alarm alarm] at hexec
  generalize s.slotOut p ra rb = o at alarm judged hexec
  have keeps := State.takeAlarm_keeps p.address (s.putFdu o)
  have hdev := keeps.devices.trans judged.devices
  have hfire : (s.putFdu o).fdu.fire = s.fdu.fire := judged.fire
  have state : (s.putFdu o).fdu.fire.state = s.fdu.fire.state := congrArg FireRecord.state hfire
  have evacCall : (s.putFdu o).fdu.fire.evacCall = s.fdu.fire.evacCall := congrArg FireRecord.evacCall hfire
  have first : (s.putFdu o).fdu.fire.first = s.fdu.fire.first := congrArg FireRecord.first hfire
  have count : min 255 ((s.putFdu o).fdu.fire.count + 1) = min 255 (s.fdu.fire.count + 1) := by rw [hfire]
  refine ⟨_, hexec, ?_, keeps.watch.trans judged.watch, keeps.settings, keeps.store, keeps.dsu, fun hq => ?_, fun x hx => ?_,
    fun hf => ?_⟩
  · rw [Fdu.device_eq (d := (d.read r).alarmed), DeviceRecord.read_untested ht]
    · rfl
    · refine (congrArg (·[p.address - 1]?) hdev).trans ?_
      exact List.getElem?_set_self (Fdu.lt_of_device hd)
  · have hq' : (s.putFdu o).fdu.fire.state = .quiet := state.trans hq
    have hal : alertFirst s.settings s.phase p.address = true ↔ alert := alertFirst_iff ..
    cases ha : alertFirst s.settings s.phase p.address with
    | true =>
      rw [State.takeAlarm_alerts hq' ha]
      have k := (State.enterStaffAlert_kept ((s.putFdu o).firstAlarmed p.address)).untouched
      exact ⟨k.first, k.count, k.entry, fun _ => ⟨k.fireState, k.rebase rfl, State.enterStaffAlert_pfu _, k.timer⟩,
        fun hn => absurd (hal.1 ha) hn⟩
    | false =>
      rw [State.takeAlarm_direct hq' ha] at hdev ⊢
      have record := State.enterFull_record .direct ((s.putFdu o).firstAlarmed p.address)
      refine ⟨State.enterFull_first .., State.enterFull_count .., congrArg FireRecord.entry record,
        fun h => absurd (hal.2 h) (Bool.eq_false_iff.1 ha), fun _ => ⟨congrArg FireRecord.state record,
        congrArg FireRecord.cause record, congrArg FireRecord.timer record, fun ho hf => ?_⟩⟩
      exact (State.enterFull_enters .direct (s := (s.putFdu o).firstAlarmed p.address) hh ho
        (CurtainFalls.rebase hf rfl state)).rebase rfl rfl
  · have hx' : (s.putFdu o).fdu.fire.state = .staffAlert x := state.trans hx
    rw [State.takeAlarm_second hx'] at hdev ⊢
    have record := State.enterFull_record .secondAlarm (s.putFdu o).alarmCounted
    refine ⟨?_, ?_, congrArg FireRecord.state record, congrArg FireRecord.cause record, congrArg FireRecord.timer record,
      congrArg FireRecord.entry record, fun ho hf => ?_⟩
    · exact (State.enterFull_first ..).trans first
    · exact (State.enterFull_count ..).trans count
    · exact (State.enterFull_enters .secondAlarm (s := (s.putFdu o).alarmCounted) hh ho
        (CurtainFalls.rebase hf rfl state)).rebase rfl rfl
  · have hf' : (s.putFdu o).fdu.fire.state = .full := state.trans hf
    rw [State.takeAlarm_full hf']
    have kept := State.resound_kept (s.putFdu o).alarmCounted
    have full : (s.putFdu o).alarmCounted.resound.fdu.fire.state = .full := kept.untouched.fireState.trans hf'
    have loud : (s.putFdu o).alarmCounted.resound.fdu.fire.silenced = false := kept.untouched.silenced
    refine ⟨?_, ?_, kept.untouched.rebase rfl, State.resound_pfu _, State.resound_ctc _, fun hg hq => ?_⟩
    · exact kept.untouched.fireRecord.trans (congrArg (fun f : FireRecord => { f with
        silenced := false, count := min 255 (f.count + 1),
        staffCall := (s.putFdu o).alarmCounted.resound.fdu.fire.staffCall,
        evacCall := (s.putFdu o).alarmCounted.resound.fdu.fire.evacCall }) hfire)
    · show List.replicate 4 (s.putFdu o).alarmCounted.resound.fdu.fire.sounding = _
      rw [FireRecord.sounding, full, loud]
      rfl
    · have fireFull : (s.putFdu o).alarmCounted.fireFull = s.fireFull :=
        (congrArg (fun x => decide (x = FireState.full)) state :)
      have hcur : (s.putFdu o).alarmCounted.Current :=
        State.Current.congr (hg hh) rfl (congrArg (fun b => { s.iluView with fireFull := b }) fireFull)
      refine ⟨fun hnum => ?_, fun hnum o' id merged zones hd => State.resound_called hcur hq hnum hd,
        fun hnum hok e he _ hslot hzones hcls hn => ?_⟩
      · obtain ⟨hclu, hcall⟩ := State.resound_uncalled (s := (s.putFdu o).alarmCounted) hnum
        exact ⟨hclu, hcall.trans evacCall⟩
      · exact State.resound_merges hcur hq hnum rfl hok he ⟨hslot, hzones, hcls⟩
          fun f hf ⟨h1, h2, h3⟩ => hn f hf h1 h2 h3

end Sys2Proof.Machine
end
